-- ==== Sys2Proof/Word.lean ====
section
/-! DEFINITION. The word types of the AE7260: bytes, 32-bit register words, 64-byte lines (R3, R143, R170). -/

namespace Sys2Proof

/-- One byte. -/
abbrev Byte := BitVec 8

/-- One 32-bit register word, index register or lane (R4, Table 4-3). -/
abbrev Word := BitVec 32

/-- One Nerlor instruction word (R86). -/
abbrev Word64 := BitVec 64

/-- One 64-byte line of a scratchpad, of DRAM or of a flit's payload (R143, R170); byte 0 is bits 7..0 (R3). -/
abbrev Line := BitVec 512

/-- A Canopy route tag (Table 7-3). -/
abbrev Tag := BitVec 96

end Sys2Proof
end

