-- ==== Sys2Proof/Machine/Tab.lean ====
section
/-! DEFINITION. Sparse maps in one canonical form: a list of (key, value) pairs, keys strictly rising, no entry equal
to what an unlisted key reads as. The registers, the memories and the per-tile records of the state are such maps. -/

namespace Sys2Proof

/-- A sparse map from numbers; `Tab Byte` is a list of `Host.Cell`. -/
abbrev Tab (α : Type) := List (Nat × α)

namespace Machine

/-- What key `k` reads as: its entry, or the default of `k`. -/
def tabGet {α : Type} (d : Nat → α) : Tab α → Nat → α
  | [], k => d k
  | (j, v) :: t, k => if k = j then v else tabGet d t k

/-- Insert the pair in key order, replacing an entry of that key. -/
def tabPut {α : Type} : Tab α → Nat → α → Tab α
  | [], k, v => [(k, v)]
  | (j, w) :: t, k, v =>
    if k = j then (k, v) :: t else if k < j then (k, v) :: (j, w) :: t else (j, w) :: tabPut t k v

/-- Remove the entry of a key. -/
def tabDel {α : Type} : Tab α → Nat → Tab α
  | [], _ => []
  | (j, w) :: t, k => if k = j then tabDel t k else (j, w) :: tabDel t k

/-- Write a value: the default's own value removes the entry, so equal maps are equal lists. -/
def tabSet {α : Type} [DecidableEq α] (d : Nat → α) (t : Tab α) (k : Nat) (v : α) : Tab α :=
  if v = d k then tabDel t k else tabPut t k v

/-- Every key of the list lies above the bound and the keys rise strictly. -/
def tabSorted {α : Type} : Nat → Tab α → Bool
  | _, [] => true
  | lo, (j, _) :: t => decide (lo ≤ j) && tabSorted (j + 1) t

/-- The canonical form. -/
def tabWf {α : Type} [DecidableEq α] (d : Nat → α) (t : Tab α) : Bool :=
  tabSorted 0 t && t.all (fun p => decide (p.2 ≠ d p.1))

/-- Remove every entry whose key the predicate names. -/
def tabDrop {α : Type} (t : Tab α) (p : Nat → Bool) : Tab α := t.filter (fun e => !(p e.1))

/-- Write consecutive keys from `k`. -/
def tabSetList {α : Type} [DecidableEq α] (d : Nat → α) : Tab α → Nat → List α → Tab α
  | t, _, [] => t
  | t, k, v :: vs => tabSetList d (tabSet d t k v) (k + 1) vs

/-- Read `n` consecutive keys from `k`. -/
def tabGetList {α : Type} (d : Nat → α) (t : Tab α) (k : Nat) : Nat → List α
  | 0 => []
  | n + 1 => tabGet d t k :: tabGetList d t (k + 1) n

end Machine
end Sys2Proof
end

