-- ==== Sys2Proof/Machine/TypesTile.lean ====
section
/-! DEFINITION. Plain data of the tiles, the fabric, the counters and the barriers (chapters 04 to 08). -/

namespace Sys2Proof.Machine

/-- A dispatched instruction in the queue of its stream: the word, the index registers captured at dispatch (R85), the
resolution of ACM FIRST (R118), for each stream how many instructions must be complete before it starts (R81), and its
address. -/
structure QEntry where
  word  : Word64
  ix    : List Word
  first : Bool
  need  : List Nat
  pc    : Nat
  deriving DecidableEq, Repr

/-- An active loop: its counter, the address of the first body instruction and the address of its ENDLOOP (R92). -/
structure LoopFrame where
  lc     : Nat
  top    : Nat
  endAt  : Nat
  count  : Nat
  deriving DecidableEq, Repr

/-- A code image resident in instruction memory (R96). -/
structure Resident where
  frag : Nat
  base : Nat
  len  : Nat
  deriving DecidableEq, Repr

/-- The tile's loaded block (R116): the WFMT code and the bytes. -/
structure Block where
  fmt   : Nat
  bytes : List Byte
  deriving DecidableEq, Repr

/-- A transaction of a tile (R172): its TXID, whether it is a write, whether it is a counter update (R195), the WACKs still
due, and the ordinal of the DM instruction it belongs to; none once that instance has ended. -/
structure Txn where
  id    : Nat
  write : Bool
  sync  : Bool
  left  : Nat
  op    : Option Nat
  deriving DecidableEq, Repr

/-- A read request that a DM instruction has still to issue: the node, the line or DRAM address there, how many lines, and the
line at the requester. -/
structure RdJob where
  x    : Nat
  y    : Nat
  addr : Nat
  n    : Nat
  ret  : Nat
  deriving DecidableEq, Repr

/-- A started DM instruction that is not complete: its ordinal and address, the requests to issue, the answers due, the lines
(first, count) on which its reads and its own copy of a multicast land, and how many lines of that copy are still on their way; for DM.FWD the
lines (source, destination) still to forward, the tag of its flits, the destination and source counters, and its region (first line, count). -/
structure DmOp where
  ord    : Nat
  pc     : Nat
  todo   : List RdJob
  reads  : Nat
  land   : List (Nat × Nat)
  own    : Nat
  fwd    : List (Nat × Nat)
  fwdTag : Tag
  fwdDst : Nat
  fwdSrc : Nat
  region : Nat × Nat
  deriving DecidableEq, Repr

/-- A started SY instruction that is not complete; `pc` is its address. -/
inductive SyOp where
  /-- A counter update or barrier arrival held until the covered writes have taken effect (R192): tag, payload, TXIDs covered. -/
  | hold (pc : Nat) (tag : Tag) (pay : Word) (cov : List Nat)
  /-- FENCE.P: complete once the covered writes are visible (R138). -/
  | fence (pc : Nat) (cov : List Nat)
  /-- SC.WAIT: since when it has been late (R233), counter index, EQ, operand (R136); whether the condition has held. -/
  | wait (pc : Nat) (late : Option Nat) (idx : Nat) (eq : Bool) (v : Word) (met : Bool)
  /-- WAIT.ANY: likewise, destination register and conditions (index, EQ, operand) (R137); the number that held first. -/
  | any (pc : Nat) (late : Option Nat) (ixd : Nat) (conds : List (Nat × Bool × Word)) (met : Option Nat)
  /-- BAR.WAIT: slot and generation (R204). -/
  | bar (pc : Nat) (slot gen : Nat)
  deriving DecidableEq, Repr

/-- The sequencer and the streams of one tile (chapters 04, 05, 06). Stream order in lists: MX, VX, DM, SY. -/
structure TileSt where
  /-- The running fragment's number in the current table; none between instances (R95). -/
  cur       : Option Nat
  loading   : Bool
  ready     : Bool
  drain     : Bool
  align     : Bool
  halted    : Bool
  inReset   : Bool
  frag      : Nat
  pc        : Nat
  imgBase   : Nat
  imgLen    : Nat
  ix        : List Word
  lc        : List Word
  p         : List Word
  loops     : List LoopFrame
  queues    : List (List QEntry)
  disp      : List Nat
  comp      : List Nat
  dmOps     : List DmOp
  syOps     : List SyOp
  pendIx    : List Nat
  mxw       : List Bool
  vxr       : List Bool
  aligns    : Nat
  /-- The clock of the instance: FCLK cycles that its streams have had by `cycNs`, in 1/2000 of a cycle (R100, R372). -/
  cyc       : Nat
  cycNs     : Nat
  divLog    : Nat
  wdogMult  : Nat
  confHalt  : Bool
  confSeen  : Bool
  /-- SQ_CTRL.PRELOAD as of the instance's start (R96). -/
  preload   : Bool
  resident  : List Resident
  /-- The image of the next instance, loaded while this one runs (R96). -/
  pre       : Option Resident
  block     : Option Block
  arrived   : Tab Bool
  txns      : List Txn
  rampUntil : Nat
  droopUntil : Nat
  firstDone : Bool
  faultPc   : Nat
  faultCode : Nat
  deriving DecidableEq, Repr

/-- A tile with no instance, after reset (R83, R162). -/
def TileSt.reset : TileSt :=
  { cur := none, loading := false, ready := false, drain := false, align := false, halted := false,
    inReset := false, frag := 0, pc := 0, imgBase := 0, imgLen := 0, ix := List.replicate 16 0, lc := List.replicate 8 0,
    p := List.replicate 16 0, loops := [], queues := [[], [], [], []], disp := [0, 0, 0, 0], comp := [0, 0, 0, 0],
    dmOps := [], syOps := [], pendIx := [], mxw := [false, false], vxr := [false, false], aligns := 0, cyc := 0, cycNs := 0,
    divLog := 0, wdogMult := 3, confHalt := false, confSeen := false, preload := true, resident := [], pre := none,
    block := none, arrived := [], txns := [], rampUntil := 0, droopUntil := 0,
    firstDone := false, faultPc := 0, faultCode := 0 }

/-- The memories of the tiles (R143, R86, R163, R157): see Machine/Mem.lean for the keys. -/
structure TileMem where
  spad  : Tab Byte
  imem  : Tab Byte
  nmSh  : Tab Byte
  nmAct : Tab Byte
  acc   : Tab Word
  accFp : Tab Bool
  vreg  : Tab Word
  ctr   : Tab Word
  /-- Counters poisoned by an uncorrectable error (R485). -/
  ctrBad : Tab Bool
  deriving DecidableEq, Repr

/-- An input buffer of the fabric (Table 7-5): a node and one of its ports, 0 north, 1 east, 2 south, 3 west (Table 7-2) or 4 a tile's injection
port. The Trail at the west node (0, y) has four, two for each way: 5 its west and 6 its south end of the way south, 7 its south and 8 its
west end of the way north. -/
structure Stn where
  x    : Nat
  y    : Nat
  port : Nat
  deriving DecidableEq, Repr

/-- A flit in flight: its tag and payload, and the one destination this copy travels to (a multicast is one copy for each
destination, R34). `why` is the error of poisoned data that its sender has already logged; 0 none. The copies of one flit share its
number `fid`; `here` is the buffer that holds the copy, none while it waits at its sender for a credit, and `way` the buffers ahead of it
(R173). `peer` is the chip that a barrier flit of the tick unit goes to; 0 for other flits. -/
structure InFlit where
  tag  : Tag
  pay  : Line
  dx   : Nat
  dy   : Nat
  why  : Nat
  fid  : Nat
  here : Option Stn
  way  : List Stn
  peer : Nat
  deriving DecidableEq, Repr

/-- A transfer that a router has refused (R183): source node, TXID, and the router. -/
structure Refusal183 where
  sx : Nat
  sy : Nat
  txid : Nat
  x : Nat
  y : Nat
  deriving DecidableEq, Repr

/-- A transfer one of whose lines was poisoned (R184): source node and TXID, destination node. -/
structure Taint where
  sx   : Nat
  sy   : Nat
  txid : Nat
  dx   : Nat
  dy   : Nat
  deriving DecidableEq, Repr

/-- The fabric's own state (chapter 07). -/
structure FabSt where
  inflight : List InFlit
  refused  : List Refusal183
  tainted  : List Taint
  /-- Outputs (x, y, port) whose next grant is a REQ flit (R175). -/
  reqNext  : List (Nat × Nat × Nat)
  /-- The next flit's number; for each buffer and class the input port that the output leading there granted last (R175); for each row
  whether the last pair of its Trail slot went north (R177). -/
  nextFid  : Nat
  granted  : List (Stn × Nat × Nat)
  trailUp  : List Bool
  /-- Row tenants in force and whether several stands exist (R182, R395). -/
  stand    : List Nat
  deriving DecidableEq, Repr

/-- One barrier slot of a tenant (R204 to R207): per tile arrivals, chip arrivals, generations released, broken. -/
structure BarSlot where
  /-- Arrivals counted per tile at the tick unit (received BARR flits). -/
  got      : Tab Nat
  /-- Arrivals each tile has sent (generation joined is this minus 1). -/
  sent     : Tab Nat
  /-- Chip arrivals received per chip (root). -/
  chips    : Tab Nat
  /-- Generations this chip has reported to the root. -/
  reported : Nat
  /-- Generations released by the tick unit. -/
  released : Nat
  /-- Generations whose release has reached each tile. -/
  seen     : Tab Nat
  broken   : Bool
  /-- For each tile one more than the lowest generation whose release reached it broken; 0 none (R207). -/
  seenBrk  : Tab Nat
  deriving DecidableEq, Repr

/-- An empty slot. -/
def BarSlot.empty : BarSlot :=
  { got := [], sent := [], chips := [], reported := 0, released := 0, seen := [], broken := false, seenBrk := [] }

/-- A barrier descriptor of the active mapping (R203). -/
structure BarDesc where
  tileMask : BitVec 64
  chipMask : Nat
  flags    : Nat
  rest     : Nat
  deriving DecidableEq, Repr

end Sys2Proof.Machine
end

