-- ==== Sys2Proof/Machine/TypesTick.lean ====
section
/-! DEFINITION. Plain data of the log, the tick unit, the composer, the host port, the security unit and the boot
sequencer (chapters 03, 17, 18, 20, 21). -/

namespace Sys2Proof.Machine

/-- One entry of the error log (Table 21-4). -/
structure LogEntry where
  code    : Nat
  flags   : Nat
  node    : Nat
  seq     : Nat
  tick    : Nat
  timeUs  : Nat
  frag    : Nat
  session : Nat
  detail  : Nat
  deriving DecidableEq, Repr

/-- An index of the log not yet written reads as zeros (R487). -/
def LogEntry.zero : LogEntry :=
  { code := 0, flags := 0, node := 0, seq := 0, tick := 0, timeUs := 0, frag := 0, session := 0, detail := 0 }

/-- A session bound to a fragment instance: a slot of the batch record (Table 3-8) and whether a completion slot is reserved. -/
structure Bound where
  sid    : Nat
  step   : Nat
  cmdIdx : Nat
  inIdx  : Nat
  prov   : Nat
  resv   : Bool
  deriving DecidableEq, Repr

/-- What has become of an instance of a table. -/
inductive InstSt where
  | waiting | running | committed | discarded
  /-- Halted with an error code (R99, R435). -/
  | halted (code : Nat)
  deriving DecidableEq, Repr

/-- A fragment instance of a table (R66 to R74): the fields of its header, its place and its bound sessions. -/
structure Inst where
  frag     : Nat
  tenant   : Nat
  index    : Nat
  hdrAddr  : Nat
  flags    : Nat
  phase    : Nat
  eclass   : Nat
  params   : List Word
  mask     : BitVec 64
  codeDir  : Nat
  wc       : Nat
  dramB    : Nat
  planOff  : Nat
  planLen  : Nat
  bound    : List Bound
  status   : InstSt
  done     : BitVec 64
  outside  : Bool
  /-- Its priced energy (R70), in 1/5,760,000 pJ. -/
  price    : Nat
  deriving DecidableEq, Repr

/-- The composer's view of a session between edges (R60, R61): STEP, age, readiness at the last snapshot. -/
structure SessSt where
  step     : Nat
  age      : Nat
  ready    : Bool
  /-- ENABLE has been written 1 and no snapshot has seen it at 0 since (R428). -/
  busy     : Bool
  /-- An instance that ran an earlier step of the head command stands outside the guarantee (R25, R27). -/
  outside  : Bool
  deriving DecidableEq, Repr

/-- A session nothing has touched. -/
def SessSt.zero : SessSt := { step := 0, age := 0, ready := false, busy := false, outside := false }

/-- The tick unit and the composer (chapter 03). -/
structure TickSt where
  /-- TK_COUNT (R53), the latched high half, and the start of the present tick. -/
  count     : Nat
  latchHi   : Word
  edgeNs    : Nat
  /-- Whether an edge has ever occurred since the boot ended (R472: the first edge waits for no 0.5 P). -/
  started   : Bool
  /-- The time from which the timer of INTERNAL counts (an edge, a restart, the end of boot). -/
  timerNs   : Nat
  /-- TK_CTRL and TK_PERIOD as in use (R49): written values wait for the next edge. -/
  ctrlUse   : Word
  periodUse : Nat
  pctUse    : Nat
  /-- A held request (R50) or an edge held by the overrun policy (R75), with the time it fell due. -/
  held      : Bool
  slipDue   : Option Nat
  /-- Total slip in ns, of which TK_SLIP_US shows the whole microseconds (R75). -/
  slipNs    : Nat
  fallback  : Bool
  srcLost   : Bool
  unsync    : Bool
  trunc     : Bool
  /-- The packing under way ends by allowance (R71), which TK_STAT.TRUNC shows when the allowance is spent. -/
  truncPend : Bool
  final     : Bool
  /-- The ABORT policy latched at the edge (R76). -/
  abort     : Bool
  cur       : List Inst
  nxt       : List Inst
  sess      : Tab SessSt
  /-- Valid bits of the fragments: now, and at the two most recent edges (R56). -/
  valid     : Tab Bool
  validPend : Tab (Option Bool)
  validE1   : Tab Bool
  validE2   : Tab Bool
  /-- The active rules as bytes, 0 to RULE_COUNT - 1 (R63). -/
  rules     : List (List Byte)
  rulePend  : Bool
  fstoreUse : Nat
  batchUse  : List Nat
  /-- A fragment-store command under way: OP of Table 3-14, 0 none (R55). -/
  fsOp      : Nat
  lastId    : Nat
  pass      : Bool
  /-- Consecutive empty tables (R351). -/
  empties   : Nat
  /-- Codes already logged in this tick with their number (rate limits of R64, R67, R69, R42). -/
  onced     : List (Nat × Nat)
  /-- Stands withdrawn from the guarantee in this tick, and the whole chip (R483). -/
  withdrawn : List Nat
  withdrawnAll : Bool
  /-- The FCLK in MHz announced at the last edge (R14). -/
  annFclk   : Nat
  deriving DecidableEq, Repr

/-- One posted write upstream (R418): the function, and a memory write or an MSI-X message. -/
inductive UpTlp where
  | mem (fn : Nat) (addr : Nat) (data : List Byte)
  | msi (fn : Nat) (vec : Nat)
  deriving DecidableEq, Repr

/-- A ring context with its indices (R425 to R429). -/
structure Ring where
  lo      : Word
  hi      : Word
  cfg     : Word
  useLo   : Word
  useHi   : Word
  useCfg  : Word
  p       : Word
  c       : Word
  /-- P and C as the composer sees them at the next snapshot (R16). -/
  visP    : Word
  visC    : Word
  db      : Word
  /-- Accepted doorbells that are not visible yet, oldest first: when each was accepted, with the P and C that it left (R16). -/
  bells   : List (Nat × Word × Word)
  resv    : Nat
  /-- Counted as disabled at the last snapshot (R429), so that the onset is logged once. -/
  bad     : Bool
  /-- Completions since the last message, and when the first was written (R436). -/
  since   : Nat
  firstNs : Nat
  ue      : Bool
  deriving DecidableEq, Repr

/-- A ring after reset: disabled. -/
def Ring.zero : Ring :=
  { lo := 0, hi := 0, cfg := 0, useLo := 0, useHi := 0, useCfg := 0, p := 0, c := 0, visP := 0, visC := 0, db := 0,
    bells := [], resv := 0, bad := false, since := 0, firstNs := 0, ue := false }

/-- A completion to be written by the host port (R433, R435): the bound session, the fragment's flags, the status. -/
structure CplJob where
  bound   : Bound
  tenant  : Nat
  status  : Nat
  outside : Bool
  tick    : Nat
  /-- What the log tells of the instance: its fragment and the session of its slot 0 (Table 21-4). -/
  frag    : Nat
  sid0    : Nat
  deriving DecidableEq, Repr

/-- What the check of an on-chip array finds on a read (R485): nothing, a corrected or an uncorrectable error. -/
inductive SramEv where
  | clean | corrected | uncorrectable
  deriving DecidableEq, Repr

/-- What a DRAM access meets (R249, R257, R258): on the link and in the array, at the unit of 64 bytes of that number (from 0) of the access, and
whether it is served after its port's target. -/
structure DramEv where
  link  : SramEv
  array : SramEv
  late  : Bool
  unit  : Nat := 0
  deriving DecidableEq, Repr

/-- A host access through BAR2 (R415, R423): a read of so many bytes, a write of bytes, poisoned or not, or a change of the programmed size
(its log2). -/
inductive Bar2Acc where
  | read (len : Nat)
  | write (bytes : List Byte) (poisoned : Bool)
  | resize (log : Nat)
  deriving DecidableEq, Repr

/-- A BAR2 access that the host port holds back (Table 10-7). -/
structure Bar2Wait where
  fn  : Nat
  off : Nat
  acc : Bar2Acc
  ev  : DramEv
  deriving DecidableEq, Repr

/-- The host port (chapter 18). Bit n of the function masks is function n (0 the PF, n the VF of tenant n - 1). -/
structure HostSt where
  bme     : BitVec 9
  msixEn  : BitVec 9
  fmask   : BitVec 9
  msix    : Tab Word
  pba     : Tab Bool
  rings   : Tab Ring
  jobs    : List CplJob
  /-- The upstream queues, oldest first (R420): a write of queue q, a tenant's, or 8 for messages of no tenant; and the queue served last. -/
  upWait  : List (Nat × UpTlp)
  upLast  : Nat
  upOut   : List UpTlp
  /-- The bytes that the last host read returned. -/
  rdData  : List Byte
  /-- Log2 of the programmed BAR2 size of the PF and of each VF (R415). -/
  bar2Log : List Nat
  /-- BAR2 accesses that wait for the exit from S3, oldest first. -/
  bar2Wait : List Bar2Wait
  /-- Functions with an FLR waiting for its Clearing (R422). -/
  flrWait : List Nat
  linkL23 : Bool
  linkUp  : Bool
  pmeReq  : Bool
  deriving DecidableEq, Repr

/-- A Clearing of one tenant (R406, R407). -/
inductive ClearSt where
  | idle | waiting | busy
  deriving DecidableEq, Repr

/-- The security unit (chapter 17). -/
structure SecSt where
  /-- Key slots 0-15: the 512-bit XTS keys. -/
  keys     : List (BitVec 512)
  /-- Slots that the entropy source failed to fill (R405). -/
  unkeyed  : List Nat
  prov     : BitVec 16
  standPend : Bool
  standReq : List Nat
  clear    : List ClearSt
  clearFl  : List Nat
  clearNs  : List Nat
  /-- Tenants of which an instance has run since PORST_N, and tenants cleared since their last instance ran (R395). -/
  lastRun  : List Bool
  cleared  : List Bool
  /-- Fuses: programmed, and as loaded at the last PORST_N (R412). -/
  rootHash : BitVec 384
  lock     : Bool
  debugDis : Bool
  rollback : Nat
  rootUse  : BitVec 384
  lockUse  : Bool
  dbgUse   : Bool
  rollUse  : Nat
  deriving DecidableEq, Repr

/-- The boot sequencer (chapter 20), beside RB_STAT. -/
structure BootSt where
  /-- When the reset was released, and whether entries with COLD set run (R476). -/
  startNs  : Nat
  cold     : Bool
  /-- Entries of the boot table being executed, the index of the present one, and whether execution is under way. -/
  entries  : List (List Byte)
  next     : Nat
  running  : Bool
  /-- A DELAY or POLL32 in progress since this time. -/
  waitNs   : Option Nat
  /-- RB_AUTO as in use since the last snapshot (R479). -/
  autoUse  : List Word
  deriving DecidableEq, Repr

end Sys2Proof.Machine
end

