-- ==== Sys2Proof/Machine/TypesUnit.lean ====
section
/-! DEFINITION. Plain data of the Hertia links, the mapping tables, the power unit and the thermal unit (chapters 13 to 16). -/

namespace Sys2Proof.Machine

/-- A Hertia flit (Table 13-3) as its fields; `pay` is the 116-byte payload. A TICK flit sent keeps in `due` the edge that its REMAIN counts down to, in
1/16 ns, for a replay (R309); it is 0 in any other. -/
structure LFlit where
  ty   : Nat
  vc   : Nat
  start : Nat
  lseq : Nat
  ack  : Nat
  cvc  : Nat
  cred : Nat
  pay  : List Byte
  due  : Nat
  deriving DecidableEq, Repr

/-- A Hertia packet (Table 13-4) as its fields; `body` is the bytes after the header. -/
structure Pkt where
  dchip : Nat
  schip : Nat
  kind  : Nat
  cls   : Nat
  mc    : Nat
  epoch : Nat
  nlines : Nat
  seq   : Nat
  body  : List Byte
  deriving DecidableEq, Repr

/-- A packet waiting at a port's output: the dateline bit D, the packet, the port and VC it arrived by (port 4: this chip's endpoint), the places
of that input that are free once it has left, and how many of its bytes have left (R307, R308). -/
structure PortPkt where
  d    : Nat
  pkt  : Pkt
  from_ : Nat
  vc   : Nat
  free : Nat
  off  : Nat
  deriving DecidableEq, Repr

/-- A packet that waits at this chip's endpoint: the port and VC it arrived by, and the places of that input that it holds. -/
structure InPkt where
  pkt  : Pkt
  port : Nat
  vc   : Nat
  free : Nat
  deriving DecidableEq, Repr

/-- A TICK or NOTICE that a port sends in its next slot: the tick number, the edge in 1/16 ns, policy, period and fraction; or the lost chip and the
chip that tells it (R328, R330). -/
inductive LCtl where
  | tick (num due : Nat) (pol : Bool) (per pct : Nat)
  | notice (lost by_ : Nat)
  deriving DecidableEq, Repr

/-- One Hertia port (R305 to R310). -/
structure LPort where
  up      : Bool
  /-- Peer ID, role and port as [10:4] of HT_PORT_STAT, and LAT in 1/16 ns. -/
  peer    : Nat
  relay   : Bool
  peerPort : Nat
  lat     : Nat
  /-- How often each step of Table 13-2 has failed since training began. -/
  fails   : List Nat
  /-- Next LSEQ to send, the last ACK received, the next LSEQ expected. -/
  txSeq   : Nat
  ackd    : Nat
  rxSeq   : Nat
  /-- Unacknowledged flits, oldest first (at most 256), replays of the oldest, and when ACK last advanced. -/
  replay  : List LFlit
  tries   : Nat
  ackNs   : Nat
  /-- Credits held for each VC. -/
  credits : List Nat
  /-- When a flit with a good CRC last arrived, and when training last began. -/
  goodNs  : Nat
  trainNs : Nat
  /-- Credits to return for each VC with the flits that go out, whether the NAK of the present gap has been sent, and whether an accepted flit is
  still to be acknowledged. -/
  owe     : List Nat
  nakOut  : Bool
  ackOut  : Bool
  /-- Bytes of the packet of each VC in reassembly, and the flits at the input that hold them (R307, R308). -/
  asm     : List (List Byte)
  held    : List Nat
  /-- Packets queued for this port (R327), TICK and NOTICE flits that wait for the replay buffer, the consecutive slots that a REQ flit has waited
  (R308), and the flits sent on the port, oldest first. -/
  outq    : List PortPkt
  ctl     : List LCtl
  reqWait : Nat
  sent    : List LFlit
  deriving DecidableEq, Repr

/-- A port after reset: silent and down. -/
def LPort.reset : LPort :=
  { up := false, peer := 0, relay := false, peerPort := 0, lat := 0, fails := [0, 0, 0, 0, 0], txSeq := 0,
    ackd := 4095, rxSeq := 0, replay := [], tries := 0, ackNs := 0, credits := [0, 0, 0, 0, 0, 0], goodNs := 0,
    trainNs := 0, owe := [0, 0, 0, 0, 0, 0], nakOut := false, ackOut := false, asm := [[], [], [], [], [], []],
    held := [0, 0, 0, 0, 0, 0], outq := [], ctl := [], reqWait := 0, sent := [] }

/-- A request of another chip that this chip serves: the TXID it travels under here, the answers due, and the chip, node and
TXID to answer. -/
structure RTxn where
  id   : Nat
  left : Nat
  chip : Nat
  x    : Nat
  y    : Nat
  txid : Nat
  deriving DecidableEq, Repr

/-- A transfer that a north node is packing (R312): the channel, the first and last tag of the lines not yet sent, and those lines; `lost` once the
channel has refused or lost part of it. -/
structure Packing where
  kind  : Nat
  peer  : Nat
  first : Tag
  last  : Tag
  lines : List Line
  lost  : Bool
  deriving DecidableEq, Repr

/-- A LINES packet that waits for its channel to hold fewer than 1,024 unacknowledged ones (R313): its body and NLINES, and the requests it carries. -/
structure LHold where
  body   : List Byte
  nlines : Nat
  reqs   : List Tag
  deriving DecidableEq, Repr

/-- An unacknowledged packet at a source: SEQ, its tag, when it was sent, and the members that still owe an EACK. -/
structure LUnack where
  seq  : Nat
  tag  : Tag
  ns   : Nat
  owed : List Nat
  deriving DecidableEq, Repr

/-- One end of a channel (R313 to R316). `wait` are the packets not yet sent, `reqs` the requests outstanding on it, by their tags; `since` and
`oldest` the delivered packets not yet acknowledged and when the oldest of them was delivered. -/
structure Chan where
  opened : Bool
  fenced : Bool
  epoch  : Nat
  seq    : Nat
  unack  : List LUnack
  wait   : List LHold
  reqs   : List Tag
  since  : Nat
  oldest : Nat
  deriving DecidableEq, Repr

/-- A channel end after reset: closed, epoch 0 (R316). -/
def Chan.closed : Chan :=
  { opened := false, fenced := false, epoch := 0, seq := 0, unack := [], wait := [], reqs := [], since := 0, oldest := 0 }

/-- The Hertia state of the chip (chapter 13). -/
structure LinkSt where
  ports   : List LPort
  /-- Route table in force: port for each chip, 7 none. -/
  route   : List Nat
  routePend : Bool
  /-- HT_WIN words in use. -/
  winUse  : List Word
  /-- Channel ends, keyed ((kind × 2 + end) × 4 + class) × 16 + peer. -/
  chans   : Tab Chan
  /-- Packets accepted for this chip's endpoint and not yet taken. -/
  inbox   : List InPkt
  /-- Requests of other chips in service, and lines being packed. -/
  rtxns   : List RTxn
  packs   : List Packing
  /-- The edge that a TICK flit scheduled, in 1/16 ns of device time (R330). -/
  due     : Option Nat
  /-- The policy, period and budget that the last TICK flit carried. -/
  polRx   : Bool
  perRx   : Nat
  pctRx   : Nat
  /-- Chips whose FINISH of the present table the master holds (R332). -/
  finish  : BitVec 16
  deriving DecidableEq, Repr

/-- The link domain and the endpoints after PORST_N. -/
def LinkSt.reset : LinkSt :=
  { ports := List.replicate 4 LPort.reset, route := List.replicate 16 7, routePend := false, winUse := List.replicate 7 0,
    chans := [], inbox := [], rtxns := [], packs := [], due := none, polRx := false, perRx := 0, pctRx := 0, finish := 0 }

/-- A mapping in force or fetched: the barrier descriptors, MAP_ID, LOGICAL_CRC and CRC (R347). -/
structure MapTab where
  bars : List BarDesc
  id   : Nat
  lcrc : Nat
  crc  : Nat
  deriving DecidableEq, Repr

/-- The mappings of the eight tenants: in force, fetched and passed (in force at the next edge), and committed but not yet
fetched. -/
structure MapSt where
  active  : List (Option MapTab)
  fetched : List (Option MapTab)
  commit  : List Bool
  deriving DecidableEq, Repr

/-- No mapping. -/
def MapSt.reset : MapSt :=
  { active := List.replicate 8 none, fetched := List.replicate 8 none, commit := List.replicate 8 false }

/-- A keep-list entry that was saved (R355): kind, tile, first address or counter, bytes, DRAM address. -/
structure KeepEnt where
  ctr   : Bool
  tile  : Nat
  start : Nat
  len   : Nat
  dram  : Nat
  deriving DecidableEq, Repr

/-- One data unit of a spill image (R282): tenant, page, the DRAM ranges (address, bytes) it holds, their plaintext, and whether they were
read whole. -/
structure SpillUnit where
  tenant : Nat
  page   : Nat
  ranges : List (Nat × Nat)
  data   : List Byte
  good   : Bool
  deriving DecidableEq, Repr

/-- A spill image of a tenant (R282 to R284): what its descriptor and seal hold, that is the generation, the number of units and the list entries
(address, bytes), the descriptor and seal pages, and the units. -/
structure SpillImage where
  tenant : Nat
  gener  : Nat
  count  : Nat
  ents   : List (Nat × Nat)
  head   : Nat
  tail   : Nat
  units  : List SpillUnit
  deriving DecidableEq, Repr

/-- The power unit (chapter 15), beside its registers. -/
structure PwrSt where
  /-- A request acted on at the next edge or when no edge can come (R350, R352), and one held during a transition. -/
  req      : Option Nat
  heldReq  : Option Nat
  /-- A wake event detected during an entry, not yet acted on (R353). -/
  wakeSeen : Bool
  /-- Deepest entry step completed, and the state whose exit a return to S0 runs. -/
  step     : Nat
  /-- When entry completed, and when the wake event in progress was detected. -/
  enterNs  : Nat
  wakeNs   : Nat
  /-- The wake event was the tick source's own request (R357). -/
  wakeTick : Bool
  /-- A first edge after an exit is owed at this time (R357). -/
  firstEdge : Option Nat
  exitFrom : Nat
  keep     : List KeepEnt
  restoring : Bool
  spillGen : Nat
  /-- The images of the spill, sealed or under way, and the next data unit of one under way (R283). -/
  spilled  : List SpillImage
  spillNext : Option Nat
  resetAfter : Option Nat
  opUse    : List (Nat × Nat)
  opPend   : Bool
  gov      : Nat
  phaseUse : List Word
  /-- Ramp registers in use since the last edge (R212): the eight steps, the map and the chip offset. -/
  rampUse  : List Word
  /-- FCLK in use in MHz, and the frequency the idle PLL is locked to or locking to. -/
  fclk     : Nat
  pll      : Nat
  pllLocked : Bool
  /-- VDD_CORE commanded in mV, a raise awaiting its read-back with its start, and whether it has held an edge (R366). -/
  volt     : Nat
  avsWait  : Option (Nat × Nat)
  avsHeld  : Bool
  /-- Measured energies of the last ticks in nJ with their length in ns, newest first (at most 4,000). -/
  hist     : List (Nat × Nat)
  /-- The packing's report: a fit test failed on energy alone, and on cycles alone (R364). -/
  fitEnergy : Bool
  fitCycle : Bool
  /-- Learning of the running tick: a halted or discarded instance, and (phase, cycles × class, bytes) of each commit. -/
  spoiled  : Bool
  learned  : List (Nat × Nat × Nat)
  /-- Since when every tile clock has been gated (R371). -/
  gatedNs  : Option Nat
  deriving DecidableEq, Repr

/-- The thermal unit (chapter 16), beside its registers. -/
structure ThSt where
  /-- Temperatures of the last five samples of each sensor, newest first; none invalid. -/
  hist     : List (List (Option Int))
  seen     : List Bool
  theta    : Int
  /-- The number of the last sampling instant, in 100 µs since PORST_N. -/
  sampled  : Nat
  badCnt   : Nat
  goodCnt  : Nat
  fault    : Bool
  /-- Level judged, level used (R387), dwell count. -/
  judged   : Nat
  level    : Nat
  dwell    : Nat
  lastNs   : Nat
  active   : List (Word × Word)
  pend     : Bool
  guard    : Bool
  tripped  : Bool
  /-- Fan: whether the curve falls somewhere at the last instant, duty in force, target, when the duty last fell, low windows, whether the failure stands, duty low in the window. -/
  curveBad : Bool
  duty     : Nat
  target   : Nat
  fallNs   : Nat
  lowWin   : Nat
  fanBad   : Bool
  dutyLow  : Bool
  winNs    : Nat
  deriving DecidableEq, Repr

end Sys2Proof.Machine
end

