-- ==== Sys2Proof/Machine/TypesCmd.lean ====
section
/-! DEFINITION. The operands of commands that are more than a number. -/

namespace Sys2Proof.Machine

/-- A host access that is not an aligned 32-bit access (R7): a read of so many bytes, or a write of bytes. -/
inductive HostAcc where
  | read (len : Nat)
  | write (bytes : List Byte)
  deriving DecidableEq, Repr

/-- The two events of a queued instruction: its dispatch by the sequencer and its start in its stream (R79 to R82), each with
what the array it reads reports. -/
inductive Phase where
  | dispatch (ecc : SramEv)
  | start (ecc : SramEv)
  deriving DecidableEq, Repr

/-- How a page read ends (R270, R272): at which retry step the codewords first decode, or at none; with the largest number of bits corrected in
one codeword over its reads. -/
inductive PageEv where
  | decodes (bits steps : Nat)
  | fails (bits : Nat)
  deriving DecidableEq, Repr

/-- How the bring-up of one DRAM channel goes (R244, R245, R260): how many attempts fail at each step of Table 10-5; what step 6 reads, that is a
density in Gb and an organisation that the controller supports (of MR8 and the other mode registers), MR8, MR5 and the multiple of MR4 in
eighths; and the training result. -/
structure TrainCh where
  tries : List Nat
  gb    : Nat
  fits  : Bool
  mr8   : Byte
  mr5   : Byte
  mr4   : BitVec 6
  phy   : List Byte
  deriving DecidableEq, Repr

/-- How a DRAM bring-up ends: each channel, what the read of the training record meets, and whether a new record could be written
(R261). -/
structure DramUp where
  chans : List TrainCh
  slot  : PageEv
  store : Bool
  deriving DecidableEq, Repr

/-- What other streams ask of the tile ports while an instruction runs (R148 to R150): in a divided cycle of the instruction, counted from its
start, the requesters of other streams ([0] MX-R, [1] VX-R, [2] VX-W, [3] DM-R, [4] DM-W) that present an access to a bank, and how many accesses
are delayed again in later cycles. -/
structure Conflict where
  cycle : Nat
  ports : BitVec 5
  bank  : Fin 16
  again : Nat
  deriving DecidableEq, Repr

/-- What a link finds on a flit (R184). -/
inductive FlitEcc where
  | clean | corrected | payload | tag
  deriving DecidableEq, Repr

/-- A flit that reaches node (x, y), and what the DRAM access or the read of an array that it leads to there meets; `looks` is what
the acceptance checks of a DM.PREF's steps meet, each step's in turn (Table 9-6); `same` says that a further update of the counter follows in the same
cycle (R202). -/
structure FlitEv where
  tag  : Tag
  pay  : Line
  x    : Fin 16
  y    : Fin 16
  ecc  : FlitEcc
  dram : DramEv
  looks : List DramEv
  same : Bool
  deriving DecidableEq, Repr

/-- What the analogue world reports at an edge: the energy of each of the eight rails over the tick that ends, in nJ (R368); the
average power in mW over an interval of at least 100 µs in which every tile clock was gated, if there was one (R371); what the composer's
arrays meet (Table 21-3); and what the fetch of each tenant's mapping table meets in DRAM (R347). -/
structure EdgeEnv where
  rails  : List Nat
  gated  : Option Nat
  sram   : SramEv
  maps   : List DramEv := []
  deriving DecidableEq, Repr

/-- How the training of a Hertia port ends (Table 13-2): a step fails, or the port comes up with the peer's chip ID, role and port
number and the sum of the 64 measured round trips in 1/16 ns. -/
inductive TrainEv where
  | fails (step : Fin 5)
  | up (chip : BitVec 4) (relay : Bool) (pport : BitVec 2) (rtts : Nat)
  deriving DecidableEq, Repr

/-- What a target's parameter page tells (Table 11-4): data and spare bytes of a page, pages per block, blocks over all its LUNs, LUNs, and the
NV-LPDDR4 rates of Table 11-3 that it supports. -/
structure FlParam where
  data   : Nat
  spare  : Nat
  pages  : Nat
  blocks : Nat
  luns   : Nat
  rates  : BitVec 5
  deriving DecidableEq, Repr

/-- What the flash bring-up finds (R267, R268): for each channel the target of each CE, none where it does not respond; how many attempts at training
fail on each channel; and what the pages of the two table copies meet when they are read. -/
structure FlashUp where
  targets : List (List (Option FlParam))
  tries   : List Nat
  evs     : List PageEv
  deriving DecidableEq, Repr

/-- What a block meets on its way to the codec: its DRAM read or its page's second read, an error in its Glade slice (Table 21-3),
bytes that arrive damaged although the checks of their tier pass (R294: an offset and what it is changed by), and a parity error of the
cached table (Table 21-3). -/
structure BlkEv where
  dram   : DramEv
  page   : PageEv
  glade  : SramEv
  flip   : Option (Nat × Byte)
  parity : Bool
  deriving DecidableEq, Repr

/-- Which of its requests a row takes a block of (R298). -/
inductive BlkSrc where
  | unit | step | codec
  deriving DecidableEq, Repr

/-- What a boot meets (R379, R380, R405, R474): the entropy source fails its tests for good, CE0 of channel 0 does not answer, a page of boot image A
or B stays uncorrectable, the calibration fuses are blank or fail their check, or PREF is absent. -/
structure BootEnv where
  entropyFail : Bool
  noFlash     : Bool
  badA        : Bool
  badB        : Bool
  calBad      : Bool
  noPref      : Bool := false
  deriving DecidableEq, Repr

/-- A boot that meets nothing. -/
def BootEnv.ok : BootEnv := { entropyFail := false, noFlash := false, badA := false, badB := false, calBad := false }

/-- What the host changes that can let a held message or write go (R420, R437): a word of a function's MSI-X table, or the function's MSI-X
Enable, Function Mask and Bus Master Enable. -/
inductive MsixCtl where
  | word (k : Fin 8192) (v : Word)
  | config (enable fmask bme : Bool)
  deriving DecidableEq, Repr

/-- What a 32-bit access of a register meets: bits or counts that a hardware event sets in the same cycle (R6), the state of an array that it
reads (R485), the PCIe link as HI_LINK shows it, and what a write that starts something meets there: an edge (R50), a boot (R405, R474), the
entropy source (R405), the DRAM buffer of a flash command (R278); and whether the write's TLP came poisoned (R38). -/
structure RegEnv where
  ev      : Word
  ecc     : SramEv
  link    : Word
  edge    : EdgeEnv
  boot    : BootEnv
  noEntropy : Bool
  dram    : DramEv
  poison  : Bool
  port    : SramEv
  deriving DecidableEq, Repr

/-- A replay at a port, and what the check of its replay buffer finds. -/
structure PortEv where
  port : Fin 4
  sram : SramEv
  deriving DecidableEq, Repr

/-- The acceptance of a tenant's Clearing, and whether the entropy source fails a key rotation of it. -/
structure ClearEv where
  tenant      : Fin 8
  entropyFail : Bool
  deriving DecidableEq, Repr

/-- An access that meets nothing. -/
def RegEnv.ok : RegEnv :=
  { ev := 0, ecc := .clean, link := 0, edge := { rails := [], gated := none, sram := .clean }, boot := .ok, noEntropy := false,
    dram := { link := .clean, array := .clean, late := false }, poison := false, port := .clean }

end Sys2Proof.Machine
end

