-- ==== Sys2Proof/Machine/TypesPort.lean ====
section
/-! DEFINITION. Plain data of the service ports and the test access port (chapters 19, 22). -/

namespace Sys2Proof.Machine

/-- An RX FIFO entry (R442). -/
structure RxEntry where
  data : BitVec 9
  pe   : Bool
  fe   : Bool
  brk  : Bool
  deriving DecidableEq, Repr

/-- One sample of the receive line: its level, and whether the line was low, or high, for at least 2 consecutive PCLK cycles since the
previous sample (R440, R453). -/
structure RxSample where
  level : Bool
  low2  : Bool
  high2 : Bool
  deriving DecidableEq, Repr

/-- What the transmitter meets at a character boundary: CTS_N high; for how many bit times the line has been 1 with the receiver idle, none for a
character back to back with the last (R450); and the bits read back from a single wire (R451). -/
structure TxLine where
  cts  : Bool
  idle : Option Nat
  back : List Bool
  deriving DecidableEq, Repr

/-- A service frame that passed R457 and R458 and is being executed, and whether its execution has begun (a test runs, or the response of
RESET has been formed). -/
structure SvcFrame where
  cmd     : Nat
  seq     : Byte
  payload : List Byte
  begun   : Bool
  deriving DecidableEq, Repr

/-- What the transmitter drove: a character (start, data and parity bits, the sample periods of its stop, the baud setting, and in IrDA mode the
PCLK cycles of a pulse and whether it is driven low, R452), the bits of one cut off by a collision, or a break of so many bit times. -/
inductive LineOut where
  | char (bits : List Bool) (stop : Nat) (baud : Word) (pulse : Option (Nat × Bool))
  | cut (bits : List Bool)
  | brk (len : Nat)
  deriving DecidableEq, Repr

/-- One service port (chapter 19). -/
structure SpPort where
  baud     : Word
  fmt      : Word
  ctrl     : Word
  rxHigh   : Nat
  rxLow    : Nat
  rx       : List RxEntry
  tx       : List (BitVec 9)
  /-- The bits of SP_STAT that are held: [0] PE, [1] FE, [2] OVR, [3] BRK, [4] COLLISION, [5] BRK_DONE, [6] TX_DROP, [7] BRK_LEN_NEW, [13] HALT. -/
  stat     : Word
  /-- The bits [3:0] that the last SP_STAT read returned as 1, that no SP_DATA read has followed, and that no event has set again (R444). -/
  seen     : Word
  /-- Whether the RX level last reached RX_HIGH rather than fell to RX_LOW (R446). -/
  rtsHigh  : Bool
  /-- CTS_N as last seen: true is high. -/
  ctsHigh  : Bool
  /-- The settings with which a character in reception began (R439): baud, format, control. -/
  rxBaud   : Word
  rxFmt    : Word
  rxCtrl   : Word
  /-- A break under way in reception (R449), the length of the last one, and a break asked of the transmitter (R448; 0 none). -/
  rxBreak  : Bool
  brkRx    : Nat
  brkPend  : Nat
  /-- The last thing on the line was a character of this port (R450). -/
  lastTx   : Bool
  cntFe    : Word
  cntPe    : Word
  cntOvr   : Word
  cntColl  : Word
  svcCnt   : Word
  svcBad   : Word
  telSkip  : Word
  ien      : Word
  /-- Bytes that the engine holds from an SOF, and when the last arrived (R457). -/
  frame    : List Byte
  frameNs  : Nat
  exec     : Option SvcFrame
  /-- Engine output: the bytes left of the line or frame begun, and those that wait in the order they fell due (true: a response). -/
  out      : List Byte
  queue    : List (Bool × List Byte)
  /-- The last whole second for which a telemetry line was due, and in which a line event was logged (R455, R463). -/
  telSec   : Nat
  lineSec  : Option Nat
  /-- What was driven on the line since reset, oldest first. -/
  sent     : List LineOut
  deriving DecidableEq, Repr

/-- Both ports and the private page buffer of the flash commands (R460). -/
structure SpSt where
  p0   : SpPort
  p1   : SpPort
  page : Tab Byte
  deriving DecidableEq, Repr

/-- The test engine (R497 to R501): a run in progress, the tests in it, a private instruction's code, unit and duration in ms, and the service
port that asked. -/
structure TestSt where
  busy : Bool
  ran  : Nat
  priv : Option (Nat × Nat × Nat)
  port : Option Nat
  deriving DecidableEq, Repr

/-- No run. -/
def TestSt.idle : TestSt := { busy := false, ran := 0, priv := none, port := none }

/-- The test access port (chapter 22). -/
structure TapSt where
  /-- The instruction in the register, what Capture-IR and Capture-DR last loaded, and the length of the data register selected. -/
  ir       : Nat
  irCap    : BitVec 8
  drCap    : Nat
  drLen    : Nat
  /-- The core is held in reset, the outputs are at high impedance, and the lanes drive the AC test signal: 0 none, 1 pulse, 2 train. -/
  held     : Bool
  hiz      : Bool
  acTest   : Nat
  /-- TEST: REFUSED, DONE and RESULT of the most recent request. -/
  refused  : Bool
  done     : Bool
  result   : Word
  /-- DIAG as it captures. -/
  diag     : BitVec 64
  /-- The boundary cells as last updated and as last captured. -/
  cells    : BitVec 1212
  captured : BitVec 1212
  deriving DecidableEq, Repr

end Sys2Proof.Machine
end

