-- ==== Sys2Proof/Syntax.lean ====
section
/-! DEFINITION. The commands of the AE7260: one constructor for each row of spec/opcode_table.json. Each carries what its
row takes from outside: the address and value of an access, a flit, a packet or a line character, or what the environment
decides (a measured energy, a device's status, an error on a path). -/

namespace Sys2Proof

open Sys2Proof.Machine

/-- A command of the block. -/
inductive Instr where
  /-- BAR0_IRREGULAR_ACCESS (R7). A host BAR0 access that is narrower than 32 bits, misaligned or unmapped returns the addressed bytes or 0, is dropped if it is a write, and may log HOST_BAD_ACCESS. -/
  | bar0IrregularAccess (fn : Fin 9) (off : BitVec 26) (acc : HostAcc) (m m2 : RegEnv)
  /-- REGISTER_WRITE (R4). A write to a register that has no row of its own sets its fields by their access codes (RW, W1C, W1S, WO); reserved bits stay 0. -/
  | registerWrite (fn : Fin 9) (off : BitVec 26) (v : Word) (m : RegEnv)
  /-- READ_CLEAR (R6). A read of an RC field returns its value and clears it; a hardware event in the same cycle leaves the bit set. -/
  | readClear (fn : Fin 9) (off : BitVec 26) (m : RegEnv)
  /-- TK_COUNT_READ (R53). A read of TK_COUNT_LO returns the low 32 bits of the tick counter and latches TK_COUNT_HI. -/
  | tkCountRead
  /-- PW_AON_TIME_READ (R357). A read of PW_AON_TIME_LO returns the always-on count and latches PW_AON_TIME_HI. -/
  | pwAonTimeRead
  /-- TICK_EDGE (R14). Edge N occurs, from the internal timer, from a held or slipped request, or after a fallback: the thermal level and OP take effect, the tiles start table N, and the composer snapshots and receives the energy budget. -/
  | tickEdge (env : EdgeEnv)
  /-- TABLE_FINAL (R71). At 0.85 P after the edge the packing ends and table N+1 is final; an automatic power-state request may be raised. -/
  | tableFinal
  /-- ALLOWANCE_SPENT (R71). A lane's PCLK allowance runs out, so that lane stops stepping and TK_STAT.TRUNC is set. -/
  | allowanceSpent
  /-- TICK_IN_REQUEST (R50). A recognised TICK_IN edge is dropped, held until 0.85 P, or makes the edge at once, according to the time since the previous edge. -/
  | tickInRequest (env : EdgeEnv)
  /-- HELD_REQUEST_DUE (R50). The 0.85 P point arrives while a TICK_IN or KICK request is held, and the edge occurs. -/
  | heldRequestDue (env : EdgeEnv)
  /-- TK_KICK (R47). A write of 1 to TK_KICK.KICK makes a tick request under the KICK source. -/
  | tkKick (v : Word) (env : EdgeEnv)
  /-- TICK_SRC_LOST (R51). No TICK_IN request has been accepted by 1.5 P, so SRC_LOST is set and, with FALLBACK = 1, an edge is made and the internal timer takes over. -/
  | tickSrcLost (env : EdgeEnv)
  /-- TK_PERIOD_WRITE (R49). A write to TK_PERIOD clamps the values; a value of 0 cancels the next edge at once and releases the packed table, and a non-zero value takes effect at the next edge or restarts the tick. -/
  | tkPeriodWrite (v : Word)
  /-- TABLE_FINISH (R75). The last instance of table N commits or is discarded; under SLIP a held edge then occurs within 16 cycles and the slip is counted. -/
  | tableFinish (env : EdgeEnv)
  /-- OVERRUN_ABORT (R76). Under ABORT the edge falls due while table N still runs, so the running tiles are halted and uncommitted instances are discarded. -/
  | overrunAbort (env : EdgeEnv)
  /-- VALIDATE (R55). The composer checks a fragment's header, code directory and CRC, and sets or clears its valid bit. -/
  | validate (frag : BitVec 16)
  /-- INVALIDATE (R55). The valid bit of one fragment is cleared. -/
  | invalidate (frag : BitVec 16)
  /-- INVALIDATE_ALL (R57). The valid bits of every fragment are cleared. -/
  | invalidateAll
  /-- TK_FSTORE_BASE_WRITE (R57). A write to the fragment store base is dropped while any fragment is or recently was valid; otherwise it takes effect at the next edge. -/
  | tkFstoreBaseWrite (hi : Bool) (v : Word)
  /-- TK_RULE_COMMIT (R63). At the first edge after the write, the shadow rules and TK_RULE_COUNT are copied into the active set. -/
  | tkRuleCommit (v : Word)
  /-- TK_CNT_CLR (R53). A write of 1 clears the tick counters at offsets 0x018 to 0x02C. -/
  | tkCntClr (v : Word)
  /-- INSTANCE_START (R95). A tile begins its next instance in table order: it sets the divider and registers and loads the code image unless the image is resident. -/
  | instanceStart (t : Fin 64)
  /-- CODE_LOAD_COMPLETE (R95). The whole code image is in instruction memory, so dispatch begins at the image's load address. -/
  | codeLoadComplete (t : Fin 64) (dr : DramEv) (poison : Bool)
  /-- WATCHDOG (R100). The instance's divided-cycle count exceeds (WDOG_MULT + 1) × WC_CYCLES, so the instance is halted with TILE_WATCHDOG. -/
  | watchdog (t : Fin 64)
  /-- INSTANCE_COMMIT (R74). The last tile of the instance completes END, so the instance commits and STEP or the command ring advances. -/
  | instanceCommit (i : Nat)
  /-- NOP (R114). The instruction occupies its dispatch cycle and does nothing else. -/
  | nopOp (t : Fin 64) (ecc : SramEv)
  /-- END (R98). END ends the tile's part of the instance once its queues are empty and its writes are visible. -/
  | endOp (t : Fin 64) (ecc : SramEv)
  /-- TICKWAIT (R97). The tile dispatches TICKWAIT and waits for every tile of the mask to dispatch its TICKWAIT of the same ordinal. -/
  | tickwait (t : Fin 64) (ecc : SramEv)
  /-- TICKWAIT_ALIGN (R97). The last tile of the mask dispatches its TICKWAIT, and every waiting TICKWAIT completes within 250 cycles as a ramp release. -/
  | tickwaitAlign (i : Nat)
  /-- LOOP (R92). LOOP sets a loop counter to its count and either enters the body or skips it when the count is 0. -/
  | loopOp (t : Fin 64) (ecc : SramEv)
  /-- ENDLOOP (R92). ENDLOOP decrements the counter and returns to the top of the body or exits the loop. -/
  | endloop (t : Fin 64) (ecc : SramEv)
  /-- IX_SET (R115). IX.SET writes its immediate to an index register. -/
  | ixSet (t : Fin 64) (ecc : SramEv)
  /-- IX_ADD (R115). IX.ADD adds its two's-complement immediate to an index register. -/
  | ixAdd (t : Fin 64) (ecc : SramEv)
  /-- IX_MOV (R115). IX.MOV writes an index or parameter register, shifted left, to an index register. -/
  | ixMov (t : Fin 64) (ecc : SramEv)
  /-- IX_MADD (R115). IX.MADD adds SRC × IMM to an index register. -/
  | ixMadd (t : Fin 64) (ecc : SramEv)
  /-- RDCLK (R115). RDCLK writes the instance's divided cycle count to an index register and flags the instance as outside the guarantee. -/
  | rdclk (t : Fin 64) (ecc : SramEv)
  /-- MX_LDW (R116). MX.LDW loads a weight block from the scratchpad as the tile's loaded block. -/
  | mxLdw (t : Fin 64) (ph : Phase) (cf : Option Conflict)
  /-- MX_MAC (R117). MX.MAC multiplies activation rows by the loaded block into an accumulator store, after the format and address checks. -/
  | mxMac (t : Fin 64) (ph : Phase) (cf : Option Conflict)
  /-- MX_CLR (R119). MX.CLR sets every row of an accumulator store to 0 and tags it INT32. -/
  | mxClr (t : Fin 64) (ph : Phase)
  /-- VX_LD (R121). VX.LD fills 64 lanes from the scratchpad in the selected format. -/
  | vxLd (t : Fin 64) (ph : Phase) (cf : Option Conflict)
  /-- VX_ST (R121). VX.ST stores 64 lanes to the scratchpad with narrowing conversion. -/
  | vxSt (t : Fin 64) (ph : Phase) (cf : Option Conflict)
  /-- VX_ALU (R122). VX.ALU applies FUNC lane by lane in INT32 or FP32 arithmetic. -/
  | vxAlu (t : Fin 64) (ph : Phase)
  /-- VX_CURVE (R166). VX.CURVE evaluates a curve of the numeric-mode table on each lane. -/
  | vxCurve (t : Fin 64) (ph : Phase)
  /-- VX_RED (R123). VX.RED reduces 64 lanes into lane 0 by a fixed pairwise tree. -/
  | vxRed (t : Fin 64) (ph : Phase)
  /-- VX_BCAST (R123). VX.BCAST copies one lane into all 64 lanes. -/
  | vxBcast (t : Fin 64) (ph : Phase)
  /-- VX_SORT (R124). VX.SORT sorts 64 keys stably and writes the original lane numbers. -/
  | vxSort (t : Fin 64) (ph : Phase)
  /-- VX_TOPK (R124). VX.TOPK sorts 64 keys stably and keeps the first K lanes. -/
  | vxTopk (t : Fin 64) (ph : Phase)
  /-- VX_ACC (R123). VX.ACC copies one accumulator row into a vector register. -/
  | vxAcc (t : Fin 64) (ph : Phase)
  /-- VX_DEQ (R125). VX.DEQ converts and scales accumulator rows and writes them to the scratchpad in the output format. -/
  | vxDeq (t : Fin 64) (ph : Phase) (cf : Option Conflict)
  /-- DM_MOVE (R126). DM.MOVE copies lines from the tile's own scratchpad to a tile. -/
  | dmMove (t : Fin 64) (ph : Phase) (cf : Option Conflict)
  /-- DM_MOVE_RD (R126). DM.MOVE.RD copies from another tile's scratchpad into the issuing tile. -/
  | dmMoveRd (t : Fin 64) (ph : Phase)
  /-- DM_MOVE_DS (R126). DM.MOVE.DS copies from DRAM into the tile's own scratchpad. -/
  | dmMoveDs (t : Fin 64) (ph : Phase)
  /-- DM_MOVE_SD (R126). DM.MOVE.SD copies from the tile's own scratchpad to DRAM. -/
  | dmMoveSd (t : Fin 64) (ph : Phase) (cf : Option Conflict)
  /-- DM_MOVE_G (R128). DM.MOVE.G gathers DRAM elements named by an index list after checking every entry. -/
  | dmMoveG (t : Fin 64) (ph : Phase) (cf : Option Conflict)
  /-- DM_STRIDE (R127). DM.STRIDE copies strided rows to a tile. -/
  | dmStride (t : Fin 64) (ph : Phase) (cf : Option Conflict)
  /-- DM_STRIDE_G (R128). DM.STRIDE.G gathers elements of the scratchpad named by an index list to a tile. -/
  | dmStrideG (t : Fin 64) (ph : Phase) (cf : Option Conflict)
  /-- DM_XPOSE (R152). DM.XPOSE reads a block by transposed columns and writes its transpose to a tile. -/
  | dmXpose (t : Fin 64) (ph : Phase) (cf : Option Conflict)
  /-- DM_MCAST (R129). DM.MCAST multicasts a region to a range of tiles in the sender's row or column. -/
  | dmMcast (t : Fin 64) (ph : Phase) (cf : Option Conflict)
  /-- DM_FWD (R130). DM.FWD forwards multicast lines down the tile's column as they land. -/
  | dmFwd (t : Fin 64) (ph : Phase) (cf : Option Conflict)
  /-- DM_CODEC (R131). DM.CODEC decodes MBF blocks from DRAM to a tile, or encodes scratchpad data into MBF blocks in DRAM. -/
  | dmCodec (t : Fin 64) (ph : Phase) (cf : Option Conflict)
  /-- DM_PREF (R132). DM.PREF hands plan steps of the instance's plan to the prefetcher. -/
  | dmPref (t : Fin 64) (ph : Phase)
  /-- SC_ADD (R134). SC.ADD adds to a sync counter as a release. -/
  | scAdd (t : Fin 64) (ph : Phase)
  /-- SC_SET (R134). SC.SET writes a sync counter as a release. -/
  | scSet (t : Fin 64) (ph : Phase)
  /-- SC_SIGNAL (R134). SC.SIGNAL waits for every earlier instruction of the tile and then adds to a counter as a release. -/
  | scSignal (t : Fin 64) (ph : Phase)
  /-- SC_WAIT (R136). SC.WAIT waits, as an acquire, for a local counter condition to hold. -/
  | scWait (t : Fin 64) (ph : Phase)
  /-- SC_READ (R137). SC.READ writes a local counter's value to an index register. -/
  | scRead (t : Fin 64) (ph : Phase)
  /-- WAIT_ANY (R137). WAIT.ANY waits for the first of up to 8 counter conditions and writes which one held. -/
  | waitAny (t : Fin 64) (ph : Phase)
  /-- WAIT_CONDITION_MET (R136). A counter condition of a waiting SC.WAIT or WAIT.ANY holds at the end of a cycle, and the acquire completes. -/
  | waitConditionMet (t : Fin 64)
  /-- FENCE_P (R138). FENCE.P completes once every covered write is visible. -/
  | fenceP (t : Fin 64) (ph : Phase)
  /-- BAR_ARRIVE (R139). BAR.ARRIVE records the tile's arrival at a barrier slot as a release. -/
  | barArrive (t : Fin 64) (ph : Phase)
  /-- BAR_WAIT (R139). BAR.WAIT waits, as an acquire, for the release of the tile's generation. -/
  | barWait (t : Fin 64) (ph : Phase)
  /-- RAMP_RELEASE (R210). The ramp delay after a ramp release expires, so the tile's MX stream may start instructions again. -/
  | rampRelease (t : Fin 64)
  /-- DROOP_DETECT (R372). A tile's droop detector fires, and the tile's streams advance on every second cycle until HOLD cycles after it clears. -/
  | droopDetect (t : Fin 64) (mv : Nat)
  /-- WR (R172). A WR flit carrying one line of a write transfer is delivered and written, and the LAST flit draws a WACK and may signal a counter. -/
  | wrFlit (f : FlitEv)
  /-- WRZ (R180). The marker of a zero-length transfer signals the counter and draws a WACK. -/
  | wrz (f : FlitEv)
  /-- RD (R174). A read request is accepted by the responder and answered with RDATA. -/
  | rdFlit (f : FlitEv)
  /-- CMD (R225). A descriptor flit reaches an edge unit; for plan steps, the prefetcher checks and accepts the steps and splits them into row sub-steps. -/
  | cmd (f : FlitEv)
  /-- RDATA (R172). A returned read line is written at the requester, and the TXID is freed after the last line. -/
  | rdata (f : FlitEv)
  /-- WACK (R172). A write acknowledgement frees the TXID, may let a release proceed, and reports any refusal. -/
  | wack (f : FlitEv)
  /-- ERR (R183). An ERR flit reaches the source, which halts the issuing instance or fails the request. -/
  | errFlit (f : FlitEv)
  /-- CADD (R135). A counter unit applies an add update and returns a WACK. -/
  | cadd (f : FlitEv)
  /-- CSET (R135). A counter unit applies a set update and returns a WACK. -/
  | cset (f : FlitEv)
  /-- BARR (R205). The tick unit records a tile or chip arrival and releases a generation once every participant has arrived. -/
  | barr (f : FlitEv)
  /-- BREL (R209). A barrier release reaches a row's tiles, which record it as a ramp release. -/
  | brel (f : FlitEv)
  /-- REQ_AFTER_GRANT (R175). A REQ flit has waited REQ_AFTER + 1 cycles at an output, so it is granted next. -/
  | reqAfterGrant (x : Fin 10) (y : Fin 9) (port : Fin 5) (waited : Nat)
  /-- SYNC_COUNTER_WINDOW_WRITE (R198). A host write to the sync counter window sets the counter once the earlier posted writes have taken effect. -/
  | syncCounterWindowWrite (fn : Fin 9) (t : Fin 64) (i : Fin 2048) (v : Word)
  /-- CN_PERF_SEL_WRITE (R4). A write to CN_PERF_SEL selects the counted port and restarts CN_PERF_CNT at 0. -/
  | cnPerfSelWrite (v : Word)
  /-- UNIT_READ (R226). Once 16 KiB of a slice's read area is reserved, the row issues the flash read of its next stripe unit. -/
  | unitRead (row : Fin 8)
  /-- PAGE_READ (R270). A flash page read completes; its codewords are decoded and checked against META. -/
  | pageRead (ch : Fin 16) (host : Bool) (ev : PageEv)
  /-- BLOCK_LANDED (R294). A block's extent has reached the Glade slice, so the header and CRC are checked and, if they pass, the block is reserved and decoded. -/
  | blockLanded (row : Fin 8) (src : BlkSrc) (ev : BlkEv)
  /-- BLOCK_REREAD (R295). The second read of a block that failed its check arrives and is checked, then decoded or failed with CODEC_CHECK. -/
  | blockReread (row : Fin 8) (ev : BlkEv)
  /-- BLOCK_DECODED (R228). Decoding of a block ends; the output is written, the reservation is released and the arrival increment is sent. -/
  | blockDecoded (row : Fin 8)
  /-- TABLE_FETCH (R291). A row's table fetch returns; the table is checked and cached, or the block fails with CODEC_TABLE. -/
  | tableFetch (row : Fin 8) (dr : DramEv)
  /-- BLOCK_ENCODE (R301). The encoder chooses a table, codes each sub-stream, and writes the whole block to DRAM. -/
  | blockEncode (row : Fin 8) (drs : List DramEv)
  /-- CD_TBL_COMMIT (R292). At the next edge, the cached tables of the tenant are invalidated in every row. -/
  | cdTblCommit (v : Word)
  /-- DRAM_START (R243). A write of 1 to DR_GCTRL.START initialises every channel and trains it or restores its training. -/
  | dramStart (v : Word)
  /-- DRAM_TRAINING_DONE (R260). Bring-up of the channels ends: READY and C_ch are set, or the failing channels are marked. -/
  | dramTrainingDone (ev : DramUp)
  /-- DR_CFG_WRITE (R243). A write of DR_GCFG or DR_CH_CFG after START keeps the locked fields and logs MEM_CFG_LOCKED only if it would have changed one. -/
  | drCfgWrite (k : Fin 9) (v : Word)
  /-- REFRESH_TEMP (R252). A per-bank refresh of TEMP mode falls due and is issued. -/
  | refreshTemp (ch : Fin 8) (bank : Fin 16)
  /-- REFRESH_FIXED (R253). A REFab falls due on the FIXED grid and stalls the channel. -/
  | refreshFixed (ch : Fin 8) (rfcNs : Nat)
  /-- MR4_POLL (R252). Every 250 µs MR4 is read and the refresh rate or interval is adjusted. -/
  | mr4Poll (ch : Fin 8) (m : BitVec 6)
  /-- WCK2DQ_TRACKING (R256). Every 8 ms WCK2DQ oscillator tracking runs on each channel. -/
  | wck2dqTracking (ch : Fin 8)
  /-- PAGE_IDLE_CLOSE (R251). Under TIMER, a page has seen no access for IDLE CK cycles and is closed. -/
  | pageIdleClose (ch : Fin 8) (bank : Fin 16)
  /-- FLASH_START (R267). A write of 1 to FL_GCTRL.START resets, identifies, checks, trains and loads the bad-block table on all channels. -/
  | flashStart (v : Word)
  /-- FLASH_START_DONE (R268). The flash bring-up ends with READY set, or with the failing channels marked and FLASH_TOPOLOGY logged. -/
  | flashStartDone (ev : FlashUp)
  /-- FL_GCFG_WRITE (R266). A write to RATE after START is dropped and FLASH_CFG_LOCKED is logged. -/
  | flGcfgWrite (v : Word)
  /-- FL_CH_WREG_WRITE (R274). A write of a channel's weight region rechecks the channel's pair of regions and sets them in effect or treats both as empty. -/
  | flChWregWrite (c : Fin 16) (v : Word)
  /-- FL_CH_SREG_WRITE (R274). A write of a channel's spill region rechecks the channel's pair of regions and sets them in effect or treats both as empty. -/
  | flChSregWrite (c : Fin 16) (v : Word)
  /-- READ_PAGE (R278). The host command reads a page with correction and retry into the DRAM buffer. -/
  | readPage (slc : Bool)
  /-- PROGRAM_PAGE (R278). The host command programs the buffer to a page in the format of R269. -/
  | programPage (slc : Bool) (dr : DramEv)
  /-- ERASE_BLOCK (R278). The host command erases a block. -/
  | eraseBlock (slc : Bool)
  /-- MARK_BAD (R277). The host command marks a block bad in the loaded table. -/
  | markBad
  /-- BBT_STORE (R277). The bad-block table is written to the older copy with a new generation. -/
  | bbtStore
  /-- SCAN (R278). The bad-block bitmap is built from the factory marks. -/
  | flScan
  /-- HOST_COMMAND_AGED (R281). A host flash command has waited 1 ms, so it is issued next on its LUN. -/
  | hostCommandAged
  /-- PORT_TRAINING (R305). A port with EN set trains through detection, equalisation, ID exchange, latency measurement and credits, and comes up. -/
  | portTraining (p : Fin 4) (ev : TrainEv)
  /-- LINK_TRAIN_RETRY (R305). After a failed training, the port retrains from step 1 every 100 ms while EN is set. -/
  | linkTrainRetry (p : Fin 4)
  /-- PORT_DOWN (R310). No good flit has arrived for 200 ns, so the port is declared down, its channels are fenced and a NOTICE is sent. -/
  | portDown (p : Fin 4)
  /-- IDLE (R309). An IDLE flit is received; its ACK and credits are taken. -/
  | idleFlit (p : Fin 4) (hd : BitVec 64) (bs : List Byte)
  /-- DATA (R309). A DATA flit is accepted in LSEQ order with a good CRC, or it is discarded and a NAK is sent. -/
  | dataFlit (p : Fin 4) (bs : List Byte) (ev : SramEv)
  /-- TICK (R330). A TICK flit on the UP port schedules the chip's edge at t − LAT + REMAIN and is forwarded. -/
  | tickFlit (p : Fin 4) (hd : BitVec 64) (bs : List Byte)
  /-- NOTICE (R328). A NOTICE sets the lost chip's bit in HT_LOST, is forwarded, and breaks SYSTEM barriers. -/
  | noticeFlit (p : Fin 4) (hd : BitVec 64) (bs : List Byte)
  /-- NAK (R309). A NAK makes the sender replay in order from the flit after ACK. -/
  | nakFlit (p : Fin 4) (bs : List Byte) (ev : SramEv)
  /-- REPLAY_TIMEOUT (R309). ACK has not advanced for 2 µs, so the sender replays. -/
  | replayTimeout (p : PortEv)
  /-- LINES (R313). A LINES packet on a channel is delivered, discarded as stale or closed, or fences the channel on a sequence gap. -/
  | linesPkt (k : Pkt)
  /-- EACK (R314). An end-to-end acknowledgement retires the channel's unacknowledged packets at the source. -/
  | eack (k : Pkt)
  /-- EACK_DUE (R314). 1 µs after the oldest unacknowledged delivered packet, the destination sends an EACK. -/
  | eackDue (kind cls : Fin 3) (peer : Fin 16)
  /-- UNDELIV (R315). A returned packet fences the channel at the source and fails its request. -/
  | undeliv (k : Pkt)
  /-- FINISH (R332). The master records a chip's finish of table N, which may allow edge N + 1. -/
  | finishPkt (k : Pkt)
  /-- E2E_TIMEOUT (R314). The oldest unacknowledged packet has exceeded HT_E2E_TO, so the channel is fenced with LINK_PATH_LOST. -/
  | e2eTimeout (kind cls : Fin 3) (peer : Fin 16)
  /-- MASTER_LOST (R333). No tick flit has arrived by 1.5 P, so the chip free-runs on its local timer with UNSYNC set. -/
  | masterLost
  /-- OPEN (R316). HT_CHAN_CMD OPEN sets a channel end's epoch, clears its fence and zeroes its sequence. -/
  | chOpen (v : Word)
  /-- CLOSE (R316). HT_CHAN_CMD CLOSE discards a channel end's state and leaves the channel closed. -/
  | chClose (v : Word)
  /-- HT_ROUTE_COMMIT (R318). At the next edge the shadow route table becomes active. -/
  | htRouteCommit (v : Word)
  /-- HT_CHIP_WRITE (R317). A write to HT_CHIP or HT_TOPO while any port is up is dropped and LINK_CFG_LOCKED is logged. -/
  | htChipWrite (topo : Bool) (v : Word)
  /-- LINK_RST_N (R326). The link domain resets, the ports go silent, and channels routed through the lost ports are fenced. -/
  | linkRstN
  /-- MP_COMMIT (R347). At the first edge after the write, tenant t's mapping table is fetched and checked; it comes in force at the next edge or is refused. -/
  | mpCommit (v : Word)
  /-- HOST_WAKE (R350). A write of PW_REQ.STATE = 0 wakes the part from S1 to S3. -/
  | hostWake
  /-- REQUEST_S1_POISE (R350). The PF driver requests S1, which is entered at the next edge. -/
  | requestS1Poise
  /-- REQUEST_S2_REST (R350). The PF driver requests S2. -/
  | requestS2Rest
  /-- REQUEST_S3_DOZE (R350). The PF driver requests S3. -/
  | requestS3Doze
  /-- REQUEST_S4_DEEP (R350). The PF driver requests S4. -/
  | requestS4Deep
  /-- REQUEST_S5_DORMANT (R350). The PF driver requests S5. -/
  | requestS5Dormant
  /-- STATE_ENTRY (R352). When the next edge would occur, or no table runs and no edge can be expected, the entry steps of the requested state run. -/
  | stateEntry (n : Nat) (failing : List (Nat × Bool))
  /-- WAKE_PIN (R357). WAKE0_N or WAKE1_N held low for 2 periods wakes the part or abandons an entry. -/
  | wakePin (pin : Bool)
  /-- SP0_BREAK_WAKE (R357). SP0 RX held low for 32 periods wakes the part. -/
  | sp0BreakWake
  /-- WAKE_TIMER (R357). PW_WAKE_TIMER periods after entry completed, the part wakes. -/
  | wakeTimer
  /-- STATE_EXIT (R357). The exit of the present state runs to the first tick within its bound, restoring the keep list and the retention set. -/
  | stateExit (env : BootEnv)
  /-- DRAM_READY_EVENT (R361). After an S4 exit, DRAM training and the spill restore are done; DRAM_READY is set and the keep-list restore begins. -/
  | dramReadyEvent (evs : List PageEv)
  /-- OP_COMMIT (R362). At the next edge the shadow OP table is checked and made active or refused. -/
  | opCommit (v : Word)
  /-- PLL_LOCK (R365). The idle fabric PLL locks to the new frequency, ready for the glitch-free switch. -/
  | pllLock
  /-- AVS_READBACK (R366). SETTLE_US after a voltage raise the rail is read back; a late rail holds the edge. -/
  | avsReadback (mv : BitVec 16)
  /-- AVS_TIMEOUT (R366). After 1 ms or the third failed retry, the table runs at OP15 and PWR_AVS_FAIL is logged. -/
  | avsTimeout (retries : Bool)
  /-- SAMPLING_INSTANT (R373). Every 100 µs the sensors are converted and filtered, θ is computed, PREF is compared, trims are recomputed and the fan target is set. -/
  | samplingInstant (raw : List (BitVec 16)) (pref : BitVec 16)
  /-- IDLE_INSTANT (R385). When no edge has occurred for 10 ms, the thermal level is judged at an idle instant. -/
  | idleInstant
  /-- TH_COMMIT (R382). At the next edge or idle instant the shadow thermal table is checked and made active or refused. -/
  | thCommit (v : Word)
  /-- THERMAL_TRIP (R389). A trip comparator sees 115 °C twice, so the trip latch sets, THERMTRIP_N goes low, clocks stop and supplies are disabled. -/
  | thermalTrip (sensor : Fin 16) (c1 c2 : BitVec 16)
  /-- FAN_TACH_WINDOW (R392). At the end of each 1 s window the RPM is computed and a fan failure may be flagged. -/
  | fanTachWindow (edges : Nat)
  /-- FAN_DUTY_FALL (R391). After FALL_MS the duty in force falls by one point towards a lower target. -/
  | fanDutyFall
  /-- SEC_STAND_GO (R395). A write of GO makes the stand request pending until the next edge checks it. -/
  | secStandGo (v : Word)
  /-- CLEARING_REQUEST (R406). A write of SEC_CLEAR GO stops packing for the tenant and removes its unstarted instances. -/
  | clearingRequest (v : Word)
  /-- CLEARING_ACCEPT (R407). Once the tenant is idle, the Clearing is accepted and its quiesce, scrub and key rotation begin. -/
  | clearingAccept (t : ClearEv)
  /-- CLEARING_RELEASE (R407). The scrub and any zero fill end; the per-tenant registers are reset, the sessions disabled and DONE set. -/
  | clearingRelease (t : Fin 8)
  /-- GENERATE (R403). A key slot is filled from the entropy source. -/
  | keyGenerate (slot : Fin 16) (entropyFail : Bool)
  /-- UNWRAP (R404). A wrapped blob is unwrapped under the device key into a slot. -/
  | keyUnwrap (slot : Fin 16)
  /-- EXPORT (R403). A slot's key is wrapped under the device key into SEC_KEY_WRAP. -/
  | keyExport (slot : Fin 16)
  /-- PROG_ROOT (R412). ROOT_HASH is programmed from SEC_ROOT_W. -/
  | progRoot
  /-- LOCK (R412). The LOCK fuse is set. -/
  | fuseLock
  /-- DEBUG_DIS (R412). The DEBUG_DIS fuse is set. -/
  | debugDis
  /-- ROLLBACK_INC (R412). The next rollback bit is blown. -/
  | rollbackInc
  /-- DOORBELL_WRITE (R427). A doorbell write is checked against the ring's indices and sets the index, or is dropped. -/
  | doorbellWrite (fn : Fin 9) (r : Fin 16384) (v : Word) (ecc : SramEv)
  /-- DOORBELL_VISIBLE (R16). The new ring head becomes visible to the composer within 1.2 µs. -/
  | doorbellVisible (r : Fin 16384)
  /-- RING_CONFIG_WRITE (R428). A write of a ring's base or configuration is dropped while BUSY or takes effect at the next snapshot. -/
  | ringConfigWrite (fn : Fin 9) (r : Fin 16384) (k : Fin 4) (v : Word)
  /-- BAR2_READ (R423). A host BAR2 read returns decrypted DRAM in completions of at most 64 B, or zeros when out of range. -/
  | bar2Read (fn : Fin 9) (off : BitVec 35) (acc : Bar2Acc) (ev : DramEv) (ecc : SramEv)
  /-- COMPLETION_WRITE (R433). For each committed slot, the command and descriptors are read and checked, output is copied, the completion entry written and the indices advanced. -/
  | completionWrite
  /-- COALESCE_TIMER (R436). RC_COAL_US after the first unsignalled completion, the ring's MSI-X message is sent. -/
  | coalesceTimer (r : Fin 16384)
  /-- MSIX_UNMASK (R437). Unmasking a vector with its pending bit set sends one message. -/
  | msixUnmask (fn : Fin 9) (c : MsixCtl)
  /-- FLR_VF (R422). A VF function-level reset halts the tenant's instances, resets its rings and requests a Clearing. -/
  | flrVf (t : Fin 8)
  /-- FLR_PF (R422). An FLR of the PF, a hot reset or a link-down without PERST_N acts as a warm reset. -/
  | flrPf (env : BootEnv)
  /-- PME_TURN_OFF (R421). At S4 or S5 entry the host port acknowledges PME_Turn_Off and enters L2/L3 Ready. -/
  | pmeTurnOff
  /-- SP_BAUD_WRITE (R438). A write of SP_BAUD sets the rate at the next character boundary; DIV 0 stops the port. -/
  | spBaudWrite (n : Fin 2) (v : Word)
  /-- SP_DATA_READ (R442). A 32-bit read returns and removes the oldest RX entry and clears the flags reported by the last SP_STAT read. -/
  | spDataRead (n : Fin 2)
  /-- SP_STAT_READ (R444). A 32-bit read of SP_STAT records which sticky flags the next SP_DATA read will clear. -/
  | spStatRead (n : Fin 2) (ctsHigh : Bool)
  /-- SP_DATA_WRITE (R445). A 32-bit write queues a character in the TX FIFO, or is dropped with TX_DROP when the FIFO is full. -/
  | spDataWrite (n : Fin 2) (v : Word)
  /-- SP_BRK_TX (R448). A write requests a break of LEN bit times at the next character boundary. -/
  | spBrkTx (n : Fin 2) (v : Word)
  /-- FLUSH_RX (R444). SP_FLUSH.RX empties the RX FIFO and clears PE, FE, OVR and BRK. -/
  | flushRx (n : Fin 2)
  /-- FLUSH_TX (R442). SP_FLUSH.TX empties the TX FIFO. -/
  | flushTx (n : Fin 2)
  /-- CHARACTER_RECEIVE (R441). A received character is pushed with its PE and FE marks, or discarded with OVR when the FIFO is full. -/
  | characterReceive (n : Fin 2) (old : Bool) (sam : List RxSample)
  /-- BREAK_END (R449). The line returns to 1 after a break, and the break's length is recorded. -/
  | breakEnd (n : Fin 2) (bits : Nat)
  /-- CHARACTER_TRANSMIT (R454). At a character boundary the transmitter sends the next character from the engine or the TX FIFO, gated by CTS and the guard. -/
  | characterTransmit (n : Fin 2) (l : TxLine)
  /-- TELEMETRY_LINE (R455). At each whole second the engine forms a telemetry line for sending. -/
  | telemetryLine (n : Fin 2)
  /-- SERVICE_FRAME_TIMEOUT (R457). More than 20 ms pass between two bytes of a frame, so the frame is discarded. -/
  | serviceFrameTimeout (n : Fin 2)
  /-- READ32 (R459). The service command reads a BAR0 word as the physical function. -/
  | read32 (n : Fin 2) (m : RegEnv)
  /-- WRITE32 (R459). The service command writes a BAR0 word as the physical function. -/
  | write32 (n : Fin 2) (m : RegEnv)
  /-- FLASH_READ (R460). The service command reads page bytes through the private buffer. -/
  | flashRead (n : Fin 2) (ev : PageEv)
  /-- FLASH_PROGRAM (R460). The service command fills the private buffer and, when FINAL is set, erases and programs the page. -/
  | flashProgram (n : Fin 2) (eraseOk progOk : Bool)
  /-- BIST_RUN (R504). The service command requests a test-engine run and responds with RESULT. -/
  | bistRun (n : Fin 2)
  /-- TELEMETRY_NOW (R456). The service command returns the current telemetry line. -/
  | telemetryNow (n : Fin 2)
  /-- RESET (R461). The service command responds and then applies a warm reset or a reset as PORST_N. -/
  | svcReset (n : Fin 2) (env : BootEnv)
  /-- PORST_N (R470). The power-on reset resets everything and runs the power-up and the boot sequence. -/
  | porstN (env : BootEnv)
  /-- PERST_N (R465). The PCIe reset resets the core and runs the boot sequence without the power-up steps. -/
  | perstN (env : BootEnv)
  /-- WARM_RESET (R468). A keyed write of RB_RESET.WARM applies the core reset within 10 µs and then boots, optionally skipping the table. -/
  | warmReset (v : Word) (env : BootEnv)
  /-- TILE_RESET (R467). A write to RB_TILE_RST resets a tile and halts its running instance with TILE_RESET. -/
  | tileReset (hi : Bool) (v : Word)
  /-- BOOT_END (R476). The boot table entry END ends execution of the table. -/
  | bootEnd
  /-- BOOT_WRITE32 (R476). The boot table entry WRITE32 writes B to BAR0 offset A. -/
  | bootWrite32 (m : RegEnv)
  /-- BOOT_POLL32 (R476). The boot table entry POLL32 reads an offset until the masked value matches, failing after TMO ms. -/
  | bootPoll32 (m : RegEnv)
  /-- BOOT_DELAY (R476). The boot table entry DELAY waits A µs. -/
  | bootDelay
  /-- BOOT_LOAD (R477). The boot table entry LOAD copies stripe units from the weight region into DRAM and verifies the envelope. -/
  | bootLoad (evs : List PageEv)
  /-- BOOT_COPY (R476). The boot table entry COPY copies DRAM words to BAR0 words, optionally to every tile. -/
  | bootCopy (dr : DramEv) (m : RegEnv)
  /-- BOOT_VALIDATE (R476). The boot table entry VALIDATE validates a range of fragments one after another. -/
  | bootValidate
  /-- BOOT_TIMEOUT (R476). RB_BOOT_TO ms after the reset's release the boot fails and the part enters the stand-alone state. -/
  | bootTimeout
  /-- ERR_LOG_RD_WRITE (R487). A write advances the log's read pointer, or is dropped when it lies outside the written range. -/
  | errLogRdWrite (v : Word)
  /-- TL_NM_COMMIT (R164). At the next edge the tile checks its shadow numeric-mode table and makes it active, or sets BAD. -/
  | tlNmCommit (t : Fin 64) (v : Word)
  /-- TRST_N (R489). TRST_N low, PORST_N low or five TMS-high clocks reset the TAP controller and the instruction register. -/
  | trstN (env : BootEnv)
  /-- EXTEST (R494). Loading EXTEST holds the core in reset and drives and captures the boundary cells. -/
  | tapExtest (pins cells : BitVec 1212) (sup : BitVec 3) (env : BootEnv)
  /-- SAMPLE_PRELOAD (R490). Loading SAMPLE/PRELOAD selects the boundary-scan chain while the core runs. -/
  | samplePreload (pins cells : BitVec 1212) (sup : BitVec 3) (env : BootEnv)
  /-- IDCODE (R492). Loading IDCODE selects the identification register, which captures 0x2726_09B3. -/
  | tapIdcode (env : BootEnv)
  /-- CLAMP (R494). Loading CLAMP holds the core and selects the bypass register. -/
  | tapClamp (env : BootEnv)
  /-- HIGHZ (R494). Loading HIGHZ holds the core with its outputs at high impedance. -/
  | tapHighz (env : BootEnv)
  /-- EXTEST_PULSE (R496). Loading EXTEST_PULSE drives the AC test signal of IEEE 1149.6 on the lanes. -/
  | extestPulse (pins cells : BitVec 1212) (sup : BitVec 3) (env : BootEnv)
  /-- EXTEST_TRAIN (R496). Loading EXTEST_TRAIN drives the AC test signal of IEEE 1149.6 on the lanes as a train. -/
  | extestTrain (pins cells : BitVec 1212) (sup : BitVec 3) (env : BootEnv)
  /-- LEAVE_EXTEST (R494). Leaving the holding instructions applies PORST_N. -/
  | leaveExtest (code : BitVec 8) (env : BootEnv)
  /-- FIELD_TEST (R503). An Update-DR with GO set starts a test-engine request, or sets REFUSED. -/
  | fieldTest (v : BitVec 40) (env : BootEnv)
  /-- MBIST (R505). The private instruction runs the memory test on one unit with DIAG capture. -/
  | mbist (v : BitVec 64) (env : BootEnv)
  /-- LBIST (R505). The private instruction runs the logic test on one tile. -/
  | lbist (v : BitVec 64) (env : BootEnv)
  /-- SERDES_LB (R505). The private instruction runs a PRBS31 loopback on one lane. -/
  | serdesLb (v : BitVec 64) (env : BootEnv)
  /-- BYPASS (R490). Loading BYPASS, or any unlisted code, selects the 1-bit bypass register. -/
  | tapBypass (code : BitVec 8) (env : BootEnv)
  /-- TEST_RUN_END (R500). A test run ends: RESULT is formed and, after tests 0 to 2, every row is scrubbed and the valid bits are cleared. -/
  | testRunEnd (fails : BitVec 8) (unit : BitVec 8) (diag : BitVec 64)
  /-- PROGRAM_ERASE_COMPLETE (R278). A flash PAGE PROGRAM or BLOCK ERASE that the device has begun ends, and its status sets DONE or FAIL with FLASH_PROG_FAIL or FLASH_ERASE_FAIL and marks the block bad. -/
  | programEraseComplete (ok : Bool)
  /-- START_BIT_ABANDON (R440). A service-port start bit reads 1 at its sampling point, so the character is abandoned without a flag and the receiver hunts again. -/
  | startBitAbandon (n : Fin 2) (sam : List RxSample)
  /-- UNASSIGNED_OPCODE (R140). The sequencer dispatches an instruction with an unassigned opcode and halts the instance with TILE_BAD_INSTR. -/
  | unassignedOpcode (t : Fin 64) (ecc : SramEv)
  deriving DecidableEq, Repr

end Sys2Proof
end

