-- ==== Sys2Proof/WellFormed.lean ====
section
/-! DEFINITION. Well-formed commands: operands that the hardware and its environment can give. The meanings are total, so no
meaning depends on this check. -/

namespace Sys2Proof

open Sys2Proof.Machine

/-- An access of at least one byte and at most 4 KiB, the largest request of PCIe. -/
def HostAcc.wf : HostAcc → Bool
  | .read n => decide (1 ≤ n ∧ n ≤ 4096)
  | .write bs => decide (1 ≤ bs.length ∧ bs.length ≤ 4096)

/-- Likewise for BAR2; a resize names a size of Table 18-2 by its log2 (R415). -/
def Bar2Acc.wf : Bar2Acc → Bool
  | .read n => decide (1 ≤ n ∧ n ≤ 4096)
  | .write bs _ => decide (1 ≤ bs.length ∧ bs.length ≤ 4096)
  | .resize k => decide (28 ≤ k ∧ k ≤ 35)

/-- The energies of eight rails are reported. -/
def EdgeEnv.wf (e : EdgeEnv) : Bool := decide (e.rails.length = 8)

/-- The edge that a register access may make is well-formed. -/
def RegEnv.wf (m : RegEnv) : Bool := EdgeEnv.wf m.edge

/-- A flit reaches a node of the fabric: x 0 to 9, y 0 to 9 (Table 7-2). -/
def FlitEv.wf (f : FlitEv) : Bool := decide (f.x.val ≤ 9 ∧ f.y.val ≤ 9)

/-- A Hertia flit is 128 bytes (Table 13-3). -/
def flitWf (bs : List Byte) : Bool := decide (bs.length = 128)

/-- What follows the header of a Hertia flit is 120 bytes. -/
def bodyWf (bs : List Byte) : Bool := decide (bs.length = 120)

/-- The fields of a Hertia packet lie in their widths (Table 13-4). -/
def Pkt.wf (k : Pkt) : Bool :=
  decide (k.dchip < 16 ∧ k.schip < 16 ∧ k.kind < 8 ∧ k.cls < 4 ∧ k.mc < 4 ∧ k.epoch < 16 ∧ k.nlines < 16 ∧ k.seq < 65536)

/-- A bring-up reports eight channels (R244). -/
def DramUp.wf (e : DramUp) : Bool := decide (e.chans.length = 8)

/-- A bring-up reports four CEs of each of sixteen channels (Table 11-1). -/
def FlashUp.wf (e : FlashUp) : Bool := decide (e.targets.length = 16 ∧ e.tries.length = 16) && e.targets.all (fun c => decide (c.length = 4))

/-- A word-aligned BAR0 offset (R7). -/
def offWf (off : BitVec 26) : Bool := decide (off.toNat % 4 = 0)

/-- The check of a command's operands. -/
def Instr.wf : Instr → Bool
  | .bar0IrregularAccess _ _ acc m m2 => HostAcc.wf acc && RegEnv.wf m && RegEnv.wf m2
  | .registerWrite _ off _ m => offWf off && RegEnv.wf m
  | .readClear _ off m => offWf off && RegEnv.wf m
  | .tkCountRead => true
  | .pwAonTimeRead => true
  | .tickEdge env => EdgeEnv.wf env
  | .tableFinal => true
  | .allowanceSpent => true
  | .tickInRequest env => EdgeEnv.wf env
  | .heldRequestDue env => EdgeEnv.wf env
  | .tkKick _ env => EdgeEnv.wf env
  | .tickSrcLost env => EdgeEnv.wf env
  | .tkPeriodWrite _ => true
  | .tableFinish env => EdgeEnv.wf env
  | .overrunAbort env => EdgeEnv.wf env
  | .validate _ => true
  | .invalidate _ => true
  | .invalidateAll => true
  | .tkFstoreBaseWrite _ _ => true
  | .tkRuleCommit _ => true
  | .tkCntClr _ => true
  | .instanceStart _ => true
  | .codeLoadComplete _ _ _ => true
  | .watchdog _ => true
  | .instanceCommit _ => true
  | .nopOp _ _ => true
  | .endOp _ _ => true
  | .tickwait _ _ => true
  | .tickwaitAlign _ => true
  | .loopOp _ _ => true
  | .endloop _ _ => true
  | .ixSet _ _ => true
  | .ixAdd _ _ => true
  | .ixMov _ _ => true
  | .ixMadd _ _ => true
  | .rdclk _ _ => true
  | .mxLdw _ _ _ => true
  | .mxMac _ _ _ => true
  | .mxClr _ _ => true
  | .vxLd _ _ _ => true
  | .vxSt _ _ _ => true
  | .vxAlu _ _ => true
  | .vxCurve _ _ => true
  | .vxRed _ _ => true
  | .vxBcast _ _ => true
  | .vxSort _ _ => true
  | .vxTopk _ _ => true
  | .vxAcc _ _ => true
  | .vxDeq _ _ _ => true
  | .dmMove _ _ _ => true
  | .dmMoveRd _ _ => true
  | .dmMoveDs _ _ => true
  | .dmMoveSd _ _ _ => true
  | .dmMoveG _ _ _ => true
  | .dmStride _ _ _ => true
  | .dmStrideG _ _ _ => true
  | .dmXpose _ _ _ => true
  | .dmMcast _ _ _ => true
  | .dmFwd _ _ _ => true
  | .dmCodec _ _ _ => true
  | .dmPref _ _ => true
  | .scAdd _ _ => true
  | .scSet _ _ => true
  | .scSignal _ _ => true
  | .scWait _ _ => true
  | .scRead _ _ => true
  | .waitAny _ _ => true
  | .waitConditionMet _ => true
  | .fenceP _ _ => true
  | .barArrive _ _ => true
  | .barWait _ _ => true
  | .rampRelease _ => true
  | .droopDetect _ _ => true
  | .wrFlit f => FlitEv.wf f
  | .wrz f => FlitEv.wf f
  | .rdFlit f => FlitEv.wf f
  | .cmd f => FlitEv.wf f
  | .rdata f => FlitEv.wf f
  | .wack f => FlitEv.wf f
  | .errFlit f => FlitEv.wf f
  | .cadd f => FlitEv.wf f
  | .cset f => FlitEv.wf f
  | .barr f => FlitEv.wf f
  | .brel f => FlitEv.wf f
  | .reqAfterGrant _ _ _ _ => true
  | .syncCounterWindowWrite _ _ _ _ => true
  | .cnPerfSelWrite _ => true
  | .unitRead _ => true
  | .pageRead _ _ _ => true
  | .blockLanded _ _ _ => true
  | .blockReread _ _ => true
  | .blockDecoded _ => true
  | .tableFetch _ _ => true
  | .blockEncode _ _ => true
  | .cdTblCommit _ => true
  | .dramStart _ => true
  | .dramTrainingDone ev => DramUp.wf ev
  | .drCfgWrite _ _ => true
  | .refreshTemp _ _ => true
  | .refreshFixed _ _ => true
  | .mr4Poll _ _ => true
  | .wck2dqTracking _ => true
  | .pageIdleClose _ _ => true
  | .flashStart _ => true
  | .flashStartDone ev => FlashUp.wf ev
  | .flGcfgWrite _ => true
  | .flChWregWrite _ _ => true
  | .flChSregWrite _ _ => true
  | .readPage _ => true
  | .programPage _ _ => true
  | .eraseBlock _ => true
  | .markBad => true
  | .bbtStore => true
  | .flScan => true
  | .hostCommandAged => true
  | .portTraining _ _ => true
  | .linkTrainRetry _ => true
  | .portDown _ => true
  | .idleFlit _ _ bs => bodyWf bs
  | .dataFlit _ bs _ => flitWf bs
  | .tickFlit _ _ bs => bodyWf bs
  | .noticeFlit _ _ bs => bodyWf bs
  | .nakFlit _ bs _ => flitWf bs
  | .replayTimeout _ => true
  | .linesPkt k => Pkt.wf k
  | .eack k => Pkt.wf k
  | .eackDue _ _ _ => true
  | .undeliv k => Pkt.wf k
  | .finishPkt k => Pkt.wf k
  | .e2eTimeout _ _ _ => true
  | .masterLost => true
  | .chOpen _ => true
  | .chClose _ => true
  | .htRouteCommit _ => true
  | .htChipWrite _ _ => true
  | .linkRstN => true
  | .mpCommit _ => true
  | .hostWake => true
  | .requestS1Poise => true
  | .requestS2Rest => true
  | .requestS3Doze => true
  | .requestS4Deep => true
  | .requestS5Dormant => true
  | .stateEntry _ _ => true
  | .wakePin _ => true
  | .sp0BreakWake => true
  | .wakeTimer => true
  | .stateExit _ => true
  | .dramReadyEvent _ => true
  | .opCommit _ => true
  | .pllLock => true
  | .avsReadback _ => true
  | .avsTimeout _ => true
  | .samplingInstant raw _ => decide (raw.length = 16)
  | .idleInstant => true
  | .thCommit _ => true
  | .thermalTrip _ _ _ => true
  | .fanTachWindow _ => true
  | .fanDutyFall => true
  | .secStandGo _ => true
  | .clearingRequest _ => true
  | .clearingAccept _ => true
  | .clearingRelease _ => true
  | .keyGenerate _ _ => true
  | .keyUnwrap _ => true
  | .keyExport _ => true
  | .progRoot => true
  | .fuseLock => true
  | .debugDis => true
  | .rollbackInc => true
  | .doorbellWrite _ _ _ _ => true
  | .doorbellVisible _ => true
  | .ringConfigWrite _ _ _ _ => true
  | .bar2Read _ _ acc _ _ => Bar2Acc.wf acc
  | .completionWrite => true
  | .coalesceTimer _ => true
  | .msixUnmask _ _ => true
  | .flrVf _ => true
  | .flrPf _ => true
  | .pmeTurnOff => true
  | .spBaudWrite _ _ => true
  | .spDataRead _ => true
  | .spStatRead _ _ => true
  | .spDataWrite _ _ => true
  | .spBrkTx _ _ => true
  | .flushRx _ => true
  | .flushTx _ => true
  | .characterReceive _ _ sam => decide (sam ≠ [])
  | .breakEnd _ _ => true
  | .characterTransmit _ _ => true
  | .telemetryLine _ => true
  | .serviceFrameTimeout _ => true
  | .read32 _ m => RegEnv.wf m
  | .write32 _ m => RegEnv.wf m
  | .flashRead _ _ => true
  | .flashProgram _ _ _ => true
  | .bistRun _ => true
  | .telemetryNow _ => true
  | .svcReset _ _ => true
  | .porstN _ => true
  | .perstN _ => true
  | .warmReset _ _ => true
  | .tileReset _ _ => true
  | .bootEnd => true
  | .bootWrite32 m => RegEnv.wf m
  | .bootPoll32 m => RegEnv.wf m
  | .bootDelay => true
  | .bootLoad _ => true
  | .bootCopy _ m => RegEnv.wf m
  | .bootValidate => true
  | .bootTimeout => true
  | .errLogRdWrite _ => true
  | .tlNmCommit _ _ => true
  | .trstN _ => true
  | .tapExtest _ _ _ _ => true
  | .samplePreload _ _ _ _ => true
  | .tapIdcode _ => true
  | .tapClamp _ => true
  | .tapHighz _ => true
  | .extestPulse _ _ _ _ => true
  | .extestTrain _ _ _ _ => true
  | .leaveExtest _ _ => true
  | .fieldTest _ _ => true
  | .mbist _ _ => true
  | .lbist _ _ => true
  | .serdesLb _ _ => true
  | .tapBypass _ _ => true
  | .testRunEnd _ _ _ => true
  | .programEraseComplete _ => true
  | .startBitAbandon _ sam => decide (sam ≠ [])
  | .unassignedOpcode _ _ => true

end Sys2Proof
end

