-- ==== Sys2Proof/Decode.lean ====
section
/-! DEFINITION. The words of the commands. No row of spec/opcode_table.json gives bits, so no word spells a command. (The instruction
words of Nerlor are not commands: the meanings of the tiles read them from instruction memory, see Machine/Seq.lean.) -/

namespace Sys2Proof

/-- The command that a word of the table's bits spells: none, for every word. -/
def decodeTableWord (_nbits _w : Nat) : Option Instr := none

end Sys2Proof
end

