-- ==== Sys2Proof/Config.lean ====
section
/-! DEFINITION. What an implementation fixes and the values the spec leaves open: constants without a body, so that nothing
can be proved about the value they give. Each is applied to a counter of the state or to the operands it depends on. -/

namespace Sys2Proof.Config

/-- A free 32-bit value, by the counter of the state (an undefined or unspecified value). -/
opaque freeWord : Nat → BitVec 32

/-- A byte that a BAR2 read returns in place of data withheld by an uncorrectable error (R38): the counter of the state, the byte's place. -/
opaque heldByte : Nat → Nat → BitVec 8

/-- The byte that undefined DRAM holds: the generation of the event that left it undefined, the address (R400, R402). -/
opaque dramByte : Nat → Nat → BitVec 8

/-- The byte that an undefined scratchpad line holds after S3 or S4 (R356): the generation and the address. -/
opaque spadByte : Nat → Nat → BitVec 8

/-- The byte that an undefined flash page holds (R285): the generation of the event that left it so, the byte's address. -/
opaque flashByte : Nat → Nat → BitVec 8

/-- A byte of a spill image's descriptor or, with `true`, of its seal, whose layouts the spec does not give (R282): the values that the page holds, the
byte's place. -/
opaque spillByte : Bool → List Nat → Nat → BitVec 8

/-- A byte of a 64-byte data unit under AES-256-XTS (R401): the key, the tweak, the plaintext, the byte's place. -/
opaque xtsByte : BitVec 512 → Nat → List (BitVec 8) → Nat → BitVec 8

/-- A byte of the numeric-mode table `nm_default` that the spec does not print (R163, R165): its offset. -/
opaque nmDefaultByte : Nat → BitVec 8

/-- The 512 bits that the entropy source gives, by the counter (R403, R407). -/
opaque entropy : Nat → BitVec 512

/-- AES key wrap with padding under the device key (R404): wrap a 64-byte key for a slot into the 72-byte blob. -/
opaque keyWrap : BitVec 512 → BitVec 576

/-- Its inverse: the key, or none where the integrity check fails (R404). -/
opaque keyUnwrap : BitVec 576 → Option (BitVec 512)

/-- Verification of an image envelope by ECDSA (R410): the root hash and the bytes it covers. -/
opaque ecdsaOk : BitVec 384 → List (BitVec 8) → Bool

/-- SHA-384 of bytes (R410, R412). -/
opaque sha384 : List (BitVec 8) → BitVec 384

/-- The chip ID of the system's tick master, which no register of the chip holds (R332, R333). -/
opaque tickMaster : Nat

/-- The minimum VOLT, in 5 mV, that is fused for a FREQ in 25 MHz (R362). -/
opaque fusedVolt : Nat → Nat

/-- The median of an even number of temperatures in 1/4 °C, by the two middle ones (Table 22-4 does not say which is meant). -/
opaque midpoint : Int → Int → Int

end Sys2Proof.Config
end

