-- ==== Sys2Proof/Machine/RegName.lean ====
section
/-! DEFINITION. The BAR0 offsets of the registers by name (the register tables of the chapters); `i` is the index of one of
several like registers, and a `TL_` or `SQ_` register is named with its tile. -/

namespace Sys2Proof.Machine.Reg

abbrev GL_IDENT : Nat := 0
abbrev GL_CAP0 : Nat := 4
abbrev GL_CAP1 : Nat := 8
abbrev GL_SCRATCH : Nat := 0xC
abbrev TK_CTRL : Nat := 0x10000
abbrev TK_PERIOD : Nat := 0x10004
abbrev TK_KICK : Nat := 0x10008
abbrev TK_STAT : Nat := 0x1000C
abbrev TK_COUNT_LO : Nat := 0x10010
abbrev TK_COUNT_HI : Nat := 0x10014
abbrev TK_SLIP_TICKS : Nat := 0x10018
abbrev TK_SLIP_US : Nat := 0x1001C
abbrev TK_SLIP_MAX_US : Nat := 0x10020
abbrev TK_ABORTS : Nat := 0x10024
abbrev TK_DROPPED : Nat := 0x10028
abbrev TK_TRUNC : Nat := 0x1002C
abbrev TK_CNT_CLR : Nat := 0x10030
abbrev TK_FSTORE_BASE_LO : Nat := 0x10040
abbrev TK_FSTORE_BASE_HI : Nat := 0x10044
abbrev TK_FSTORE_CMD : Nat := 0x10048
abbrev TK_FSTORE_STAT : Nat := 0x1004C
abbrev TK_RULE_COUNT : Nat := 0x10050
abbrev TK_RULE_COMMIT : Nat := 0x10054
abbrev TK_SHARE (i : Nat) : Nat := 0x10060 + i * 4
abbrev TK_BUD_CYC : Nat := 0x10080
abbrev TK_BUD_DRAM : Nat := 0x10084
abbrev TK_BUD_FLASH : Nat := 0x10088
abbrev TK_BUD_GLADE : Nat := 0x1008C
abbrev TK_BUD_ENERGY : Nat := 0x10090
abbrev TK_PACKED : Nat := 0x10094
abbrev TK_BATCH_BASE_LO (i : Nat) : Nat := 0x100A0 + i * 8
abbrev TK_BATCH_BASE_HI (i : Nat) : Nat := 0x100A4 + i * 8
abbrev MP_BASE_LO (i : Nat) : Nat := 0x10100 + i * 8
abbrev MP_BASE_HI (i : Nat) : Nat := 0x10104 + i * 8
abbrev MP_COMMIT : Nat := 0x10140
abbrev MP_STAT : Nat := 0x10144
abbrev MP_ID (i : Nat) : Nat := 0x10160 + i * 4
abbrev MP_LCRC (i : Nat) : Nat := 0x10180 + i * 4
abbrev MP_CRC (i : Nat) : Nat := 0x101A0 + i * 4
abbrev RULE_MEM (i : Nat) : Nat := 0x12000 + i * 4
abbrev ATTR (i : Nat) : Nat := 0x14000 + i * 4
abbrev PW_STAT : Nat := 0x20000
abbrev PW_REQ : Nat := 0x20004
abbrev PW_WAKE_EN : Nat := 0x20008
abbrev PW_WAKE_SRC : Nat := 0x2000C
abbrev PW_AUTO : Nat := 0x20010
abbrev PW_WAKE_TIMER : Nat := 0x20014
abbrev PW_AON_TIME_LO : Nat := 0x20018
abbrev PW_AON_TIME_HI : Nat := 0x2001C
abbrev PW_KEEP_BASE_LO : Nat := 0x20020
abbrev PW_KEEP_BASE_HI : Nat := 0x20024
abbrev PW_KEEP_COUNT : Nat := 0x20028
abbrev PW_EXIT_US : Nat := 0x2002C
abbrev CAP_LIMIT : Nat := 0x20040
abbrev CAP_WINDOW : Nat := 0x20044
abbrev CAP_CTRL : Nat := 0x20048
abbrev CAP_STAT : Nat := 0x2004C
abbrev CAP_BUDGET : Nat := 0x20050
abbrev CAP_EFF_MW : Nat := 0x20054
abbrev CAP_AVG_MW : Nat := 0x20058
abbrev CAP_EXCEED : Nat := 0x2005C
abbrev DROOP_CNT : Nat := 0x20060
abbrev DROOP_CTRL : Nat := 0x20064
abbrev RAIL_MW (i : Nat) : Nat := 0x20080 + i * 4
abbrev AVS_CFG : Nat := 0x200C0
abbrev AVS_STAT : Nat := 0x200C4
abbrev OP_ENTRY (i : Nat) : Nat := 0x20100 + i * 4
abbrev OP_COMMIT : Nat := 0x20140
abbrev OP_STAT : Nat := 0x20144
abbrev PHASE_CFG (i : Nat) : Nat := 0x20200 + i * 8
abbrev PHASE_COEF (i : Nat) : Nat := 0x20204 + i * 8
abbrev CAP_RAMP_STEP (i : Nat) : Nat := 0x20400 + i * 4
abbrev CAP_RAMP_MAP : Nat := 0x20420
abbrev CAP_RAMP_CHIP : Nat := 0x20424
abbrev TH_STAT : Nat := 0x30000
abbrev TH_CHIP : Nat := 0x30004
abbrev TH_DWELL : Nat := 0x30008
abbrev TH_SENSOR_EN : Nat := 0x3000C
abbrev TH_FORCE : Nat := 0x30010
abbrev TH_COMMIT : Nat := 0x30014
abbrev TH_TRIP_LAST : Nat := 0x30018
abbrev TH_DROOP : Nat := 0x3001C
abbrev TH_LVL_CNT (i : Nat) : Nat := 0x30020 + i * 4
abbrev TH_TEMP (i : Nat) : Nat := 0x30040 + i * 4
abbrev TH_LVL_A (i : Nat) : Nat := 0x30100 + i * 8
abbrev TH_LVL_B (i : Nat) : Nat := 0x30104 + i * 8
abbrev FAN_CFG : Nat := 0x30200
abbrev FAN_STAT : Nat := 0x30204
abbrev FAN_MIN_RPM : Nat := 0x3020C
abbrev FAN_PT (i : Nat) : Nat := 0x30210 + i * 4
abbrev CAL_STAT : Nat := 0x30300
abbrev CAL_PREF : Nat := 0x30304
abbrev CAL_SENS_A (i : Nat) : Nat := 0x30340 + i * 8
abbrev CAL_SENS_B (i : Nat) : Nat := 0x30344 + i * 8
abbrev CAL_DROOP (i : Nat) : Nat := 0x30400 + i * 4
abbrev CAL_MTR_A (i : Nat) : Nat := 0x30500 + i * 8
abbrev CAL_MTR_B (i : Nat) : Nat := 0x30504 + i * 8
abbrev CAL_AON : Nat := 0x30580
abbrev SEC_STAND_REQ : Nat := 0x40000
abbrev SEC_STAND_CMD : Nat := 0x40004
abbrev SEC_STAND_STAT : Nat := 0x40008
abbrev SEC_CLEAR : Nat := 0x40010
abbrev SEC_CLEAR_STAT : Nat := 0x40014
abbrev SEC_CLEAR_CYC : Nat := 0x40018
abbrev SEC_KEY_CMD : Nat := 0x40020
abbrev SEC_KEY_STAT : Nat := 0x40024
abbrev SEC_KEY_ERR : Nat := 0x40028
abbrev SEC_KEY_WRAP (i : Nat) : Nat := 0x40040 + i * 4
abbrev SEC_FUSE_STAT : Nat := 0x40100
abbrev SEC_ROLLBACK : Nat := 0x40104
abbrev SEC_BOOT_STAT : Nat := 0x40108
abbrev SEC_FUSE_CMD : Nat := 0x40120
abbrev SEC_ROOT_W (i : Nat) : Nat := 0x40140 + i * 4
abbrev SEC_ROOT_HASH (i : Nat) : Nat := 0x40180 + i * 4
abbrev RB_STAT : Nat := 0x60000
abbrev RB_RESET : Nat := 0x60004
abbrev RB_TILE_RST_LO : Nat := 0x60008
abbrev RB_TILE_RST_HI : Nat := 0x6000C
abbrev RB_BOOT_TO : Nat := 0x60010
abbrev RB_ERR : Nat := 0x60014
abbrev RB_BOOT_MS : Nat := 0x60018
abbrev RB_AUTO (i : Nat) : Nat := 0x60100 + i * 4
abbrev ERR_STAT : Nat := 0x70000
abbrev ERR_FATAL : Nat := 0x70004
abbrev ERR_LOG_WR : Nat := 0x70008
abbrev ERR_LOG_RD : Nat := 0x7000C
abbrev ERR_LOST : Nat := 0x70010
abbrev ERR_TOTAL : Nat := 0x70014
abbrev ERR_LAST : Nat := 0x70018
abbrev ERR_CNT_CE : Nat := 0x70020
abbrev ERR_CNT_CONT : Nat := 0x70024
abbrev ERR_CNT_FATAL : Nat := 0x70028
abbrev ERR_SRAM_CE : Nat := 0x7002C
abbrev ERR_IEN : Nat := 0x70030
abbrev HI_LINK : Nat := 0xC0000
abbrev HI_STAT : Nat := 0xC0004
abbrev RC_COAL_US (i : Nat) : Nat := 0xC0020 + i * 4
abbrev RC_CPL_CNT (i : Nat) : Nat := 0xC0040 + i * 4
abbrev RC_UP_TLP (i : Nat) : Nat := 0xC0060 + i * 4
abbrev RC_MARK (i : Nat) : Nat := 0xC1000 + i * 4
abbrev DR_GCFG : Nat := 0x208000
abbrev DR_GCTRL : Nat := 0x208004
abbrev DR_GSTAT : Nat := 0x208008
abbrev DR_TRAIN_US : Nat := 0x20800C
abbrev DR_CH_CFG (i : Nat) : Nat := 0x200000 + i * 0x1000
abbrev DR_REF (i : Nat) : Nat := 0x200004 + i * 0x1000
abbrev DR_PAGE (i : Nat) : Nat := 0x200008 + i * 0x1000
abbrev DR_QOS (k p : Nat) : Nat := 0x200010 + k * 0x1000 + p * 4
abbrev DR_CH_INFO (i : Nat) : Nat := 0x20002C + i * 0x1000
abbrev DR_STAT (i : Nat) : Nat := 0x200030 + i * 0x1000
abbrev DR_TEMP (i : Nat) : Nat := 0x200034 + i * 0x1000
abbrev DR_ECC_CNT (i : Nat) : Nat := 0x200038 + i * 0x1000
abbrev DR_LINK_CNT (i : Nat) : Nat := 0x20003C + i * 0x1000
abbrev DR_UE_ADDR (i : Nat) : Nat := 0x200040 + i * 0x1000
abbrev DR_QOS_MISS (k p : Nat) : Nat := 0x200050 + k * 0x1000 + p * 4
abbrev DR_REF_CNT (i : Nat) : Nat := 0x200070 + i * 0x1000
abbrev DR_REF_STALL (i : Nat) : Nat := 0x200074 + i * 0x1000
abbrev FL_GCFG : Nat := 0x300000
abbrev FL_GCTRL : Nat := 0x300004
abbrev FL_GSTAT : Nat := 0x300008
abbrev FL_GEOM : Nat := 0x30000C
abbrev FL_CMD_OP : Nat := 0x300020
abbrev FL_CMD_ADDR : Nat := 0x300024
abbrev FL_CMD_BUF_LO : Nat := 0x300028
abbrev FL_CMD_BUF_HI : Nat := 0x30002C
abbrev FL_CMD_STAT : Nat := 0x300030
abbrev FL_SLC_PREFIX : Nat := 0x300040
abbrev FL_RETRY_CNT : Nat := 0x300048
abbrev FL_BBT_GEN : Nat := 0x300050
abbrev FL_RETRY_NAT (i : Nat) : Nat := 0x301000 + i * 4
abbrev FL_RETRY_SLC (i : Nat) : Nat := 0x301080 + i * 4
abbrev FL_CH_WREG (i : Nat) : Nat := 0x302000 + i * 0x40
abbrev FL_CH_SREG (i : Nat) : Nat := 0x302004 + i * 0x40
abbrev FL_CH_STAT (i : Nat) : Nat := 0x302008 + i * 0x40
abbrev FL_CH_RETRY_CNT (i : Nat) : Nat := 0x30200C + i * 0x40
abbrev FL_CH_UE_CNT (i : Nat) : Nat := 0x302010 + i * 0x40
abbrev FL_CH_UE_ADDR (i : Nat) : Nat := 0x302014 + i * 0x40
abbrev FL_CH_BITS_MAX (i : Nat) : Nat := 0x302018 + i * 0x40
abbrev FL_BBT (i : Nat) : Nat := 0x310000 + i * 4
abbrev CD_STAT : Nat := 0x380000
abbrev CD_FAIL_INFO : Nat := 0x380004
abbrev CD_REREAD_CNT : Nat := 0x380008
abbrev CD_CHECK_CNT : Nat := 0x38000C
abbrev CD_TBL_COMMIT : Nat := 0x380010
abbrev CD_TBL_STAT : Nat := 0x380014
abbrev CD_DEC_BLOCKS (i : Nat) : Nat := 0x380100 + i * 4
abbrev CD_ENC_BLOCKS (i : Nat) : Nat := 0x380120 + i * 4
abbrev CD_TBL_MISS (i : Nat) : Nat := 0x380140 + i * 4
abbrev CD_TBL_BASE_LO (i : Nat) : Nat := 0x380200 + i * 8
abbrev CD_TBL_BASE_HI (i : Nat) : Nat := 0x380204 + i * 8
abbrev CD_TBL_COUNT (i : Nat) : Nat := 0x380240 + i * 4
abbrev CD_ENC_CFG (i : Nat) : Nat := 0x380260 + i * 4
abbrev CD_ENC_CAND (i : Nat) : Nat := 0x380280 + i * 4
abbrev MT_STAT : Nat := 0x384000
abbrev MT_CCH : Nat := 0x384004
abbrev MT_GLADE_SPLIT : Nat := 0x384008
abbrev MT_FAIL_INFO : Nat := 0x384010
abbrev MT_OBJ_BASE_LO (i : Nat) : Nat := 0x384040 + i * 8
abbrev MT_OBJ_BASE_HI (i : Nat) : Nat := 0x384044 + i * 8
abbrev MT_OBJ_COUNT (i : Nat) : Nat := 0x384080 + i * 4
abbrev MT_SPILL_BASE_LO : Nat := 0x3840C0
abbrev MT_SPILL_BASE_HI : Nat := 0x3840C4
abbrev MT_SPILL_COUNT : Nat := 0x3840C8
abbrev MT_PEND (i : Nat) : Nat := 0x384100 + i * 4
abbrev MT_LATE_CNT (i : Nat) : Nat := 0x384120 + i * 4
abbrev MT_LATE_CYC (i : Nat) : Nat := 0x384140 + i * 4
abbrev CN_CTRL : Nat := 0x400000
abbrev CN_STAT : Nat := 0x400004
abbrev CN_ECC_CNT : Nat := 0x400008
abbrev CN_FB_CNT : Nat := 0x40000C
abbrev CN_CAP_TAG0 : Nat := 0x400010
abbrev CN_CAP_TAG1 : Nat := 0x400014
abbrev CN_CAP_TAG2 : Nat := 0x400018
abbrev CN_CAP_NODE : Nat := 0x40001C
abbrev CN_STAND : Nat := 0x400020
abbrev CN_PERF_SEL : Nat := 0x400030
abbrev CN_PERF_CNT : Nat := 0x400034
abbrev CN_TRAIL_CNT (i : Nat) : Nat := 0x400040 + i * 4
abbrev HT_CHIP : Nat := 0x480000
abbrev HT_TOPO : Nat := 0x480004
abbrev HT_ROLES : Nat := 0x480008
abbrev HT_PORT_CFG (i : Nat) : Nat := 0x480010 + i * 4
abbrev HT_PORT_STAT (i : Nat) : Nat := 0x480020 + i * 4
abbrev HT_ROUTE (i : Nat) : Nat := 0x480040 + i * 4
abbrev HT_ROUTE_COMMIT : Nat := 0x480080
abbrev HT_WIN (i : Nat) : Nat := 0x480090 + i * 4
abbrev HT_E2E_TO : Nat := 0x4800B0
abbrev HT_CHAN_CMD : Nat := 0x4800C0
abbrev HT_FENCED : Nat := 0x4800C8
abbrev HT_LOST : Nat := 0x4800D0
abbrev HT_TICK : Nat := 0x4800E0
abbrev HT_TICK_LEAD : Nat := 0x4800E4
abbrev HT_TICK_WAIT : Nat := 0x4800E8
abbrev HT_STAT : Nat := 0x480100
abbrev HT_P_REPLAY (i : Nat) : Nat := 0x480110 + i * 4
abbrev HT_DROP_CNT : Nat := 0x480120
abbrev HT_STALE_CNT : Nat := 0x480124
abbrev TL_CTRL (t : Nat) : Nat := 0x103E000 + t * 0x40000
abbrev TL_SP_PAGE (t : Nat) : Nat := 0x103E004 + t * 0x40000
abbrev TL_NUM_STAT (t : Nat) : Nat := 0x103E008 + t * 0x40000
abbrev TL_CONFLICT_INFO (t : Nat) : Nat := 0x103E010 + t * 0x40000
abbrev TL_CONFLICT_CYCLE (t : Nat) : Nat := 0x103E014 + t * 0x40000
abbrev TL_CONFLICT_CNT (t : Nat) : Nat := 0x103E018 + t * 0x40000
abbrev TL_NM_COMMIT (t : Nat) : Nat := 0x103E020 + t * 0x40000
abbrev TL_NM_STAT (t : Nat) : Nat := 0x103E024 + t * 0x40000
abbrev TL_NM_CRC (t : Nat) : Nat := 0x103E028 + t * 0x40000
abbrev SQ_CTRL (t : Nat) : Nat := 0x103F000 + t * 0x40000
abbrev SQ_STAT (t : Nat) : Nat := 0x103F004 + t * 0x40000
abbrev SQ_PC (t : Nat) : Nat := 0x103F008 + t * 0x40000
abbrev SQ_FAULT (t : Nat) : Nat := 0x103F00C + t * 0x40000
abbrev SQ_INSTANCES (t : Nat) : Nat := 0x103F010 + t * 0x40000
abbrev SQ_CYCLES_LAST (t : Nat) : Nat := 0x103F014 + t * 0x40000

end Sys2Proof.Machine.Reg
end

