-- ==== Sys2Proof/Machine/Bits.lean ====
section
/-! DEFINITION. Bit fields, byte order, checks and text: a field [msb:lsb] of a word, little-endian bytes (R3),
CRC-32C (R520), CRC-16/CCITT (R456), decimal and hexadecimal text (R455). -/

namespace Sys2Proof.Machine

/-- The field of `len` bits from bit `lo`, as a number. -/
def fldN (n lo len : Nat) : Nat := n / 2 ^ lo % 2 ^ len

/-- The field of `len` bits from bit `lo` of a word. -/
def fld {w : Nat} (v : BitVec w) (lo len : Nat) : Nat := fldN v.toNat lo len

/-- Bit `i` of a word. -/
def bit {w : Nat} (v : BitVec w) (i : Nat) : Bool := v.getLsbD i

/-- A word with the field of `len` bits from bit `lo` replaced by `x` (taken modulo the field). -/
def setFld (v : Word) (lo len x : Nat) : Word :=
  BitVec.ofNat 32 (v.toNat - fldN v.toNat lo len * 2 ^ lo + (x % 2 ^ len) * 2 ^ lo)

/-- A number as a 32-bit word. -/
def w32 (n : Nat) : Word := BitVec.ofNat 32 n

/-- A Bool as a number. -/
def b2n (b : Bool) : Nat := if b then 1 else 0

/-- A saturating 32-bit count. -/
def satAdd (v : Word) (n : Nat) : Word := w32 (min (v.toNat + n) 0xFFFFFFFF)

/-- A byte of a number. -/
def byteOf (n i : Nat) : Byte := BitVec.ofNat 8 (n / 256 ^ i)

/-- The `n` little-endian bytes of a number (R3). -/
def leBytes : Nat → Nat → List Byte
  | 0, _ => []
  | n + 1, x => BitVec.ofNat 8 x :: leBytes n (x / 256)

/-- The number that little-endian bytes spell (R3). -/
def leNat : List Byte → Nat
  | [] => 0
  | b :: bs => b.toNat + 256 * leNat bs

/-- One bit step of the reflected CRC-32C (R520: 0x82F6_3B78). -/
def crc32cBit (c : Nat) : Nat := if c % 2 = 1 then (c / 2) ^^^ 0x82F63B78 else c / 2

/-- One byte of the CRC-32C. -/
def crc32cByte (c : Nat) (b : Byte) : Nat :=
  let x := c ^^^ b.toNat
  crc32cBit (crc32cBit (crc32cBit (crc32cBit (crc32cBit (crc32cBit (crc32cBit (crc32cBit x)))))))

/-- CRC-32C over bytes in ascending order (R520: initial value and final XOR 0xFFFF_FFFF). -/
def crc32c (bs : List Byte) : Nat := (bs.foldl crc32cByte 0xFFFFFFFF) ^^^ 0xFFFFFFFF

/-- One bit step of the reflected CRC-32 of IEEE 802.3 (R307: 0x04C1_1DB7). -/
def crc32Bit (c : Nat) : Nat := if c % 2 = 1 then (c / 2) ^^^ 0xEDB88320 else c / 2

/-- One byte of the CRC-32. -/
def crc32Byte (c : Nat) (b : Byte) : Nat :=
  let x := c ^^^ b.toNat
  crc32Bit (crc32Bit (crc32Bit (crc32Bit (crc32Bit (crc32Bit (crc32Bit (crc32Bit x)))))))

/-- CRC-32 over bytes in ascending order, with the initial value and final XOR of IEEE 802.3 (PRESUMED, notes/assumptions/111). -/
def crc32 (bs : List Byte) : Nat := (bs.foldl crc32Byte 0xFFFFFFFF) ^^^ 0xFFFFFFFF

/-- One bit step of the CRC-16/CCITT (R456: 0x1021, not reflected). -/
def crc16Bit (c : Nat) : Nat := if c / 0x8000 % 2 = 1 then (c * 2 % 0x10000) ^^^ 0x1021 else c * 2 % 0x10000

/-- One byte of the CRC-16/CCITT. -/
def crc16Byte (c : Nat) (b : Byte) : Nat :=
  let x := c ^^^ (b.toNat * 256)
  crc16Bit (crc16Bit (crc16Bit (crc16Bit (crc16Bit (crc16Bit (crc16Bit (crc16Bit x)))))))

/-- CRC-16/CCITT (R456: initial value 0xFFFF, no reflection, no final XOR). -/
def crc16 (bs : List Byte) : Nat := bs.foldl crc16Byte 0xFFFF

/-- The number of set bits among the low `n`. -/
def popcountN : Nat → Nat → Nat
  | 0, _ => 0
  | n + 1, x => x % 2 + popcountN n (x / 2)

/-- The indices below `n`, in ascending order, whose bit is set. -/
def bitsOf (x n : Nat) : List Nat := (List.range n).filter (fun i => x.testBit i)

/-- Decimal digits, most significant first, without leading zeros. -/
def decDigitsAux : Nat → Nat → List Byte → List Byte
  | 0, _, acc => acc
  | f + 1, n, acc =>
    let acc' := BitVec.ofNat 8 (48 + n % 10) :: acc
    if n / 10 = 0 then acc' else decDigitsAux f (n / 10) acc'

/-- A number in decimal ASCII (R455: no leading zeros). -/
def dec (n : Nat) : List Byte := decDigitsAux 25 n []

/-- One upper-case hexadecimal digit. -/
def hexDigit (n : Nat) : Byte := BitVec.ofNat 8 (if n % 16 < 10 then 48 + n % 16 else 55 + n % 16)

/-- Four upper-case hexadecimal digits (R455). -/
def hex4 (n : Nat) : List Byte := [hexDigit (n / 4096), hexDigit (n / 256), hexDigit (n / 16), hexDigit n]

/-- ASCII bytes from their codes. -/
def ascii (cs : List Nat) : List Byte := cs.map (BitVec.ofNat 8)

/-- Replace element `i` of a list. -/
def setAt {α : Type} : List α → Nat → α → List α
  | [], _, _ => []
  | _ :: t, 0, v => v :: t
  | h :: t, i + 1, v => h :: setAt t i v

/-- Two's complement of a field: `n` of `len` bits as a signed number. -/
def sgn (n len : Nat) : Int := if n % 2 ^ len < 2 ^ (len - 1) then (n % 2 ^ len : Nat) else ((n % 2 ^ len : Nat) : Int) - (2 ^ len : Nat)

/-- Clamp a number between two bounds. -/
def clampN (lo hi n : Nat) : Nat := if n < lo then lo else if hi < n then hi else n

/-- Clamp an integer between two bounds. -/
def clampI (lo hi n : Int) : Int := if n < lo then lo else if hi < n then hi else n

/-- Division rounding up. -/
def ceilDiv (a b : Nat) : Nat := if b = 0 then 0 else (a + b - 1) / b

end Sys2Proof.Machine
end

