-- ==== Sys2Proof/Machine/RegMap.lean ====
section
/-! DEFINITION. The BAR0 register map (R9, Table 0-4), written out from the register tables of the chapters: where each
register lies, which of its bits have which access code (R4), its reset value, and which resets change it. -/

namespace Sys2Proof.Machine

/-- Which resets set a register to its reset value: every core reset; PORST_N alone; also a tile's own reset; PORST_N and
LINK_RST_N; the chapter's own rule (R264, R285, R487, Tables 20-8 and 20-9); or none, because the value is computed. -/
inductive Dom where
  | core | por | tile | link | dram | flash | err | boot | special
  deriving DecidableEq, Repr

/-- A register, or `count` like registers `stride` bytes apart: masks of the fields of access RW, W1C, RC and RO. -/
structure RegSpec where
  name   : String
  base   : Nat
  count  : Nat
  stride : Nat
  rw     : Nat
  w1c    : Nat
  rc     : Nat
  ro     : Nat
  reset  : Nat
  dom    : Dom
  deriving DecidableEq, Repr

/-- Global registers (Tables 0-5 to 0-8). -/
def regsGlobal : List RegSpec := [
  ⟨"GL_IDENT", 0, 1, 4, 0, 0, 0, 0xFFFFFFFF, 0x7260B001, .core⟩,
  ⟨"GL_CAP0", 4, 1, 4, 0, 0, 0, 0xFFFFFF, 0x890840, .core⟩,
  ⟨"GL_CAP1", 8, 1, 4, 0, 0, 0, 0xFFFFFFF, 0x8481000, .core⟩,
  ⟨"GL_SCRATCH", 0xC, 1, 4, 0xFFFFFFFF, 0, 0, 0, 0, .core⟩]

/-- Tick and composer (Tables 3-11 to 3-15, 14-6). -/
def regsTick : List RegSpec := [
  ⟨"TK_CTRL", 0x10000, 1, 4, 0x1F, 0, 0, 0, 4, .core⟩,
  ⟨"TK_PERIOD", 0x10004, 1, 4, 0x7FFFFF, 0, 0, 0, 0x5C2710, .core⟩,
  ⟨"TK_KICK", 0x10008, 1, 4, 0, 0, 0, 0, 0, .core⟩,
  ⟨"TK_STAT", 0x1000C, 1, 4, 0, 0, 0, 0x3F, 0, .core⟩,
  ⟨"TK_COUNT_LO", 0x10010, 1, 4, 0, 0, 0, 0xFFFFFFFF, 0, .special⟩,
  ⟨"TK_COUNT_HI", 0x10014, 1, 4, 0, 0, 0, 0xFFFFFFFF, 0, .special⟩,
  ⟨"TK_SLIP_TICKS", 0x10018, 1, 4, 0, 0, 0, 0xFFFFFFFF, 0, .core⟩,
  ⟨"TK_SLIP_US", 0x1001C, 1, 4, 0, 0, 0, 0xFFFFFFFF, 0, .core⟩,
  ⟨"TK_SLIP_MAX_US", 0x10020, 1, 4, 0, 0, 0, 0xFFFFFFFF, 0, .core⟩,
  ⟨"TK_ABORTS", 0x10024, 1, 4, 0, 0, 0, 0xFFFFFFFF, 0, .core⟩,
  ⟨"TK_DROPPED", 0x10028, 1, 4, 0, 0, 0, 0xFFFFFFFF, 0, .core⟩,
  ⟨"TK_TRUNC", 0x1002C, 1, 4, 0, 0, 0, 0xFFFFFFFF, 0, .core⟩,
  ⟨"TK_CNT_CLR", 0x10030, 1, 4, 0, 0, 0, 0, 0, .core⟩,
  ⟨"TK_FSTORE_BASE_LO", 0x10040, 1, 4, 0xFFFFF000, 0, 0, 0, 0, .core⟩,
  ⟨"TK_FSTORE_BASE_HI", 0x10044, 1, 4, 0xFFFFFFFF, 0, 0, 0, 0, .core⟩,
  ⟨"TK_FSTORE_CMD", 0x10048, 1, 4, 0, 0, 0, 0, 0, .core⟩,
  ⟨"TK_FSTORE_STAT", 0x1004C, 1, 4, 0, 0, 0, 0xFFFF0003, 0, .core⟩,
  ⟨"TK_RULE_COUNT", 0x10050, 1, 4, 0x1FF, 0, 0, 0, 0, .core⟩,
  ⟨"TK_RULE_COMMIT", 0x10054, 1, 4, 0, 0, 0, 0, 0, .core⟩,
  ⟨"TK_SHARE0", 0x10060, 1, 4, 0x1FF, 0, 0, 0, 0x100, .core⟩,
  ⟨"TK_SHARE1-7", 0x10064, 7, 4, 0x1FF, 0, 0, 0, 0, .core⟩,
  ⟨"TK_BUD_CYC", 0x10080, 1, 4, 0, 0, 0, 0xFFFFFFFF, 0, .core⟩,
  ⟨"TK_BUD_DRAM", 0x10084, 1, 4, 0, 0, 0, 0xFFFFFFFF, 0, .core⟩,
  ⟨"TK_BUD_FLASH", 0x10088, 1, 4, 0, 0, 0, 0xFFFFFFFF, 0, .core⟩,
  ⟨"TK_BUD_GLADE", 0x1008C, 1, 4, 0, 0, 0, 0xFFFFFFFF, 0, .core⟩,
  ⟨"TK_BUD_ENERGY", 0x10090, 1, 4, 0, 0, 0, 0xFFFFFFFF, 0, .core⟩,
  ⟨"TK_PACKED", 0x10094, 1, 4, 0, 0, 0, 0xFFFFFFFF, 0, .core⟩,
  ⟨"TK_BATCH_BASE_LO", 0x100A0, 8, 8, 0xFFFF0000, 0, 0, 0, 0, .core⟩,
  ⟨"TK_BATCH_BASE_HI", 0x100A4, 8, 8, 0xFFFFFFFF, 0, 0, 0, 0, .core⟩,
  ⟨"MP_BASE_LO", 0x10100, 8, 8, 0xFFFFFFC0, 0, 0, 0, 0, .core⟩,
  ⟨"MP_BASE_HI", 0x10104, 8, 8, 0xFFFFFFFF, 0, 0, 0, 0, .core⟩,
  ⟨"MP_COMMIT", 0x10140, 1, 4, 0, 0, 0, 0, 0, .core⟩,
  ⟨"MP_STAT", 0x10144, 1, 4, 0, 0xFF00, 0, 0xFF00FF, 0, .core⟩,
  ⟨"MP_ID", 0x10160, 8, 4, 0, 0, 0, 0xFFFF, 0, .core⟩,
  ⟨"MP_LCRC", 0x10180, 8, 4, 0, 0, 0, 0xFFFFFFFF, 0, .core⟩,
  ⟨"MP_CRC", 0x101A0, 8, 4, 0, 0, 0, 0xFFFFFFFF, 0, .core⟩,
  ⟨"rule memory", 0x12000, 2048, 4, 0xFFFFFFFF, 0, 0, 0, 0, .core⟩,
  ⟨"session attributes", 0x14000, 4096, 4, 0xFF3F, 0, 0, 0, 0, .core⟩]

/-- Power and cap, ramp (Tables 15-8 to 15-11, 8-13 to 8-15). -/
def regsPower : List RegSpec := [
  ⟨"PW_STAT", 0x20000, 1, 4, 0, 0, 0, 0x777, 0, .por⟩,
  ⟨"PW_REQ", 0x20004, 1, 4, 0, 0, 0, 0, 0, .por⟩,
  ⟨"PW_WAKE_EN", 0x20008, 1, 4, 0x7F, 0, 0, 0, 0x7F, .por⟩,
  ⟨"PW_WAKE_SRC", 0x2000C, 1, 4, 0, 0x301FF, 0, 0, 0, .por⟩,
  ⟨"PW_AUTO", 0x20010, 1, 4, 0x87FF, 0, 0, 0, 0x100, .por⟩,
  ⟨"PW_WAKE_TIMER", 0x20014, 1, 4, 0xFFFFFFFF, 0, 0, 0, 0, .por⟩,
  ⟨"PW_AON_TIME_LO", 0x20018, 1, 4, 0, 0, 0, 0xFFFFFFFF, 0, .special⟩,
  ⟨"PW_AON_TIME_HI", 0x2001C, 1, 4, 0, 0, 0, 0xFFFFFFFF, 0, .por⟩,
  ⟨"PW_KEEP_BASE_LO", 0x20020, 1, 4, 0xFFFFFFC0, 0, 0, 0, 0, .por⟩,
  ⟨"PW_KEEP_BASE_HI", 0x20024, 1, 4, 0xFFFFFFFF, 0, 0, 0, 0, .por⟩,
  ⟨"PW_KEEP_COUNT", 0x20028, 1, 4, 0x1FF, 0, 0, 0, 0, .por⟩,
  ⟨"PW_EXIT_US", 0x2002C, 1, 4, 0, 0, 0, 0xFFFFFFFF, 0, .por⟩,
  ⟨"CAP_LIMIT", 0x20040, 1, 4, 0xFFFF, 0, 0, 0, 0x3A98, .por⟩,
  ⟨"CAP_WINDOW", 0x20044, 1, 4, 0x3FF, 0, 0, 0, 0xA, .por⟩,
  ⟨"CAP_CTRL", 0x20048, 1, 4, 1, 0, 0, 0, 0, .por⟩,
  ⟨"CAP_STAT", 0x2004C, 1, 4, 0, 0, 0, 0xFFFFF, 0xF222, .por⟩,
  ⟨"CAP_BUDGET", 0x20050, 1, 4, 0, 0, 0, 0xFFFFFFFF, 0, .por⟩,
  ⟨"CAP_EFF_MW", 0x20054, 1, 4, 0, 0, 0, 0xFFFF, 0x3A98, .por⟩,
  ⟨"CAP_AVG_MW", 0x20058, 1, 4, 0, 0, 0, 0xFFFF, 0, .por⟩,
  ⟨"CAP_EXCEED", 0x2005C, 1, 4, 0, 0, 0xFFFFFFFF, 0, 0, .por⟩,
  ⟨"DROOP_CNT", 0x20060, 1, 4, 0, 0, 0xFFFFFFFF, 0, 0, .por⟩,
  ⟨"DROOP_CTRL", 0x20064, 1, 4, 0xFF, 0, 0, 0, 0x20, .por⟩,
  ⟨"RAIL_MW", 0x20080, 8, 4, 0, 0, 0, 0xFFFF, 0, .por⟩,
  ⟨"AVS_CFG", 0x200C0, 1, 4, 0x1FFF, 0, 0, 0, 0x1032, .por⟩,
  ⟨"AVS_STAT", 0x200C4, 1, 4, 0, 0x30000, 0, 0xFFFF, 0, .por⟩,
  ⟨"OP_ENTRY0", 0x20100, 1, 4, 0xFFFFFFFF, 0, 0, 0, 0x1B58AA30, .por⟩,
  ⟨"OP_ENTRY1", 0x20104, 1, 4, 0xFFFFFFFF, 0, 0, 0, 0x17D4A02C, .por⟩,
  ⟨"OP_ENTRY2", 0x20108, 1, 4, 0xFFFFFFFF, 0, 0, 0, 0x15189628, .por⟩,
  ⟨"OP_ENTRY3", 0x2010C, 1, 4, 0xFFFFFFFF, 0, 0, 0, 0x12C08E24, .por⟩,
  ⟨"OP_ENTRY4", 0x20110, 1, 4, 0xFFFFFFFF, 0, 0, 0, 0x10688720, .por⟩,
  ⟨"OP_ENTRY5", 0x20114, 1, 4, 0xFFFFFFFF, 0, 0, 0, 0xE74811C, .por⟩,
  ⟨"OP_ENTRY6", 0x20118, 1, 4, 0xFFFFFFFF, 0, 0, 0, 0xCE47C18, .por⟩,
  ⟨"OP_ENTRY7", 0x2011C, 1, 4, 0xFFFFFFFF, 0, 0, 0, 0xC1C7A16, .por⟩,
  ⟨"OP_ENTRY8", 0x20120, 1, 4, 0xFFFFFFFF, 0, 0, 0, 0xB547814, .por⟩,
  ⟨"OP_ENTRY9", 0x20124, 1, 4, 0xFFFFFFFF, 0, 0, 0, 0xABE7612, .por⟩,
  ⟨"OP_ENTRY10", 0x20128, 1, 4, 0xFFFFFFFF, 0, 0, 0, 0xA287410, .por⟩,
  ⟨"OP_ENTRY11", 0x2012C, 1, 4, 0xFFFFFFFF, 0, 0, 0, 0x9C4730E, .por⟩,
  ⟨"OP_ENTRY12", 0x20130, 1, 4, 0xFFFFFFFF, 0, 0, 0, 0x960720C, .por⟩,
  ⟨"OP_ENTRY13", 0x20134, 1, 4, 0xFFFFFFFF, 0, 0, 0, 0x92E710B, .por⟩,
  ⟨"OP_ENTRY14", 0x20138, 1, 4, 0xFFFFFFFF, 0, 0, 0, 0x8FC700A, .por⟩,
  ⟨"OP_ENTRY15", 0x2013C, 1, 4, 0xFFFFFFFF, 0, 0, 0, 0x8986E08, .por⟩,
  ⟨"OP_COMMIT", 0x20140, 1, 4, 0, 0, 0, 0, 0, .por⟩,
  ⟨"OP_STAT", 0x20144, 1, 4, 0, 0, 0, 3, 0, .por⟩,
  ⟨"PHASE_CFG", 0x20200, 64, 8, 0xFFF, 0, 0, 0, 0x1F2, .por⟩,
  ⟨"PHASE_COEF", 0x20204, 64, 8, 0xFFFFFFFF, 0, 0, 0, 0x4000A00, .por⟩]

/-- Power and cap, ramp (Tables 15-8 to 15-11, 8-13 to 8-15), continued. -/
def regsPower2 : List RegSpec := [
  ⟨"CAP_RAMP_STEP0", 0x20400, 1, 4, 0x3FF, 0, 0, 0, 0x10, .por⟩,
  ⟨"CAP_RAMP_STEP1", 0x20404, 1, 4, 0x3FF, 0, 0, 0, 0x20, .por⟩,
  ⟨"CAP_RAMP_STEP2", 0x20408, 1, 4, 0x3FF, 0, 0, 0, 0x30, .por⟩,
  ⟨"CAP_RAMP_STEP3", 0x2040C, 1, 4, 0x3FF, 0, 0, 0, 0x40, .por⟩,
  ⟨"CAP_RAMP_STEP4", 0x20410, 1, 4, 0x3FF, 0, 0, 0, 0x50, .por⟩,
  ⟨"CAP_RAMP_STEP5", 0x20414, 1, 4, 0x3FF, 0, 0, 0, 0x60, .por⟩,
  ⟨"CAP_RAMP_STEP6", 0x20418, 1, 4, 0x3FF, 0, 0, 0, 0x70, .por⟩,
  ⟨"CAP_RAMP_STEP7", 0x2041C, 1, 4, 0x3FF, 0, 0, 0, 0x80, .por⟩,
  ⟨"CAP_RAMP_MAP", 0x20420, 1, 4, 0xFFFFFF, 0, 0, 0, 0x78CEA8, .por⟩,
  ⟨"CAP_RAMP_CHIP", 0x20424, 1, 4, 0xFF, 0, 0, 0, 8, .por⟩]

/-- Thermal and calibration (Tables 16-4 to 16-11). -/
def regsThermal : List RegSpec := [
  ⟨"TH_STAT", 0x30000, 1, 4, 0, 0xE00, 0, 0x113F, 0, .por⟩,
  ⟨"TH_CHIP", 0x30004, 1, 4, 0, 0, 0, 0xF0FFF, 0, .por⟩,
  ⟨"TH_DWELL", 0x30008, 1, 4, 0, 0, 0, 0xFFFF, 0, .por⟩,
  ⟨"TH_SENSOR_EN", 0x3000C, 1, 4, 0xFFFF, 0, 0, 0, 0xFFFF, .por⟩,
  ⟨"TH_FORCE", 0x30010, 1, 4, 0xF, 0, 0, 0, 0, .por⟩,
  ⟨"TH_COMMIT", 0x30014, 1, 4, 0, 0, 0, 0, 0, .por⟩,
  ⟨"TH_TRIP_LAST", 0x30018, 1, 4, 0, 0x80000000, 0, 0xF, 0, .special⟩,
  ⟨"TH_DROOP", 0x3001C, 1, 4, 0xFF, 0, 0, 0, 0x23, .por⟩,
  ⟨"TH_LVL_CNT", 0x30020, 5, 4, 0, 0, 0xFFFFFFFF, 0, 0, .por⟩,
  ⟨"TH_TEMP", 0x30040, 16, 4, 0, 0, 0, 0xFFFF1FFF, 0, .por⟩,
  ⟨"TH_LVL_A0", 0x30100, 1, 4, 0xFFF0FFF, 0, 0, 0, 0, .por⟩,
  ⟨"TH_LVL_B0", 0x30104, 1, 4, 0xF1FFFFFF, 0, 0, 0, 0x1000001, .por⟩,
  ⟨"TH_LVL_A1", 0x30108, 1, 4, 0xFFF0FFF, 0, 0, 0, 0x1340140, .por⟩,
  ⟨"TH_LVL_B1", 0x3010C, 1, 4, 0xF1FFFFFF, 0, 0, 0, 0x1000064, .por⟩,
  ⟨"TH_LVL_A2", 0x30110, 1, 4, 0xFFF0FFF, 0, 0, 0, 0x15C0168, .por⟩,
  ⟨"TH_LVL_B2", 0x30114, 1, 4, 0xF1FFFFFF, 0, 0, 0, 0x20CD0064, .por⟩,
  ⟨"TH_LVL_A3", 0x30118, 1, 4, 0xFFF0FFF, 0, 0, 0, 0x17C0188, .por⟩,
  ⟨"TH_LVL_B3", 0x3011C, 1, 4, 0xF1FFFFFF, 0, 0, 0, 0x50800032, .por⟩,
  ⟨"TH_LVL_A4", 0x30120, 1, 4, 0xFFF0FFF, 0, 0, 0, 0x19801A4, .por⟩,
  ⟨"TH_LVL_B4", 0x30124, 1, 4, 0xF1FFFFFF, 0, 0, 0, 0xF0400032, .por⟩,
  ⟨"FAN_CFG", 0x30200, 1, 4, 0xFFFF1FFF, 0, 0, 0, 0xC803E7, .por⟩,
  ⟨"FAN_STAT", 0x30204, 1, 4, 0, 0, 0, 0xFFFF007F, 0, .por⟩,
  ⟨"FAN_MIN_RPM", 0x3020C, 1, 4, 0xFFFF, 0, 0, 0, 0, .por⟩,
  ⟨"FAN_PT0", 0x30210, 1, 4, 0x7F0FFF, 0, 0, 0, 0x1E0064, .por⟩,
  ⟨"FAN_PT1", 0x30214, 1, 4, 0x7F0FFF, 0, 0, 0, 0x1E00A0, .por⟩,
  ⟨"FAN_PT2", 0x30218, 1, 4, 0x7F0FFF, 0, 0, 0, 0x2800DC, .por⟩,
  ⟨"FAN_PT3", 0x3021C, 1, 4, 0x7F0FFF, 0, 0, 0, 0x370104, .por⟩,
  ⟨"FAN_PT4", 0x30220, 1, 4, 0x7F0FFF, 0, 0, 0, 0x46012C, .por⟩,
  ⟨"FAN_PT5", 0x30224, 1, 4, 0x7F0FFF, 0, 0, 0, 0x550154, .por⟩,
  ⟨"FAN_PT6", 0x30228, 1, 4, 0x7F0FFF, 0, 0, 0, 0x64017C, .por⟩,
  ⟨"FAN_PT7", 0x3022C, 1, 4, 0x7F0FFF, 0, 0, 0, 0x6401A4, .por⟩,
  ⟨"CAL_STAT", 0x30300, 1, 4, 0, 0, 0, 3, 2, .por⟩,
  ⟨"CAL_PREF", 0x30304, 1, 4, 0, 0, 0, 0xFFFF, 0, .por⟩,
  ⟨"CAL_SENS_A", 0x30340, 16, 8, 0, 0, 0, 0xFFFFFFFF, 0x60005000, .por⟩,
  ⟨"CAL_SENS_B", 0x30344, 16, 8, 0, 0, 0, 0xFFFFFFFF, 0x79177266, .por⟩,
  ⟨"CAL_DROOP", 0x30400, 64, 4, 0, 0, 0, 0x3FFFFFFF, 0, .por⟩,
  ⟨"CAL_MTR_A", 0x30500, 8, 8, 0, 0, 0, 0xFFFFFFFF, 0x10001000, .por⟩,
  ⟨"CAL_MTR_B", 0x30504, 8, 8, 0, 0, 0, 0xFFFF, 0x1000, .por⟩,
  ⟨"CAL_AON", 0x30580, 1, 4, 0, 0, 0, 0x3FFFFFFF, 0, .por⟩]

/-- Security and keys (Table 17-9). -/
def regsSecurity : List RegSpec := [
  ⟨"SEC_STAND_REQ", 0x40000, 1, 4, 0xFFFFFF, 0, 0, 0, 0, .core⟩,
  ⟨"SEC_STAND_CMD", 0x40004, 1, 4, 0, 0, 0, 0, 0, .core⟩,
  ⟨"SEC_STAND_STAT", 0x40008, 1, 4, 0, 2, 0, 1, 0, .core⟩,
  ⟨"SEC_CLEAR", 0x40010, 1, 4, 0, 0, 0, 0, 0, .core⟩,
  ⟨"SEC_CLEAR_STAT", 0x40014, 1, 4, 0, 0xFF0000, 0, 0xFFFF, 0, .special⟩,
  ⟨"SEC_CLEAR_CYC", 0x40018, 1, 4, 0, 0, 0, 0xFFFFFFFF, 0, .core⟩,
  ⟨"SEC_KEY_CMD", 0x40020, 1, 4, 0, 0, 0, 0, 0, .core⟩,
  ⟨"SEC_KEY_STAT", 0x40024, 1, 4, 0, 0x20000, 0, 0x1FFFF, 0, .core⟩,
  ⟨"SEC_KEY_ERR", 0x40028, 1, 4, 0, 0, 0, 0xFFFF, 0, .core⟩,
  ⟨"SEC_KEY_WRAP", 0x40040, 18, 4, 0xFFFFFFFF, 0, 0, 0, 0, .core⟩,
  ⟨"SEC_FUSE_STAT", 0x40100, 1, 4, 0, 0, 0, 0xF, 0, .special⟩,
  ⟨"SEC_ROLLBACK", 0x40104, 1, 4, 0, 0, 0, 0x7F, 0, .special⟩,
  ⟨"SEC_BOOT_STAT", 0x40108, 1, 4, 0, 0, 0, 0xFF, 0, .core⟩,
  ⟨"SEC_FUSE_CMD", 0x40120, 1, 4, 0, 0, 0, 0, 0, .core⟩,
  ⟨"SEC_ROOT_W", 0x40140, 12, 4, 0xFFFFFFFF, 0, 0, 0, 0, .core⟩,
  ⟨"SEC_ROOT_HASH", 0x40180, 12, 4, 0, 0, 0, 0xFFFFFFFF, 0, .special⟩]

/-- Reset and boot (Tables 20-8, 20-9). -/
def regsBoot : List RegSpec := [
  ⟨"RB_STAT", 0x60000, 1, 4, 0, 0, 0, 0xE70F, 1, .boot⟩,
  ⟨"RB_RESET", 0x60004, 1, 4, 0, 0, 0, 0, 0, .core⟩,
  ⟨"RB_TILE_RST_LO", 0x60008, 1, 4, 0, 0, 0, 0, 0, .core⟩,
  ⟨"RB_TILE_RST_HI", 0x6000C, 1, 4, 0, 0, 0, 0, 0, .core⟩,
  ⟨"RB_BOOT_TO", 0x60010, 1, 4, 0xFFFF, 0, 0, 0, 0x320, .boot⟩,
  ⟨"RB_ERR", 0x60014, 1, 4, 0, 0, 0, 0xFFFFFFFF, 0, .boot⟩,
  ⟨"RB_BOOT_MS", 0x60018, 1, 4, 0, 0, 0, 0xFFFF, 0, .boot⟩,
  ⟨"RB_AUTO", 0x60100, 64, 4, 0x8FFF, 0, 0, 0, 0, .core⟩]

/-- Errors and telemetry (Table 21-7). -/
def regsError : List RegSpec := [
  ⟨"ERR_STAT", 0x70000, 1, 4, 0, 0xE, 0, 1, 0, .err⟩,
  ⟨"ERR_FATAL", 0x70004, 1, 4, 0, 0, 0, 0x80FFFFFF, 0, .err⟩,
  ⟨"ERR_LOG_WR", 0x70008, 1, 4, 0, 0, 0, 0xFFFFFFFF, 0, .por⟩,
  ⟨"ERR_LOG_RD", 0x7000C, 1, 4, 0xFFFFFFFF, 0, 0, 0, 0, .por⟩,
  ⟨"ERR_LOST", 0x70010, 1, 4, 0, 0, 0xFFFFFFFF, 0, 0, .por⟩,
  ⟨"ERR_TOTAL", 0x70014, 1, 4, 0, 0, 0, 0xFFFFFFFF, 0, .por⟩,
  ⟨"ERR_LAST", 0x70018, 1, 4, 0, 0, 0, 0xFFFF, 0, .por⟩,
  ⟨"ERR_CNT_CE", 0x70020, 1, 4, 0, 0, 0xFFFFFFFF, 0, 0, .por⟩,
  ⟨"ERR_CNT_CONT", 0x70024, 1, 4, 0, 0, 0xFFFFFFFF, 0, 0, .por⟩,
  ⟨"ERR_CNT_FATAL", 0x70028, 1, 4, 0, 0, 0xFFFFFFFF, 0, 0, .por⟩,
  ⟨"ERR_SRAM_CE", 0x7002C, 1, 4, 0, 0, 0xFFFFFFFF, 0, 0, .por⟩,
  ⟨"ERR_IEN", 0x70030, 1, 4, 0x7FF0007, 0, 0, 0, 0, .core⟩]

/-- Global ring and host registers (Table 18-10). -/
def regsRing : List RegSpec := [
  ⟨"HI_LINK", 0xC0000, 1, 4, 0, 0, 0, 0xF0177, 0, .core⟩,
  ⟨"HI_STAT", 0xC0004, 1, 4, 0, 0x7F, 0, 0, 0, .core⟩,
  ⟨"RC_COAL_US", 0xC0020, 8, 4, 0x3FF, 0, 0, 0, 0, .core⟩,
  ⟨"RC_CPL_CNT", 0xC0040, 8, 4, 0, 0, 0xFFFFFFFF, 0, 0, .core⟩,
  ⟨"RC_UP_TLP", 0xC0060, 8, 4, 0, 0, 0xFFFFFFFF, 0, 0, .core⟩,
  ⟨"RC_MARK", 0xC1000, 128, 4, 0, 0xFFFFFFFF, 0, 0, 0, .core⟩]

/-- DRAM controllers (Tables 10-9 to 10-16). -/
def regsDram : List RegSpec := [
  ⟨"DR_GCFG", 0x208000, 1, 4, 0x307, 0, 0, 0, 0x106, .dram⟩,
  ⟨"DR_GCTRL", 0x208004, 1, 4, 0, 0, 0, 0, 0, .core⟩,
  ⟨"DR_GSTAT", 0x208008, 1, 4, 0, 0, 0, 0xFF07, 0, .dram⟩,
  ⟨"DR_TRAIN_US", 0x20800C, 1, 4, 0, 0, 0, 0xFFFFFFFF, 0, .dram⟩,
  ⟨"DR_CH_CFG", 0x200000, 8, 0x1000, 0x13, 0, 0, 0, 2, .dram⟩,
  ⟨"DR_REF", 0x200004, 8, 0x1000, 0x3F0FFFFF, 0, 0, 0, 0x8000185, .dram⟩,
  ⟨"DR_PAGE", 0x200008, 8, 0x1000, 0x3FF003F, 0, 0, 0, 0x400000, .dram⟩,
  ⟨"DR_QOS0", 0x200010, 8, 0x1000, 0xFFFF, 0, 0, 0, 0x7D0, .dram⟩,
  ⟨"DR_QOS1", 0x200014, 8, 0x1000, 0xFFFF, 0, 0, 0, 0xFA0, .dram⟩,
  ⟨"DR_QOS2", 0x200018, 8, 0x1000, 0xFFFF, 0, 0, 0, 0x3E8, .dram⟩,
  ⟨"DR_QOS3", 0x20001C, 8, 0x1000, 0xFFFF, 0, 0, 0, 0x1F4, .dram⟩,
  ⟨"DR_QOS4", 0x200020, 8, 0x1000, 0xFFFF, 0, 0, 0, 0x7D0, .dram⟩,
  ⟨"DR_QOS5", 0x200024, 8, 0x1000, 0xFFFF, 0, 0, 0, 0x2710, .dram⟩,
  ⟨"DR_CH_INFO", 0x20002C, 8, 0x1000, 0, 0, 0, 0xFFFF, 0, .dram⟩,
  ⟨"DR_STAT", 0x200030, 8, 0x1000, 0, 0x7F, 0, 0, 0, .dram⟩,
  ⟨"DR_TEMP", 0x200034, 8, 0x1000, 0, 0, 0, 0x3F, 8, .dram⟩,
  ⟨"DR_ECC_CNT", 0x200038, 8, 0x1000, 0, 0, 0xFFFFFFFF, 0, 0, .dram⟩,
  ⟨"DR_LINK_CNT", 0x20003C, 8, 0x1000, 0, 0, 0xFFFFFFFF, 0, 0, .dram⟩,
  ⟨"DR_UE_ADDR", 0x200040, 8, 0x1000, 0, 0, 0, 0xFFFFFFFF, 0, .dram⟩,
  ⟨"DR_QOS_MISS0", 0x200050, 8, 0x1000, 0, 0, 0xFFFFFFFF, 0, 0, .dram⟩,
  ⟨"DR_QOS_MISS1", 0x200054, 8, 0x1000, 0, 0, 0xFFFFFFFF, 0, 0, .dram⟩,
  ⟨"DR_QOS_MISS2", 0x200058, 8, 0x1000, 0, 0, 0xFFFFFFFF, 0, 0, .dram⟩,
  ⟨"DR_QOS_MISS3", 0x20005C, 8, 0x1000, 0, 0, 0xFFFFFFFF, 0, 0, .dram⟩,
  ⟨"DR_QOS_MISS4", 0x200060, 8, 0x1000, 0, 0, 0xFFFFFFFF, 0, 0, .dram⟩,
  ⟨"DR_QOS_MISS5", 0x200064, 8, 0x1000, 0, 0, 0xFFFFFFFF, 0, 0, .dram⟩,
  ⟨"DR_REF_CNT", 0x200070, 8, 0x1000, 0, 0, 0xFFFFFFFF, 0, 0, .dram⟩,
  ⟨"DR_REF_STALL", 0x200074, 8, 0x1000, 0, 0, 0xFFFFFFFF, 0, 0, .dram⟩]

/-- Flash (Tables 11-6, 11-7). -/
def regsFlash : List RegSpec := [
  ⟨"FL_GCFG", 0x300000, 1, 4, 7, 0, 0, 0, 4, .flash⟩,
  ⟨"FL_GCTRL", 0x300004, 1, 4, 0, 0, 0, 0, 0, .core⟩,
  ⟨"FL_GSTAT", 0x300008, 1, 4, 0, 0, 0, 0xFFFF001F, 0, .flash⟩,
  ⟨"FL_GEOM", 0x30000C, 1, 4, 0, 0, 0, 0xFFFFFFFF, 0, .flash⟩,
  ⟨"FL_CMD_OP", 0x300020, 1, 4, 0, 0, 0, 0, 0, .core⟩,
  ⟨"FL_CMD_ADDR", 0x300024, 1, 4, 0xFFFFFFFF, 0, 0, 0, 0, .flash⟩,
  ⟨"FL_CMD_BUF_LO", 0x300028, 1, 4, 0xFFFFFFC0, 0, 0, 0, 0, .flash⟩,
  ⟨"FL_CMD_BUF_HI", 0x30002C, 1, 4, 0xFFFFFFFF, 0, 0, 0, 0, .flash⟩,
  ⟨"FL_CMD_STAT", 0x300030, 1, 4, 0, 0, 0, 0xFFFF0007, 0, .flash⟩,
  ⟨"FL_SLC_PREFIX", 0x300040, 1, 4, 0x1FF, 0, 0, 0, 0, .flash⟩,
  ⟨"FL_RETRY_CNT", 0x300048, 1, 4, 0xF0F, 0, 0, 0, 0, .flash⟩,
  ⟨"FL_BBT_GEN", 0x300050, 1, 4, 0, 0, 0, 0xFFFFFFFF, 0, .flash⟩,
  ⟨"FL_RETRY_NAT", 0x301000, 32, 4, 0xFFFFFFFF, 0, 0, 0, 0, .flash⟩,
  ⟨"FL_RETRY_SLC", 0x301080, 32, 4, 0xFFFFFFFF, 0, 0, 0, 0, .flash⟩,
  ⟨"FL_CH_WREG", 0x302000, 16, 0x40, 0xFFFFFFFF, 0, 0, 0, 0, .flash⟩,
  ⟨"FL_CH_SREG", 0x302004, 16, 0x40, 0xFFFFFFFF, 0, 0, 0, 0, .flash⟩,
  ⟨"FL_CH_STAT", 0x302008, 16, 0x40, 0, 0xF, 0, 0, 0, .flash⟩,
  ⟨"FL_CH_RETRY_CNT", 0x30200C, 16, 0x40, 0, 0, 0xFFFFFFFF, 0, 0, .flash⟩,
  ⟨"FL_CH_UE_CNT", 0x302010, 16, 0x40, 0, 0, 0xFFFFFFFF, 0, 0, .flash⟩,
  ⟨"FL_CH_UE_ADDR", 0x302014, 16, 0x40, 0, 0, 0, 0xFFFFFFFF, 0, .flash⟩,
  ⟨"FL_CH_BITS_MAX", 0x302018, 16, 0x40, 0, 0, 0x3FF, 0, 0, .flash⟩,
  ⟨"FL_BBT", 0x310000, 16384, 4, 0, 0, 0, 0xFFFFFFFF, 0, .flash⟩]

/-- Glade and codec (Tables 12-7 to 12-9, 9-9 to 9-11). -/
def regsCodec : List RegSpec := [
  ⟨"CD_STAT", 0x380000, 1, 4, 0, 0x1F, 0, 0, 0, .core⟩,
  ⟨"CD_FAIL_INFO", 0x380004, 1, 4, 0, 0, 0, 0xFFFFFF00, 0, .core⟩,
  ⟨"CD_REREAD_CNT", 0x380008, 1, 4, 0, 0, 0xFFFFFFFF, 0, 0, .core⟩,
  ⟨"CD_CHECK_CNT", 0x38000C, 1, 4, 0, 0, 0xFFFFFFFF, 0, 0, .core⟩,
  ⟨"CD_TBL_COMMIT", 0x380010, 1, 4, 0, 0, 0, 0, 0, .core⟩,
  ⟨"CD_TBL_STAT", 0x380014, 1, 4, 0, 0, 0, 0xFF, 0, .core⟩,
  ⟨"CD_DEC_BLOCKS", 0x380100, 8, 4, 0, 0, 0xFFFFFFFF, 0, 0, .core⟩,
  ⟨"CD_ENC_BLOCKS", 0x380120, 8, 4, 0, 0, 0xFFFFFFFF, 0, 0, .core⟩,
  ⟨"CD_TBL_MISS", 0x380140, 8, 4, 0, 0, 0xFFFFFFFF, 0, 0, .core⟩,
  ⟨"CD_TBL_BASE_LO", 0x380200, 8, 8, 0xFFFF8000, 0, 0, 0, 0, .core⟩,
  ⟨"CD_TBL_BASE_HI", 0x380204, 8, 8, 0xFFFFFFFF, 0, 0, 0, 0, .core⟩,
  ⟨"CD_TBL_COUNT", 0x380240, 8, 4, 0x1FF, 0, 0, 0, 0, .core⟩,
  ⟨"CD_ENC_CFG", 0x380260, 8, 4, 0x1F, 0, 0, 0, 0, .core⟩,
  ⟨"CD_ENC_CAND", 0x380280, 8, 4, 0xFFFFFFFF, 0, 0, 0, 0, .core⟩,
  ⟨"MT_STAT", 0x384000, 1, 4, 0, 0xF, 0, 0, 0, .core⟩,
  ⟨"MT_CCH", 0x384004, 1, 4, 0, 0, 0, 0xFFFF, 0, .special⟩,
  ⟨"MT_GLADE_SPLIT", 0x384008, 1, 4, 0xF, 0, 0, 0, 0xB, .core⟩,
  ⟨"MT_FAIL_INFO", 0x384010, 1, 4, 0, 0, 0, 0xFFFFF03F, 0, .core⟩,
  ⟨"MT_OBJ_BASE_LO", 0x384040, 8, 8, 0xFFFFFFC0, 0, 0, 0, 0, .core⟩,
  ⟨"MT_OBJ_BASE_HI", 0x384044, 8, 8, 0xFFFFFFFF, 0, 0, 0, 0, .core⟩,
  ⟨"MT_OBJ_COUNT", 0x384080, 8, 4, 0x1FFFF, 0, 0, 0, 0, .core⟩,
  ⟨"MT_SPILL_BASE_LO", 0x3840C0, 1, 4, 0xFFFFFFC0, 0, 0, 0, 0, .core⟩,
  ⟨"MT_SPILL_BASE_HI", 0x3840C4, 1, 4, 0xFFFFFFFF, 0, 0, 0, 0, .core⟩,
  ⟨"MT_SPILL_COUNT", 0x3840C8, 1, 4, 0x1FFF, 0, 0, 0, 0, .core⟩,
  ⟨"MT_PEND", 0x384100, 8, 4, 0, 0, 0, 0xFF, 0, .core⟩,
  ⟨"MT_LATE_CNT", 0x384120, 8, 4, 0, 0, 0xFFFFFFFF, 0, 0, .core⟩,
  ⟨"MT_LATE_CYC", 0x384140, 8, 4, 0, 0, 0xFFFFFFFF, 0, 0, .core⟩]

/-- Canopy (Tables 7-8 to 7-11). -/
def regsCanopy : List RegSpec := [
  ⟨"CN_CTRL", 0x400000, 1, 4, 0xF, 0, 0, 0, 0xF, .core⟩,
  ⟨"CN_STAT", 0x400004, 1, 4, 0, 0x1F, 0, 0, 0, .core⟩,
  ⟨"CN_ECC_CNT", 0x400008, 1, 4, 0, 0, 0xFFFFFFFF, 0, 0, .core⟩,
  ⟨"CN_FB_CNT", 0x40000C, 1, 4, 0, 0, 0xFFFFFFFF, 0, 0, .core⟩,
  ⟨"CN_CAP_TAG0", 0x400010, 1, 4, 0, 0, 0, 0xFFFFFFFF, 0, .core⟩,
  ⟨"CN_CAP_TAG1", 0x400014, 1, 4, 0, 0, 0, 0xFFFFFFFF, 0, .core⟩,
  ⟨"CN_CAP_TAG2", 0x400018, 1, 4, 0, 0, 0, 0xFFFFFFFF, 0, .core⟩,
  ⟨"CN_CAP_NODE", 0x40001C, 1, 4, 0, 0, 0, 0x800000FF, 0, .core⟩,
  ⟨"CN_STAND", 0x400020, 1, 4, 0, 0, 0, 0x1FFFFFF, 0, .special⟩,
  ⟨"CN_PERF_SEL", 0x400030, 1, 4, 0x77FF, 0, 0, 0, 0, .core⟩,
  ⟨"CN_PERF_CNT", 0x400034, 1, 4, 0, 0, 0xFFFFFFFF, 0, 0, .core⟩,
  ⟨"CN_TRAIL_CNT", 0x400040, 8, 4, 0, 0, 0xFFFFFFFF, 0, 0, .core⟩]

/-- Hertia (Table 13-7). -/
def regsHertia : List RegSpec := [
  ⟨"HT_CHIP", 0x480000, 1, 4, 0x1F, 0, 0, 0, 0, .link⟩,
  ⟨"HT_TOPO", 0x480004, 1, 4, 0x3F, 0, 0, 0, 0, .link⟩,
  ⟨"HT_ROLES", 0x480008, 1, 4, 0xFFFF, 0, 0, 0, 0, .core⟩,
  ⟨"HT_PORT_CFG0", 0x480010, 1, 4, 7, 0, 0, 0, 4, .link⟩,
  ⟨"HT_PORT_CFG1", 0x480014, 1, 4, 7, 0, 0, 0, 0, .link⟩,
  ⟨"HT_PORT_CFG2", 0x480018, 1, 4, 7, 0, 0, 0, 2, .link⟩,
  ⟨"HT_PORT_CFG3", 0x48001C, 1, 4, 7, 0, 0, 0, 6, .link⟩,
  ⟨"HT_PORT_STAT", 0x480020, 4, 4, 0, 0, 0, 0xFFFF07F3, 0, .special⟩,
  ⟨"HT_ROUTE", 0x480040, 16, 4, 7, 0, 0, 0, 7, .link⟩,
  ⟨"HT_ROUTE_COMMIT", 0x480080, 1, 4, 0, 0, 0, 0, 0, .core⟩,
  ⟨"HT_WIN", 0x480090, 7, 4, 0xF7, 0, 0, 0, 0, .core⟩,
  ⟨"HT_E2E_TO", 0x4800B0, 1, 4, 0xFFFF, 0, 0, 0, 0x32, .core⟩,
  ⟨"HT_CHAN_CMD", 0x4800C0, 1, 4, 0, 0, 0, 0, 0, .core⟩,
  ⟨"HT_FENCED", 0x4800C8, 1, 4, 0, 0, 0, 0xFFFF, 0, .special⟩,
  ⟨"HT_LOST", 0x4800D0, 1, 4, 0, 0xFFFF, 0, 0, 0, .core⟩,
  ⟨"HT_TICK", 0x4800E0, 1, 4, 0xFF, 0, 0, 0, 0, .link⟩,
  ⟨"HT_TICK_LEAD", 0x4800E4, 1, 4, 0xFFFF, 0, 0, 0, 0x7D0, .link⟩,
  ⟨"HT_TICK_WAIT", 0x4800E8, 1, 4, 0xFFFF, 0, 0, 0, 0, .core⟩,
  ⟨"HT_STAT", 0x480100, 1, 4, 0, 0x3FF, 0, 0x10000, 0, .core⟩,
  ⟨"HT_P_REPLAY", 0x480110, 4, 4, 0, 0, 0xFFFFFFFF, 0, 0, .core⟩,
  ⟨"HT_DROP_CNT", 0x480120, 1, 4, 0, 0, 0xFFFFFFFF, 0, 0, .core⟩,
  ⟨"HT_STALE_CNT", 0x480124, 1, 4, 0, 0, 0xFFFFFFFF, 0, 0, .core⟩]

/-- Tile registers, at their offset in the tile window (Tables 6-10 to 6-14, 4-8 to 4-10). -/
def regsTile : List RegSpec := [
  ⟨"TL_CTRL", 0x3E000, 1, 4, 1, 0, 0, 0, 0, .tile⟩,
  ⟨"TL_SP_PAGE", 0x3E004, 1, 4, 3, 0, 0, 0, 0, .tile⟩,
  ⟨"TL_NUM_STAT", 0x3E008, 1, 4, 0, 0x3B, 0, 0, 0, .tile⟩,
  ⟨"TL_CONFLICT_INFO", 0x3E010, 1, 4, 0, 0, 0, 0xBFE0FFFF, 0, .tile⟩,
  ⟨"TL_CONFLICT_CYCLE", 0x3E014, 1, 4, 0, 0, 0, 0xFFFFFFFF, 0, .tile⟩,
  ⟨"TL_CONFLICT_CNT", 0x3E018, 1, 4, 0, 0, 0xFFFFFFFF, 0, 0, .tile⟩,
  ⟨"TL_NM_COMMIT", 0x3E020, 1, 4, 0, 0, 0, 0, 0, .tile⟩,
  ⟨"TL_NM_STAT", 0x3E024, 1, 4, 0, 0, 0, 3, 0, .tile⟩,
  ⟨"TL_NM_CRC", 0x3E028, 1, 4, 0, 0, 0, 0xFFFFFFFF, 0x3A61C0D5, .tile⟩,
  ⟨"SQ_CTRL", 0x3F000, 1, 4, 0x10F, 0, 0, 0, 0x103, .tile⟩,
  ⟨"SQ_STAT", 0x3F004, 1, 4, 0, 0, 0, 0xFFFF0F1F, 0, .special⟩,
  ⟨"SQ_PC", 0x3F008, 1, 4, 0, 0, 0, 0x1FFF, 0, .special⟩,
  ⟨"SQ_FAULT", 0x3F00C, 1, 4, 0, 0, 0, 0xFFFF1FFF, 0, .special⟩,
  ⟨"SQ_INSTANCES", 0x3F010, 1, 4, 0, 0, 0, 0xFFFFFFFF, 0, .tile⟩,
  ⟨"SQ_CYCLES_LAST", 0x3F014, 1, 4, 0, 0, 0, 0xFFFFFFFF, 0, .tile⟩]

/-- Whether an offset is the register, and which of its like it is. -/
def RegSpec.index (r : RegSpec) (off : Nat) : Option Nat :=
  if r.base ≤ off ∧ off < r.base + r.count * r.stride ∧ (off - r.base) % r.stride = 0 then some ((off - r.base) / r.stride)
  else none

/-- The first register of a list that an offset is. -/
def regFind : List RegSpec → Nat → Option RegSpec
  | [], _ => none
  | r :: rs, off => if (r.index off).isSome then some r else regFind rs off

/-- The registers of the block that an offset lies in (Table 0-4). -/
def regBlock (off : Nat) : List RegSpec :=
  if off < 0x10000 then regsGlobal else if off < 0x20000 then regsTick
  else if off < 0x30000 then regsPower ++ regsPower2
  else if off < 0x40000 then regsThermal else if off < 0x50000 then regsSecurity
  else if off < 0x60000 then [] else if off < 0x70000 then regsBoot else if off < 0x80000 then regsError
  else if off < 0xC0000 then [] else if off < 0xD0000 then regsRing
  else if off < 0x200000 then [] else if off < 0x210000 then regsDram
  else if off < 0x300000 then [] else if off < 0x320000 then regsFlash
  else if off < 0x380000 then [] else if off < 0x390000 then regsCodec
  else if off < 0x400000 then [] else if off < 0x410000 then regsCanopy
  else if off < 0x480000 then [] else if off < 0x490000 then regsHertia
  else []

/-- The register at a word-aligned offset: the tile windows repeat theirs every 256 KiB (R141). -/
def regAt (off : Nat) : Option RegSpec :=
  if 0x1000000 ≤ off ∧ off < 0x2000000 then regFind regsTile (off % 0x40000) else regFind (regBlock off) off

/-- The value a register holds after the reset that names it, by its offset (the Reset columns; 0 where no register is). -/
def regReset (off : Nat) : Word :=
  match regAt off with
  | some r => w32 r.reset
  | none => 0

/-- The bits of a register that a read returns. -/
def RegSpec.readable (r : RegSpec) : Nat := r.rw ||| r.w1c ||| r.rc ||| r.ro

/-- What a write leaves in a register (R4, R5): RW fields take the written value, each 1 written to a W1C bit clears it,
every other bit stays. `ev` holds the bits that a hardware event sets in the same cycle (R6). -/
def RegSpec.write (r : RegSpec) (old v ev : Word) : Word :=
  let rw := w32 r.rw
  let c := w32 r.w1c
  ((v &&& rw) ||| (old &&& ~~~ rw &&& ~~~ (v &&& c))) ||| (ev &&& c)

/-- What a read of a register leaves in it (R4, R6): RC fields clear, and bits that an event sets in the same cycle stay. -/
def RegSpec.afterRead (r : RegSpec) (old ev : Word) : Word :=
  let c := w32 r.rc
  (old &&& ~~~ c) ||| (ev &&& c)

end Sys2Proof.Machine
end

