-- ==== Sys2Proof/Machine/TypesMem.lean ====
section
/-! DEFINITION. Plain data of the DRAM controller, the flash controller, the prefetcher and the codec (chapters 09 to 12). -/

namespace Sys2Proof.Machine

/-- A range of DRAM whose unlisted bytes are undefined, with the generation that names them (R400, R402, R239). -/
structure Scramble where
  lo  : Nat
  hi  : Nat
  gen : Nat
  deriving DecidableEq, Repr

/-- One DRAM channel (chapter 10): the settings in use since the last edge, the refresh grid and the polls. -/
structure DramCh where
  fixed    : Bool
  refUse   : Word
  pageUse  : Word
  qosUse   : List Nat
  mult     : Nat
  forced   : Bool
  /-- Interval in ns in use on the FIXED grid, that of the previous tick's grid, the time of the last and of the next refresh, and where the
  present tick's grid starts (R253). -/
  ivlNs    : Nat
  oldIvl   : Nat
  lastRef  : Nat
  nextRef  : Nat
  gridNs   : Nat
  /-- What is left of the stall cycles counted so far, in ten-thousandths. -/
  stallRem : Nat
  mr4Ns    : Nat
  trackNs  : Nat
  /-- Open pages per bank: row, time of the last access, and whether TIMER holds it open (R251). -/
  open_    : Tab (Option (Nat × Nat × Bool))
  /-- When each bank was last refreshed by itself (R252). -/
  bankNs   : Tab Nat
  /-- The write queue (R250): the accepted writes of 64 bytes that are not retired, oldest first; when it was last worked on, with the part of a
  write then under way, in 1/80,000; and whether it is being drained. -/
  wq       : List Nat
  wqNs     : Nat
  wqPart   : Nat
  drain    : Bool
  /-- Refreshes counted to the next ZQ latch (Table 10-2). -/
  zq       : Nat
  /-- A write command that the device found damaged, to be seen at the next MR4 poll (R257). -/
  linkWr   : Bool
  deriving DecidableEq, Repr

/-- A channel after PORST_N. -/
def DramCh.reset : DramCh :=
  { fixed := false, refUse := 0x08000185#32, pageUse := 0x00400000#32, qosUse := [2000, 4000, 1000, 500, 2000, 10000],
    mult := 8, forced := false, ivlNs := 3900, oldIvl := 3900, lastRef := 0, nextRef := 0, gridNs := 0, stallRem := 0, mr4Ns := 0, trackNs := 0,
    open_ := [], bankNs := [], wq := [], wqNs := 0, wqPart := 0, drain := false, zq := 0, linkWr := false }

/-- The DRAM (chapter 10). Cells are plaintext by local DRAM address; every access passes the key of the stand (R400). -/
structure DramSt where
  cells    : Tab Byte
  scr      : List Scramble
  /-- Units whose array contents are damaged, by address / 64 (R258, R400). -/
  bad      : Tab Bool
  started  : Bool
  startNs  : Nat
  training : Bool
  ready    : Bool
  restored : Bool
  /-- The bring-up is the one that an exit from S4 began (R262). -/
  fromS4   : Bool
  failMask : Nat
  cchMib   : Nat
  powered  : Bool
  chans    : List DramCh
  deriving DecidableEq, Repr

/-- A flash command of the host (R278): its operation, address, SLC, buffer, when it was issued, whether it has aged (R281), whether its LUN serves it,
how many of its device operations have ended (BBT_STORE: an erase, then the pages), and the data to program. -/
structure FlCmd where
  op    : Nat
  addr  : Nat
  slc   : Bool
  buf   : Nat
  since : Nat
  aged  : Bool
  begun : Bool
  stage : Nat
  data  : List Byte
  deriving DecidableEq, Repr

/-- The data interface of a flash channel (Table 11-2, R285): off, SDR timing mode 0, NV-LPDDR4 at the configured rate, or idle in S3. -/
inductive FlIface where
  | off | sdr | nvLpddr4 | idle
  deriving DecidableEq, Repr

/-- An ONFI command that the controller issues (Table 11-2): `slcPrefix` is the opcode of FL_SLC_PREFIX before a command (R278); SET FEATURES, plain or by
LUN, with its feature address and parameters P1 to P4 (R271). -/
inductive Onfi where
  | reset | readId | readParam | zqCal | slcPrefix (op : Nat) | read | program | erase | status
  | setFeatures (byLun : Bool) (addr params : Nat)
  deriving DecidableEq, Repr

/-- The flash (chapter 11). Cells are page bytes (data then spare) by page address × 32,768 + byte, erased bytes 0xFF; a page
address has the layout of FL_CMD_ADDR. -/
structure FlashSt where
  cells    : Tab Byte
  /-- Pages whose contents are undefined (R285), by page address: the generation that names the bytes. -/
  undef    : Tab Nat
  started  : Bool
  busy     : Bool
  ready    : Bool
  failMask : Nat
  /-- Geometry: pages per block, blocks in use per target, CEs per channel, LUNs per target. -/
  pages    : Nat
  blocks   : Nat
  ces      : Nat
  luns     : Nat
  /-- Blocks of each LUN of a target. -/
  lunBlocks : Nat
  /-- The data interface of each channel, and the commands of the last operation on each LUN, oldest first. -/
  iface    : List FlIface
  bus      : Tab (List Onfi)
  bbtLoaded : Bool
  bbtDirty : Bool
  /-- Blocks marked bad, by their bit of the bitmap (R276). -/
  bad      : Tab Bool
  regionOk : List Bool
  cmd      : Option FlCmd
  spillValid : Bool
  deriving DecidableEq, Repr

/-- An accepted plan step (R223 to R228). A SRC 1 step counts as one unit, of offset 0. -/
structure PStep where
  id      : Nat
  tenant  : Nat
  src     : Nat
  dst     : Nat
  ordered : Bool
  dtile   : Nat
  cidx    : Nat
  first   : Nat
  count   : Nat
  dest    : Nat
  ostride : Nat
  ubase   : Nat
  row0    : Nat
  nrows   : Nat
  /-- SRC 0: for each row the lowest unit offset it has not issued. -/
  nextOff : List Nat
  /-- Units that have ended. -/
  doneUnits : Nat
  /-- ORDERED: the next increment to judge (unit offset, number in it), the outcomes that wait (offset, number, whether it is to be
  sent), how many increments each ended unit has, and whether a failure withholds the rest (R228, R234). -/
  ordOff  : Nat
  ordBlk  : Nat
  results : List (Nat × Nat × Bool)
  totals  : List (Nat × Nat)
  failed  : Bool
  /-- The DM.PREF that this step completes: tile, TXID. -/
  ack     : Option (Nat × Nat)
  deriving DecidableEq, Repr

/-- Whom a block serves. -/
inductive BlkOwner where
  /-- A plan step: its number, and the unit offset (SRC 1: 0). -/
  | step (id unit : Nat)
  /-- A DM.CODEC: its number. -/
  | codec (id : Nat)
  deriving DecidableEq, Repr

/-- How far a block has come (R291, R294, R295): its second read is due, its table is due, it may be decoded, or its output is on its way. -/
inductive BlkPhase where
  | reread | needTable | checked | writing
  deriving DecidableEq, Repr

/-- A block in a row's hands: its owner and number there, the flash page it lies in (none: DRAM), its offset in the page or its DRAM
address, where its output goes relative to the owner's destination, its bytes as read, its table, its place in the order in which checks
complete (R298), and the bytes of the codec area reserved for its output, none before that (R299). -/
structure Blk where
  owner  : BlkOwner
  num    : Nat
  row    : Nat
  tenant : Nat
  page   : Option Nat
  addr   : Nat
  out    : Nat
  bytes  : List Byte
  phase  : BlkPhase
  table  : List Byte
  seq    : Nat
  res    : Option Nat
  deriving DecidableEq, Repr

/-- A chain of blocks whose places follow from one another (R220, R523): a stripe unit in the Glade or on its way, or a SRC 1 step.
`pos` is where the next block lies, `num` its number, `out` the output it starts at; `left` are blocks found and not yet settled. -/
structure UnitSt where
  step    : Nat
  unit    : Nat
  row     : Nat
  ch      : Nat
  page    : Nat
  landed  : Bool
  data    : List Byte
  pos     : Nat
  num     : Nat
  out     : Nat
  scanned : Bool
  /-- A block of the chain waits for its second read. -/
  held    : Bool
  left    : Nat
  bad     : Bool
  /-- DST 2: decoded output by its place. -/
  outs    : List (Nat × List Byte)
  /-- DST 1 and 2: the unit's DRAM writes are on their way. -/
  writing : Bool
  deriving DecidableEq, Repr

/-- A DM.CODEC in progress (R131): the issuing tile, its DM ordinal, its instance while the tick lasts, and the fields of the
instruction. `num` is the next block, `nextA` its packed DRAM address, `nextO` its output. -/
structure CodecOp where
  id     : Nat
  tile   : Nat
  ord    : Nat
  txid   : Nat
  inst   : Option Nat
  tenant : Nat
  enc    : Bool
  dtile  : Nat
  sa     : Nat
  addr   : Nat
  count  : Nat
  stride : Nat
  ctrD   : Nat
  ctrS   : Nat
  num    : Nat
  nextA  : Nat
  nextO  : Nat
  prof   : Word
  cand   : Word
  /-- ENC: the bytes still to encode. -/
  data   : List Byte
  /-- Blocks found and not yet settled; one of them waits for its second read; a failure ends the operation. -/
  open_  : Nat
  held   : Bool
  failed : Bool
  /-- ENC: the place of its next block in the row's order (R298), and encoded blocks whose writes are not acknowledged. -/
  seq    : Nat
  sent   : Nat
  deriving DecidableEq, Repr

/-- What a transfer of an east node serves (R172): the output of a block, the DRAM writes of a unit, an encoded block of a DM.CODEC with the bytes of the
codec area reserved for it, or a counter update for a step or, with none, for a DM.CODEC. -/
inductive EWork where
  | blk (b : Blk)
  | unit (id off : Nat)
  | enc (id num res : Nat)
  | count (step : Option Nat) (tile idx v : Nat)
  deriving DecidableEq, Repr

/-- A transfer of a row's east node: the destination node and, for a write, the bytes by their address there. -/
structure ESend where
  row    : Nat
  tenant : Nat
  dx     : Nat
  dy     : Nat
  parts  : List (Nat × List Byte)
  work   : EWork
  deriving DecidableEq, Repr

/-- A descriptor that a CMD flit carries to an east node (R225, R131), by issuing tile and TXID. -/
inductive Desc where
  | pref (tile txid : Nat) (inst : Option Nat) (tenant planAddr first count : Nat)
  | codec (op : CodecOp)
  deriving DecidableEq, Repr

/-- A cached rANS table of a row (R291). -/
structure TableCache where
  row    : Nat
  tenant : Nat
  id     : Nat
  bytes  : List Byte
  deriving DecidableEq, Repr

/-- The prefetcher and the codec (chapters 09, 12). -/
structure PlanSt where
  steps    : List PStep
  /-- Steps that have passed their checks and wait for room among 128 (R231). -/
  wait     : List PStep
  nextId   : Nat
  units    : List UnitSt
  blks     : List Blk
  ops      : List CodecOp
  descs    : List Desc
  /-- Transfers of the east nodes: those that wait for a TXID, and those under way by their TXID (R172). -/
  sends    : List ESend
  etx      : List (Nat × ESend)
  /-- The next place in the order of completed checks (R298). -/
  nextSeq  : Nat
  caches   : List TableCache
  lookUse  : Nat
  tblPend  : Nat
  /-- MT_OBJ and CD_ per-tenant registers in use (R218, Table 12-9): base, count, table base, table count, profile, candidates. -/
  objBase  : List Nat
  objCount : List Nat
  tblBase  : List Nat
  tblCount : List Nat
  encCfg   : List Word
  encCand  : List Word
  deriving DecidableEq, Repr

end Sys2Proof.Machine
end

