-- ==== Sys2Proof/Machine/TypesDev.lean ====
section
/-! DEFINITION. The parts of the AE7260 after reset, and the core as one record (R9, chapters 03 to 21). -/

namespace Sys2Proof.Machine

/-- The output balls that a command changes (Table 23-12): supply enables, resets and write protect, THERMTRIP_N (true is
high, released), and the last AVSBus voltage in mV. -/
structure PinSt where
  corePwr  : Bool
  dramPwr  : Bool
  flashPwr : Bool
  dramRstN : Bool
  wpN      : Bool
  tripN    : Bool
  avsMv    : Nat
  /-- The level of the input ball TICK_IN (R47, R517). -/
  tickIn   : Bool
  deriving DecidableEq, Repr

/-- Everything behind BAR0 except the service ports and the thermal unit, with the clock of the model. -/
structure Dev where
  /-- Registers by BAR0 offset; an unlisted one reads as its reset value (`regReset`). -/
  regs    : Tab Word
  nowNs   : Nat
  porstNs : Nat
  /-- Counter that numbers the free values drawn from Config. -/
  freeCtr : Nat
  log     : Tab LogEntry
  dropPend : Bool
  tick    : TickSt
  tiles   : Tab TileSt
  mem     : TileMem
  /-- Tiles whose unlisted scratchpad bytes are undefined since S3 or S4 (R356), with the generation that names the bytes. -/
  spadGen : Tab Nat
  fab     : FabSt
  bars    : Tab BarSlot
  plan    : PlanSt
  dram    : DramSt
  flash   : FlashSt
  map     : MapSt
  pwr     : PwrSt
  sec     : SecSt
  host    : HostSt
  boot    : BootSt
  lk      : LinkSt
  pins    : PinSt
  test    : TestSt
  deriving DecidableEq, Repr

/-- The tick unit after reset (Tables 3-11 to 3-15). -/
def TickSt.reset : TickSt :=
  { count := 0, latchHi := 0, edgeNs := 0, started := false, timerNs := 0, ctrlUse := 4, periodUse := 10000, pctUse := 92,
    held := false, slipDue := none, slipNs := 0, fallback := false, srcLost := false, unsync := false, trunc := false, truncPend := false,
    final := false, abort := false, cur := [], nxt := [], sess := [], valid := [], validPend := [], validE1 := [],
    validE2 := [], rules := [], rulePend := false, fstoreUse := 0, batchUse := List.replicate 8 0,
    fsOp := 0, lastId := 0, pass := false, empties := 0, onced := [], withdrawn := [], withdrawnAll := false,
    annFclk := 1000 }

/-- Tile memories after reset: nothing listed. -/
def TileMem.reset : TileMem :=
  { spad := [], imem := [], nmSh := [], nmAct := [], acc := [], accFp := [], vreg := [], ctr := [], ctrBad := [] }

/-- The fabric after reset: nothing in flight, one stand of tenant 0 (R395). -/
def FabSt.reset : FabSt :=
  { inflight := [], refused := [], tainted := [], reqNext := [], nextFid := 0, granted := [], trailUp := List.replicate 8 false, stand := List.replicate 8 0 }

/-- The prefetcher and codec after reset. -/
def PlanSt.reset : PlanSt :=
  { steps := [], wait := [], nextId := 0, units := [], blks := [], ops := [], descs := [], sends := [], etx := [], nextSeq := 0, caches := [], lookUse := 11,
    tblPend := 0, objBase := List.replicate 8 0, objCount := List.replicate 8 0, tblBase := List.replicate 8 0,
    tblCount := List.replicate 8 0, encCfg := List.replicate 8 0, encCand := List.replicate 8 0 }

/-- The DRAM after PORST_N: not started (R243). -/
def DramSt.reset : DramSt :=
  { cells := [], scr := [], bad := [], started := false, startNs := 0, training := false, ready := false,
    restored := false, fromS4 := false, failMask := 0, cchMib := 0, powered := true, chans := List.replicate 8 DramCh.reset }

/-- The flash controller after PORST_N, over an erased flash (R265, R267). -/
def FlashSt.reset : FlashSt :=
  { cells := [], undef := [], started := false, busy := false, ready := false, failMask := 0, pages := 0, blocks := 0,
    ces := 0, luns := 0, lunBlocks := 0, iface := List.replicate 16 .sdr, bus := [], bbtLoaded := false, bbtDirty := false, bad := [], regionOk := List.replicate 16 true, cmd := none,
    spillValid := false }

/-- The operating points of Table 15-10: frequency in 25 MHz, voltage in 5 mV. -/
def opReset : List (Nat × Nat) :=
  [(48, 170), (44, 160), (40, 150), (36, 142), (32, 135), (28, 129), (24, 124), (22, 122), (20, 120), (18, 118), (16, 116),
   (14, 115), (12, 114), (11, 113), (10, 112), (8, 110)]

/-- The power unit after PORST_N: S0 at OP2 (Table 15-11). -/
def PwrSt.reset : PwrSt :=
  { req := none, heldReq := none, wakeSeen := false, step := 0, enterNs := 0, wakeNs := 0, wakeTick := false,
    firstEdge := none, exitFrom := 0, keep := [], restoring := false, spillGen := 0, spilled := [], spillNext := none, resetAfter := none,
    opUse := opReset, opPend := false, gov := 2, phaseUse := List.replicate 64 0x1F2,
    rampUse := [16, 32, 48, 64, 80, 96, 112, 128, 0x78CEA8, 8], fclk := 1000,
    pll := 1000, pllLocked := true, volt := 750, avsWait := none, avsHeld := false, hist := [], fitEnergy := false, fitCycle := false, spoiled := false, learned := [],
    gatedNs := none }

/-- The thermal table of Table 16-9. -/
def thReset : List (Word × Word) :=
  [(0x00000000, 0x01000001), (0x01340140, 0x01000064), (0x015C0168, 0x20CD0064), (0x017C0188, 0x50800032),
   (0x019801A4, 0xF0400032)]

/-- The thermal unit after PORST_N: T0, no sample yet (R375, R393). -/
def ThSt.reset : ThSt :=
  { hist := List.replicate 16 [], seen := List.replicate 16 true, theta := 500, sampled := 0, badCnt := 0, goodCnt := 0, fault := false,
    judged := 0, level := 0, dwell := 0, lastNs := 0, active := thReset, pend := false, guard := false,
    tripped := false, curveBad := false, duty := 0, target := 0, fallNs := 0, lowWin := 0, fanBad := false, dutyLow := false, winNs := 0 }

/-- The security unit after PORST_N: empty slots, no Clearing, blank fuses (R402, R412). -/
def SecSt.reset : SecSt :=
  { keys := List.replicate 16 0, unkeyed := [], prov := 0, standPend := false, standReq := List.replicate 8 0,
    clear := List.replicate 8 .idle, clearFl := List.replicate 8 0, clearNs := List.replicate 8 0, lastRun := List.replicate 8 false,
    cleared := List.replicate 8 false, rootHash := 0, lock := false, debugDis := false, rollback := 0, rootUse := 0,
    lockUse := false, dbgUse := false, rollUse := 0 }

/-- The host port after reset: every vector masked, no VF (R413, R437); the link is up, which the spec leaves to the host. -/
def HostSt.reset : HostSt :=
  { bme := 0, msixEn := 0, fmask := 0, msix := [], pba := [], rings := [], jobs := [], upWait := [], upLast := 8, upOut := [],
    rdData := [], bar2Log := List.replicate 9 35, bar2Wait := [], flrWait := [], linkL23 := false, linkUp := true,
    pmeReq := false }

/-- The boot sequencer at release of PORST_N (R472, Table 20-8: BOOTING 1). -/
def BootSt.reset : BootSt :=
  { startNs := 0, cold := true, entries := [], next := 0, running := false, waitNs := none, autoUse := List.replicate 64 0 }

/-- The balls at release of PORST_N (Table 23-12, R349). -/
def PinSt.reset : PinSt :=
  { corePwr := true, dramPwr := true, flashPwr := true, dramRstN := false, wpN := false, tripN := true, avsMv := 750, tickIn := false }

/-- The core after PORST_N. -/
def Dev.reset : Dev :=
  { regs := [], nowNs := 0, porstNs := 0, freeCtr := 0, log := [], dropPend := false, tick := TickSt.reset, tiles := [],
    mem := TileMem.reset, spadGen := [], fab := FabSt.reset, bars := [], plan := PlanSt.reset, dram := DramSt.reset,
    flash := FlashSt.reset, map := MapSt.reset, pwr := PwrSt.reset, sec := SecSt.reset, host := HostSt.reset,
    boot := BootSt.reset, lk := LinkSt.reset, pins := PinSt.reset, test := TestSt.idle }

end Sys2Proof.Machine
end

