-- ==== Sys2Proof/Machine/Ops.lean ====
section
/-! DEFINITION. The named operations over registers, tiles, memories, stands and messages that the meanings share. -/

namespace Sys2Proof.Machine

/-! ## Registers -/

/-- The stored value of a register. -/
def Dev.reg (d : Dev) (off : Nat) : Word := tabGet regReset d.regs off

/-- Store a register. -/
def Dev.setReg (d : Dev) (off : Nat) (v : Word) : Dev := { d with regs := tabSet regReset d.regs off v }

/-- The stored value as a number. -/
def Dev.regN (d : Dev) (off : Nat) : Nat := (d.reg off).toNat

/-- Set bits of a register. -/
def Dev.orReg (d : Dev) (off : Nat) (bits : Nat) : Dev := d.setReg off (d.reg off ||| w32 bits)

/-- Clear bits of a register. -/
def Dev.clrReg (d : Dev) (off : Nat) (bits : Nat) : Dev := d.setReg off (d.reg off &&& ~~~ w32 bits)

/-- Add to a saturating counter. -/
def Dev.incReg (d : Dev) (off n : Nat) : Dev := d.setReg off (satAdd (d.reg off) n)

/-- Replace a field of a register. -/
def Dev.fldReg (d : Dev) (off lo len x : Nat) : Dev := d.setReg off (setFld (d.reg off) lo len x)

/-- Set or clear one bit of a register. -/
def Dev.bitReg (d : Dev) (off i : Nat) (b : Bool) : Dev := d.fldReg off i 1 (b2n b)

/-- Draw a free value: the counter that names it, and the device with the counter advanced. -/
def Dev.draw (d : Dev) : Nat × Dev := (d.freeCtr, { d with freeCtr := d.freeCtr + 1 })

/-- A pair of registers as a 64-bit address. -/
def Dev.reg64 (d : Dev) (lo hi : Nat) : Nat := d.regN lo + d.regN hi * 2 ^ 32

/-- Microseconds of always-on time since PORST_N. -/
def Dev.timeUs (d : Dev) : Nat := (d.nowNs - d.porstNs) / 1000

/-! ## Tiles and their memories -/

/-- The record of a tile. -/
def Dev.tile (d : Dev) (t : Nat) : TileSt := tabGet (fun _ => TileSt.reset) d.tiles t

/-- Store the record of a tile. -/
def Dev.setTile (d : Dev) (t : Nat) (ts : TileSt) : Dev := { d with tiles := tabSet (fun _ => TileSt.reset) d.tiles t ts }

/-- Change the record of a tile. -/
def Dev.updTile (d : Dev) (t : Nat) (f : TileSt → TileSt) : Dev := d.setTile t (f (d.tile t))

/-- The power state of the part (Table 15-8). -/
def Dev.pstate (d : Dev) : Nat := fld (d.reg Reg.PW_STAT) 0 3

/-- FCLK in use in MHz. -/
def Dev.fclk (d : Dev) : Nat := max d.pwr.fclk 1

/-- FCLK cycles that the streams of a tile have had since its instance started, in 1/2000 of a cycle: while the tile is stretched it uses every
second cycle (R100, R115, R372). -/
def TileSt.cycAt (ts : TileSt) (now fclk : Nat) : Nat :=
  ts.cyc + (2 * (now - ts.cycNs) - (min now (max ts.droopUntil ts.cycNs) - ts.cycNs)) * fclk

/-- Take a tile's cycles so far into account, before its clock changes. -/
def Dev.retimeTile (d : Dev) (t : Nat) : Dev :=
  d.updTile t (fun ts => if ts.cur.isSome then { ts with cyc := ts.cycAt d.nowNs d.fclk, cycNs := d.nowNs } else ts)

/-- FCLK changes: the cycles of every running instance so far are counted at the old frequency (R365). -/
def Dev.setFclk (d : Dev) (f : Nat) : Dev :=
  let d := (List.range 64).foldl (fun d t => d.retimeTile t) d
  { d with pwr := { d.pwr with fclk := f } }

/-- Divided cycles since the instance started on the tile (R100, R115). -/
def Dev.divCycles (d : Dev) (t : Nat) : Nat := (d.tile t).cycAt d.nowNs d.fclk / 2000 / 2 ^ (d.tile t).divLog

/-- The images of some fragments are no longer resident, nor preloaded, in any tile (R96). -/
def Dev.unload (d : Dev) (p : Nat → Bool) : Dev :=
  (List.range 64).foldl (fun d t => d.updTile t (fun ts =>
    { ts with resident := ts.resident.filter (fun r => !(p r.frag)), pre := ts.pre.filter (fun r => !(p r.frag)) })) d

/-- The row of a tile (R12). -/
def tileRow (t : Nat) : Nat := t / 8

/-- The node of a tile: x and y. -/
def tileX (t : Nat) : Nat := t % 8 + 1

/-- The node of a tile: y. -/
def tileY (t : Nat) : Nat := t / 8 + 1

/-- The tile at a node. -/
def tileAt (x y : Nat) : Nat := (y - 1) * 8 + (x - 1)

/-- Whether a node is a tile. -/
def isTile (x y : Nat) : Bool := decide (1 ≤ x ∧ x ≤ 8 ∧ 1 ≤ y ∧ y ≤ 8)

/-- What an unlisted scratchpad byte reads as: 0x00 until S3 or S4 leaves it undefined (R356). -/
def spadDef (gens : Tab Nat) (k : Nat) : Byte :=
  let g := tabGet (fun _ => 0) gens (k / 0x80000)
  if g = 0 then 0 else Config.spadByte g k

/-- A byte of a tile's scratchpad. -/
def Dev.spad (d : Dev) (t a : Nat) : Byte := tabGet (spadDef d.spadGen) d.mem.spad (t * 0x80000 + a)

/-- Consecutive bytes of a tile's scratchpad. -/
def Dev.spadBytes (d : Dev) (t a n : Nat) : List Byte := tabGetList (spadDef d.spadGen) d.mem.spad (t * 0x80000 + a) n

/-- Write consecutive bytes of a tile's scratchpad. -/
def Dev.setSpad (d : Dev) (t a : Nat) (bs : List Byte) : Dev :=
  { d with mem := { d.mem with spad := tabSetList (spadDef d.spadGen) d.mem.spad (t * 0x80000 + a) bs } }

/-- What unlisted instruction memory reads as (no value is given: 0x00). -/
def imemDef (_ : Nat) : Byte := 0

/-- Bytes of a tile's instruction memory. -/
def Dev.imemBytes (d : Dev) (t a n : Nat) : List Byte := tabGetList imemDef d.mem.imem (t * 0x10000 + a) n

/-- Write bytes of a tile's instruction memory. -/
def Dev.setImem (d : Dev) (t a : Nat) (bs : List Byte) : Dev :=
  { d with mem := { d.mem with imem := tabSetList imemDef d.mem.imem (t * 0x10000 + a) bs } }

/-- The instruction word at an address of a tile's instruction memory (R86). -/
def Dev.instWord (d : Dev) (t pc : Nat) : Word64 := BitVec.ofNat 64 (leNat (d.imemBytes t (pc * 8) 8))

/-- The default of counters, accumulator words and lanes. -/
def zeroW (_ : Nat) : Word := 0

/-- The default of tags and flags. -/
def falseB (_ : Nat) : Bool := false

/-- A sync counter. -/
def Dev.ctr (d : Dev) (t i : Nat) : Word := tabGet zeroW d.mem.ctr (t * 2048 + i)

/-- Whether a sync counter is poisoned (R485). -/
def Dev.ctrBad (d : Dev) (t i : Nat) : Bool := tabGet falseB d.mem.ctrBad (t * 2048 + i)

/-- Write a sync counter: the write ends a poisoning (R485). -/
def Dev.setCtr (d : Dev) (t i : Nat) (v : Word) : Dev :=
  { d with mem := { d.mem with ctr := tabSet zeroW d.mem.ctr (t * 2048 + i) v,
                               ctrBad := tabSet falseB d.mem.ctrBad (t * 2048 + i) false } }

/-- Add to a sync counter, modulo 2^32 (R135); a poisoned counter stays poisoned. -/
def Dev.addCtr (d : Dev) (t i : Nat) (v : Word) : Dev :=
  { d with mem := { d.mem with ctr := tabSet zeroW d.mem.ctr (t * 2048 + i) (d.ctr t i + v) } }

/-! ## Stands and DRAM addresses (R182, R214 to R216, R395) -/

/-- The tenant of a row. -/
def Dev.rowTenant (d : Dev) (r : Nat) : Nat := d.fab.stand.getD r 0

/-- The tenant of a tile. -/
def Dev.tileTenant (d : Dev) (t : Nat) : Nat := d.rowTenant (tileRow t)

/-- Whether more than one stand is defined (R182). -/
def Dev.multi (d : Dev) : Bool := (List.range 8).any (fun r => decide (d.rowTenant r ≠ d.rowTenant 0))

/-- The rows of a tenant. -/
def Dev.standRows (d : Dev) (t : Nat) : List Nat := (List.range 8).filter (fun r => decide (d.rowTenant r = t))

/-- The first row of a tenant's stand and how many it has. -/
def Dev.standKN (d : Dev) (t : Nat) : Nat × Nat := ((d.standRows t).headD 0, (d.standRows t).length)

/-- The tiles of a tenant's stand as a mask. -/
def Dev.standMask (d : Dev) (t : Nat) : BitVec 64 :=
  BitVec.ofNat 64 ((d.standRows t).foldl (fun m r => m + 255 * 2 ^ (8 * r)) 0)

/-- C_ch in bytes (R214). -/
def Dev.cch (d : Dev) : Nat := d.dram.cchMib * 2 ^ 20

/-- Whether a DRAM range lies in a tenant's stand (R215, R216); an empty range is judged by its address. -/
def Dev.inStand (d : Dev) (tenant a n : Nat) : Bool :=
  let (k, c) := d.standKN tenant
  decide (0 < c ∧ k * d.cch ≤ a ∧ a + max n 1 ≤ (k + c) * d.cch)

/-- The tenant whose stand holds a DRAM address, if any. -/
def Dev.addrTenant (d : Dev) (a : Nat) : Option Nat :=
  if a < 8 * d.cch ∧ 0 < d.cch then some (d.rowTenant (a / d.cch)) else none

/-- The channel and the offset within the channel of a DRAM address (R215). -/
def Dev.dramPlace (d : Dev) (a : Nat) : Nat × Nat :=
  let (k, n) := d.standKN ((d.addrTenant a).getD 0)
  let r := a - k * d.cch
  let g := r / 32768
  (k + g % max n 1, g / max n 1 * 32768 + r % 32768)

/-! ## DRAM -/

/-- The generation of the last event that left an address undefined: 0 where none did, or zeros have been written over it since. -/
def scrambleGen (ss : List Scramble) (a : Nat) : Nat :=
  ss.foldl (fun g s => if s.lo ≤ a ∧ a < s.hi then s.gen else g) 0

/-- What an unlisted DRAM byte reads as: 0x00, or a free byte where an event left it undefined. -/
def dramDef (scr : List Scramble) (a : Nat) : Byte :=
  let g := scrambleGen scr a
  if g = 0 then 0 else Config.dramByte g a

/-- Bytes of DRAM. -/
def Dev.dramBytes (d : Dev) (a n : Nat) : List Byte := tabGetList (dramDef d.dram.scr) d.dram.cells a n

/-- A little-endian number of DRAM. -/
def Dev.dramN (d : Dev) (a n : Nat) : Nat := leNat (d.dramBytes a n)

/-- The 64-byte units that a range touches. -/
def unitsOf (a n : Nat) : List Nat := if n = 0 then [] else (List.range ((a + n - 1) / 64 + 1 - a / 64)).map (· + a / 64)

/-- Whether a range touches a unit whose array contents are damaged (R258). -/
def Dev.dramBad (d : Dev) (a n : Nat) : Bool := (unitsOf a n).any (tabGet falseB d.dram.bad)

/-- Write bytes of DRAM: a written unit is whole again (R258). -/
def Dev.setDram (d : Dev) (a : Nat) (bs : List Byte) : Dev :=
  { d with dram := { d.dram with cells := tabSetList (dramDef d.dram.scr) d.dram.cells a bs,
                                 bad := (unitsOf a bs.length).foldl (fun t u => tabSet falseB t u false) d.dram.bad } }

/-- Leave a range of DRAM undefined. -/
def Dev.scramble (d : Dev) (lo hi : Nat) : Dev :=
  let g := d.freeCtr + 1
  { d with freeCtr := g,
           dram := { d.dram with cells := tabDrop d.dram.cells (fun a => decide (lo ≤ a ∧ a < hi)),
                                 scr := d.dram.scr ++ [{ lo := lo, hi := hi, gen := g }] } }

/-- Fill a range of DRAM with zeros (R408). -/
def Dev.zeroDram (d : Dev) (lo hi : Nat) : Dev :=
  { d with dram := { d.dram with cells := tabDrop d.dram.cells (fun a => decide (lo ≤ a ∧ a < hi)),
                                 scr := d.dram.scr ++ [{ lo := lo, hi := hi, gen := 0 }],
                                 bad := tabDrop d.dram.bad (fun u => decide (lo ≤ u * 64 ∧ u * 64 < hi)) } }

/-! ## Messages to the host (R418, R420, R437) -/

/-- The function that issues an upstream write. -/
def UpTlp.fn : UpTlp → Nat
  | .mem f _ _ => f
  | .msi f _ => f

/-- The payload of an upstream write in bytes. -/
def UpTlp.size : UpTlp → Nat
  | .mem _ _ bs => bs.length
  | .msi _ _ => 4

/-- The bytes that wait in an upstream queue. -/
def HostSt.queued (h : HostSt) (q : Nat) : Nat := ((h.upWait.filter (fun e => decide (e.1 = q))).map (·.2.size)).sum

/-- Issue a posted write through a queue: it waits behind what the queue holds, and while its function's Bus Master Enable is clear (R420). -/
def Dev.upstream (d : Dev) (q : Nat) (x : UpTlp) : Dev :=
  let h := d.host
  if h.bme.getLsbD x.fn && decide (h.queued q = 0) then { d with host := { h with upOut := h.upOut ++ [x], upLast := q } }
  else { d with host := { h with upWait := h.upWait ++ [(q, x)] } }

/-- A turn of every queue in round-robin order, after the one served last: the oldest write of each whose function may issue it (R420). -/
def HostSt.turn (h : HostSt) : HostSt :=
  ((List.range 9).map (fun i => (h.upLast + 1 + i) % 9)).foldl (fun h q =>
    match h.upWait.find? (fun e => decide (e.1 = q)) with
    | some e =>
      if h.bme.getLsbD e.2.fn then { h with upOut := h.upOut ++ [e.2], upWait := h.upWait.erase e, upLast := q } else h
    | none => h) h

/-- So many turns. -/
def HostSt.turns : Nat → HostSt → HostSt
  | 0, h => h
  | n + 1, h => h.turn.turns n

/-- Reset value of the words of an MSI-X table entry: every vector masked (PRESUMED, PCI-SIG). -/
def msixDef (k : Nat) : Word := if k % 4 = 3 then 1 else 0

/-- Key of a vector: its function and number. -/
def vecKey (fn v : Nat) : Nat := fn * 2048 + v

/-- Send the message of a vector through a queue, or set its pending bit (R437). -/
def Dev.msi (d : Dev) (q fn v : Nat) : Dev :=
  if !d.host.msixEn.getLsbD fn then d
  else if d.host.fmask.getLsbD fn || (tabGet msixDef d.host.msix (vecKey fn v * 4 + 3)).getLsbD 0 then
    { d with host := { d.host with pba := tabSet falseB d.host.pba (vecKey fn v) true } }
  else d.upstream q (.msi fn v)

/-! ## The error log (R486, R488) -/

/-- The codes of contained severity (Table 21-5); FLASH_REGION is passed its severity by the unit that logs it. -/
def containedCodes : List Nat :=
  [0x000D, 0x1001, 0x1002, 0x1003, 0x1004, 0x1005, 0x1006, 0x1007, 0x1008, 0x1009, 0x100B, 0x100C, 0x100D, 0x100F, 0x1011,
   0x2002, 0x2003, 0x3008, 0x3009, 0x300B, 0x300C, 0x300D, 0x300E, 0x300F, 0x4001, 0x4007, 0x400E, 0x5002, 0x5003, 0x5004,
   0x5005, 0x6004, 0x6005, 0x6006, 0x6007, 0x6008, 0x6009, 0x600D, 0x8001, 0x9002, 0x9007, 0x9008, 0x9009, 0x900A, 0x900B]

/-- The codes of fatal severity (Table 21-5). -/
def fatalCodes : List Nat :=
  [0x000F, 0x2001, 0x2004, 0x3003, 0x4003, 0x7107, 0x8007, 0x900C, 0xB003, 0xB004, 0xB005]

/-- The severity of a code: 0 corrected, 1 contained, 2 fatal (R480). -/
def sevOf (code : Nat) : Nat :=
  if fatalCodes.contains code then 2 else if containedCodes.contains code then 1 else 0

/-- What a log entry tells of where an error arose (Table 21-4). -/
structure ErrAt where
  node    : Nat
  tenant  : Option Nat
  frag    : Nat
  session : Nat
  detail  : Nat
  deriving DecidableEq, Repr

/-- An error at a node with nothing else to tell. -/
def atNode (node : Nat) : ErrAt := { node := node, tenant := none, frag := 0xFFFF, session := 0xFFFF, detail := 0 }

/-- A node as the log writes it. -/
def nodeOf (x y : Nat) : Nat := x * 16 + y

/-- Nodes of the south units (Table 1-2). -/
abbrev nodeHost : Nat := 0x19
abbrev nodeComposer : Nat := 0x29
abbrev nodeTick : Nat := 0x39
abbrev nodePower : Nat := 0x49
abbrev nodeSec : Nat := 0x59
abbrev nodeBoot : Nat := 0x69
abbrev nodeErr : Nat := 0x79
abbrev nodeTest : Nat := 0x89

/-- Count an error by its severity (R486). -/
def Dev.countErr (d : Dev) (code sev : Nat) : Dev :=
  let d := (d.incReg Reg.ERR_TOTAL 1).setReg Reg.ERR_LAST (w32 code)
  let d := d.incReg (if sev = 0 then Reg.ERR_CNT_CE else if sev = 1 then Reg.ERR_CNT_CONT else Reg.ERR_CNT_FATAL) 1
  if sev = 0 then d.orReg Reg.ERR_STAT 4 else if sev = 1 then d.orReg Reg.ERR_STAT 2 else d

/-- Write the log entry, or drop it when the log is full (R486). -/
def Dev.writeLog (d : Dev) (code sev : Nat) (e : ErrAt) : Dev :=
  let wr := d.regN Reg.ERR_LOG_WR
  if (d.reg Reg.ERR_LOG_WR - d.reg Reg.ERR_LOG_RD).toNat = 1024 then
    { (d.incReg Reg.ERR_LOST 1).orReg Reg.ERR_STAT 8 with dropPend := true }
  else
    let flags := sev + 4 * b2n d.dropPend + (match e.tenant with | some t => 8 + 16 * (t % 8) | none => 0)
    let entry : LogEntry :=
      { code := code, flags := flags, node := e.node, seq := wr, tick := d.tick.count,
        timeUs := d.timeUs % 2 ^ 32, frag := e.frag, session := e.session, detail := e.detail }
    let d := { d with log := tabSet (fun _ => LogEntry.zero) d.log (wr % 1024) entry, dropPend := false }
    let d := d.setReg Reg.ERR_LOG_WR (w32 (wr + 1))
    let ien := d.reg Reg.ERR_IEN
    if bit ien 0 && decide (min (fld ien 1 2) 2 ≤ sev) then d.msi 8 0 (fld ien 16 11) else d

/-- Log an error of a given severity, with no other effect. -/
def Dev.logSev (d : Dev) (code sev : Nat) (e : ErrAt) : Dev := (d.countErr code sev).writeLog code sev e

/-- Log an error of corrected severity (or any whose other effects the caller makes). -/
def Dev.logC (d : Dev) (code node : Nat) : Dev := d.logSev code (sevOf code) (atNode node)

/-- Withdraw the present tick for a tenant's stand (R26, R483). -/
def Dev.withdraw (d : Dev) (tenant : Option Nat) : Dev :=
  match tenant with
  | some t =>
    let w := if d.tick.withdrawn.contains t then d.tick.withdrawn else d.tick.withdrawn ++ [t]
    { d with tick := { d.tick with withdrawn := w } }
  | none => d

/-- Log a contained error: it withdraws the tick for its stand (R480, R483); LINK_TARGET_BAD sets its bit of HT_STAT (R321, Table 13-7). -/
def Dev.logS (d : Dev) (code : Nat) (e : ErrAt) : Dev :=
  ((if code = 0x6009 then d.orReg Reg.HT_STAT 0x40 else d).logSev code 1 e).withdraw e.tenant

/-- Log an error of corrected severity about a tenant's own work or resource: STAND names it. -/
def Dev.logT (d : Dev) (code node tenant : Nat) : Dev := d.logSev code (sevOf code) { atNode node with tenant := some (tenant % 8) }

/-- Whether a rate-limited event is the first of its kind in this tick, which it then marks. -/
def Dev.once (d : Dev) (key : Nat × Nat) : Bool × Dev :=
  if d.tick.onced.contains key then (false, d)
  else (true, { d with tick := { d.tick with onced := d.tick.onced ++ [key] } })

/-- Log a corrected error at most once per tick and number. -/
def Dev.logOnce (d : Dev) (code n node : Nat) : Dev :=
  let (f, d) := d.once (code, n)
  if f then d.logC code node else d

/-- A corrected event of an array (R485): counted, and logged at most once per tick. -/
def Dev.sramCe (d : Dev) (node : Nat) : Dev := (d.incReg Reg.ERR_SRAM_CE 1).logOnce 0x1010 0 node

end Sys2Proof.Machine
end

