-- ==== Sys2Proof/Machine/Flit.lean ====
section
/-! DEFINITION. Canopy flits: the route tag (Table 7-3), the checks of R171, the routes of R176 and the firebreak of R183. -/

namespace Sys2Proof.Machine

/-- Fields of a route tag (Table 7-3). -/
def tagDx (t : Tag) : Nat := fld t 92 4
def tagDy (t : Tag) : Nat := fld t 88 4
def tagSx (t : Tag) : Nat := fld t 84 4
def tagSy (t : Tag) : Nat := fld t 80 4
def tagCls (t : Tag) : Nat := fld t 78 2
def tagTy (t : Tag) : Nat := fld t 74 4
def tagTenant (t : Tag) : Nat := fld t 71 3
def tagLast (t : Tag) : Bool := bit t 70
def tagMc (t : Tag) : Nat := fld t 68 2
def tagMend (t : Tag) : Nat := fld t 64 4
def tagTxid (t : Tag) : Nat := fld t 56 8
def tagCen (t : Tag) : Bool := bit t 55
def tagCidx (t : Tag) : Nat := fld t 44 11
def tagPoison (t : Tag) : Bool := bit t 43
def tagAddr (t : Tag) : Nat := fld t 0 32

/-- Flit types (Table 7-4). -/
abbrev tyWR : Nat := 0
abbrev tyWRZ : Nat := 1
abbrev tyRD : Nat := 2
abbrev tyCMD : Nat := 3
abbrev tyRDATA : Nat := 4
abbrev tyWACK : Nat := 5
abbrev tyERR : Nat := 6
abbrev tyCADD : Nat := 8
abbrev tyCSET : Nat := 9
abbrev tyBARR : Nat := 10
abbrev tyBREL : Nat := 11

/-- The class that a type travels in (Table 7-4): 0 RSP, 1 SYNC, 2 REQ. -/
def clsOf (ty : Nat) : Nat := if ty < 4 then 2 else if ty < 8 then 0 else 1

/-- A node by its coordinates. -/
structure Node where
  x : Nat
  y : Nat
  deriving DecidableEq, Repr

/-- The node of a tile. -/
def tileNode (t : Nat) : Node := ⟨tileX t, tileY t⟩

/-- Build a unicast tag. -/
def mkTag (src dst : Node) (ty tenant : Nat) (last : Bool) (txid : Nat) (cen : Bool) (cidx addr : Nat) : Tag :=
  BitVec.ofNat 96 (dst.x * 2 ^ 92 + dst.y * 2 ^ 88 + src.x * 2 ^ 84 + src.y * 2 ^ 80 + clsOf ty * 2 ^ 78 + ty * 2 ^ 74
    + tenant % 8 * 2 ^ 71 + b2n last * 2 ^ 70 + txid % 256 * 2 ^ 56 + b2n cen * 2 ^ 55 + cidx % 2048 * 2 ^ 44
    + addr % 2 ^ 32)

/-- Make a tag a row (mc 1) or column (mc 2) multicast from the range's lowest position, which its DX or DY already holds, to
`mend` (R179). -/
def tagMcast (t : Tag) (mc mend : Nat) : Tag := BitVec.ofNat 96 (t.toNat + mc * 2 ^ 68 + mend * 2 ^ 64)

/-- The same tag with POISON set (R184). -/
def tagSetPoison (t : Tag) : Tag := if tagPoison t then t else BitVec.ofNat 96 (t.toNat + 2 ^ 43)

/-- Whether a node exists at a position (R168). -/
def nodeExists (x y : Nat) : Bool :=
  (decide (1 ≤ y ∧ y ≤ 8 ∧ x ≤ 9)) || (decide (y = 0) && [2, 3, 6, 7].contains x) || decide (y = 9 ∧ 1 ≤ x ∧ x ≤ 8)

/-- Whether a tag violates R171. For a multicast every position of the range must be a tile (R181). -/
def tagBad (t : Tag) : Bool :=
  let ty := tagTy t
  let mc := tagMc t
  decide (ty = 7 ∨ 11 < ty) || decide (tagCls t ≠ clsOf ty) || decide (mc = 3) || decide (fld t 32 11 ≠ 0) ||
  (decide (mc = 0) && decide (tagMend t ≠ 0)) ||
  (if mc = 1 then !(isTile (tagDx t) (tagSy t) && isTile (tagMend t) (tagSy t) && decide (tagDx t ≤ tagMend t))
   else if mc = 2 then !(isTile (tagSx t) (tagDy t) && isTile (tagSx t) (tagMend t) && decide (tagDy t ≤ tagMend t))
   else !nodeExists (tagDx t) (tagDy t))

/-- The positions from `a` to `b` along one axis, in order, without the first. -/
def walk (a b : Nat) : List Nat :=
  if a ≤ b then (List.range (b - a)).map (· + a + 1) else (List.range (a - b)).map (fun i => a - 1 - i)

/-- The mesh nodes that a flit visits from a node to a destination, both included where they are on the mesh (R176). A south unit's flit enters
the mesh at the west node of the row that its destination fixes, row 0 unless that is a row of the mesh. -/
def route (s e : Node) : List Node :=
  let start : Node := if s.y = 0 then ⟨s.x, 1⟩ else if s.y = 9 then ⟨0, if 1 ≤ e.y ∧ e.y ≤ 8 then e.y else 1⟩ else s
  let turn : Nat := if e.y = 9 then 0 else e.x
  let endY : Nat := if e.y = 9 then start.y else if e.y = 0 then 1 else e.y
  [start] ++ (walk start.x turn).map (fun x => ⟨x, start.y⟩) ++ (walk start.y endY).map (fun y => ⟨turn, y⟩)

/-- The first router of a route that refuses a tenant's flit (R183): the router's row is another tenant's, or the next link is
closed (R182). -/
def refuseAt (d : Dev) (tenant : Nat) (toNorth fromNorth : Bool) : List Node → Option Node
  | [] => none
  | [n] => if d.rowTenant (n.y - 1) ≠ tenant then some n else if (toNorth || fromNorth) && d.multi then some n else none
  | n :: m :: rest =>
    if d.rowTenant (n.y - 1) ≠ tenant then some n
    else if fromNorth && d.multi then some n
    else if n.y ≠ m.y && decide (d.rowTenant (n.y - 1) ≠ d.rowTenant (m.y - 1)) then some n
    else refuseAt d tenant toNorth false (m :: rest)

/-- Where a flit on its way to a destination is refused, if anywhere. -/
def flitRefused (d : Dev) (t : Tag) (dst : Node) : Option Node :=
  refuseAt d (tagTenant t) (decide (dst.y = 0)) (decide (tagSy t = 0)) (route ⟨tagSx t, tagSy t⟩ dst)

/-! ## Buffers, credits and grants (R173, R175 to R177, R179) -/

/-- The port of a node by which the next one is reached: 0 north, 1 east, 2 south, 3 west (Table 7-11). -/
def portTo (n m : Node) : Nat := if m.y < n.y then 0 else if n.x < m.x then 1 else if n.y < m.y then 2 else 3

/-- How many flits of a class a buffer holds (Table 7-5). -/
def Stn.depth (s : Stn) (cls : Nat) : Nat :=
  if 5 ≤ s.port then 4 else if isTile s.x s.y then (if cls = 1 then 4 else 8) else if cls = 1 then 8 else 16

/-- The buffers that a flit enters along the nodes of a way, after the first. -/
def stnsOf : List Node → List Stn
  | n :: m :: rest => ⟨m.x, m.y, portTo m n⟩ :: stnsOf (m :: rest)
  | _ => []

/-- The nodes of a way up to one of them. -/
def upTo (n : Node) : List Node → List Node
  | [] => []
  | m :: ms => if m = n then [m] else m :: upTo n ms

/-- The buffers of a flit's way from its source to a destination, or to the router that refuses it (R176, R183). -/
def Dev.wayFor (d : Dev) (t : Tag) (dst : Node) : List Stn :=
  let src : Node := ⟨tagSx t, tagSy t⟩
  let ws := route src dst
  let first : Node := ws.headD src
  let enter : List Stn := if isTile src.x src.y then [⟨src.x, src.y, 4⟩]
    else if src.y = 9 then [⟨0, first.y, 7⟩, ⟨0, first.y, 8⟩]
    else if src.y = 0 then [⟨first.x, first.y, 0⟩] else []
  let leave : List Stn := if dst.y = 0 then [⟨dst.x, 0, 2⟩] else if dst.y = 9 then [⟨0, first.y, 5⟩, ⟨0, first.y, 6⟩] else []
  if tagBad t then enter
  else match flitRefused d t dst with
    | some n => enter ++ stnsOf (upTo n ws)
    | none => enter ++ stnsOf ws ++ leave

/-- The flits that a buffer holds of a class: the copies of one flit take one place until the last of them has left (R179). -/
def heldAt (fl : List InFlit) (s : Stn) (cls : Nat) : List Nat :=
  ((fl.filter (fun e => decide (e.here = some s ∧ tagCls e.tag = cls))).map (·.fid)).eraseDups

/-- Whether two copies wait in one queue: of one class in one buffer, or at one sender. -/
def sameQueue (e f : InFlit) : Bool :=
  decide (e.here = f.here ∧ tagCls e.tag = tagCls f.tag) &&
  (e.here.isSome || decide (tagSx e.tag = tagSx f.tag ∧ tagSy e.tag = tagSy f.tag))

/-- Whether a copy's flit is first in its queue. -/
def headOf (fl : List InFlit) (e : InFlit) : Bool := (fl.find? (sameQueue e)).any (fun f => decide (f.fid = e.fid))

/-- Whether a copy can enter the next buffer of its way now: it is first in its queue and holds a credit (R173). -/
def canHop (fl : List InFlit) (e : InFlit) : Bool :=
  match e.way with
  | s :: _ => headOf fl e && decide ((heldAt fl s (tagCls e.tag)).length < s.depth (tagCls e.tag))
  | [] => false

/-- The output (x, y, port) by which a copy leaves the node it is at. -/
def InFlit.output (e : InFlit) : Option (Nat × Nat × Nat) :=
  match e.here, e.way with
  | some h, s :: _ => some (h.x, h.y, portTo ⟨h.x, h.y⟩ ⟨s.x, s.y⟩)
  | _, _ => none

/-- The input port by which a copy competes for its output; 9 at the unit that sends it. -/
def InFlit.input (e : InFlit) : Nat := match e.here with | some h => h.port | none => 9

/-- The order in which waiting copies are granted: an output that owes a REQ flit its grant, then RSP, SYNC, REQ (R175). -/
def FabSt.rank (f : FabSt) (e : InFlit) : Nat :=
  if tagCls e.tag = 2 ∧ e.output.any (fun o => f.reqNext.contains o) then 0 else tagCls e.tag + 1

/-- Whether a copy is about to cross the Trail at a row, and if so which way (R177). -/
def InFlit.crossing (e : InFlit) : Option (Nat × Bool) :=
  match e.here, e.way with
  | some h, s :: _ => if 5 ≤ h.port ∧ 5 ≤ s.port then some (h.y, decide (h.port = 7)) else none
  | _, _ => none

/-- The copy that is granted next, if any can move: the highest rank; of the inputs of one output in turn (R175), of the two directions of a
Trail slot the one that did not go last (R177). -/
def FabSt.grant (f : FabSt) : Option InFlit :=
  let cs := f.inflight.filter (canHop f.inflight)
  match ([0, 1, 2, 3].flatMap (fun r => cs.filter (fun e => decide (f.rank e = r)))).head? with
  | none => none
  | some e =>
    let rivals := cs.filter (fun g => decide (f.rank g = f.rank e ∧ tagCls g.tag = tagCls e.tag))
    match e.crossing with
    | some (row, up) =>
      let last := f.trailUp.getD (row - 1) false
      if up = last then some ((rivals.find? (fun g => decide (g.crossing = some (row, !last)))).getD e) else some e
    | none =>
      let s := e.way.headD ⟨0, 0, 0⟩
      let last := ((f.granted.find? (fun g => decide (g.1 = s ∧ g.2.1 = tagCls e.tag))).map (·.2.2)).getD 9
      let mine := rivals.filter (fun g => decide (g.way.head? = some s))
      some (((List.range 10).findSome? (fun i => mine.find? (fun (g : InFlit) => decide (g.input = (last + 1 + i) % 10)))).getD e)

/-- Move a granted copy, with the other copies of its flit that go the same way, into the next buffer; they go last in its queue. -/
def FabSt.hop (f : FabSt) (e : InFlit) : FabSt :=
  let s := e.way.headD ⟨0, 0, 0⟩
  let goes := fun (g : InFlit) => decide (g.fid = e.fid ∧ g.here = e.here ∧ g.way.head? = some s)
  { f with
    inflight := f.inflight.filter (fun g => !goes g) ++
      (f.inflight.filter goes).map (fun g => { g with here := some s, way := g.way.tail })
    reqNext := if tagCls e.tag = 2 then f.reqNext.filter (fun o => decide (e.output ≠ some o)) else f.reqNext
    granted := f.granted.filter (fun g => !(decide (g.1 = s ∧ g.2.1 = tagCls e.tag))) ++ [(s, tagCls e.tag, e.input)]
    trailUp := match e.crossing with | some (row, up) => setAt f.trailUp (row - 1) up | none => f.trailUp }

/-- Let the flits go on, at most `n` times. -/
def FabSt.flow (f : FabSt) : Nat → FabSt
  | 0 => f
  | n + 1 => match f.grant with
    | some e => (f.hop e).flow n
    | none => f

/-- Let every flit go as far as the buffers ahead of it have room. -/
def Dev.flow (d : Dev) : Dev :=
  { d with fab := d.fab.flow ((d.fab.inflight.map (fun e => e.way.length)).foldl (· + ·) 0) }

/-- Put the copies of a flit in flight, one for each destination; it enters the fabric once it holds a credit. -/
def Dev.injectTo (d : Dev) (t : Tag) (pay : Line) (why peer : Nat) (ds : List Node) : Dev :=
  ({ d with fab := { d.fab with nextFid := d.fab.nextFid + 1, inflight := d.fab.inflight ++ ds.map (fun n =>
      { tag := t, pay := pay, dx := n.x, dy := n.y, why := why, fid := d.fab.nextFid, here := none, way := d.wayFor t n, peer := peer }) } } :
    Dev).flow

/-- Put a flit in flight towards a destination. -/
def Dev.inject (d : Dev) (t : Tag) (pay : Line) (dst : Node) : Dev := d.injectTo t pay 0 0 [dst]

/-- Put a poisoned answer in flight for an error that its sender has logged (R184, R257, R258). -/
def Dev.injectBad (d : Dev) (t : Tag) (code : Nat) : Dev := d.injectTo (tagSetPoison t) 0 code 0 [⟨tagDx t, tagDy t⟩]

/-- Put a unicast flit in flight. -/
def Dev.send (d : Dev) (t : Tag) (pay : Line) : Dev := d.inject t pay ⟨tagDx t, tagDy t⟩

/-! ## The way of a flit (R176, R179) -/

/-- The mesh nodes of a way, with the north nodes at its ends (Table 7-2). -/
def wayOf (s e : Node) : List Node :=
  (if s.y = 0 then [s] else []) ++ route s e ++ (if e.y = 0 then [e] else [])

/-- The links of a way: each node but the last with the node that follows it. -/
def linksOf : List Node → List (Node × Node)
  | n :: m :: rest => (n, m) :: linksOf (m :: rest)
  | _ => []

/-- Whether this copy of a multicast is the one that pays for the way to the range: no other destination lies nearer the source. -/
def mcNearest (t : Tag) (dst : Node) : Bool :=
  let pos := if tagMc t = 1 then dst.x else dst.y
  let src := if tagMc t = 1 then tagSx t else tagSy t
  let lo := if tagMc t = 1 then tagDx t else tagDy t
  decide (tagMc t = 0) || decide (pos = clampN lo (tagMend t) src)

/-- The links that a copy adds to a multicast's tree, each crossed once (R179). -/
def ownLinks (t : Tag) (dst : Node) (ws : List Node) : List (Node × Node) :=
  let ls := linksOf ws
  if mcNearest t dst then ls else ls.drop (ls.length - 1)

/-- How often a flit passes the port that CN_PERF_SEL selects (Table 7-11): each end of a link it crosses, its injection and its
ejection. -/
def portHits (sel : Word) (t : Tag) (dst : Node) (ws : List Node) (arrives : Bool) : Nat :=
  let at_ : Node := ⟨fld sel 4 4, fld sel 0 4⟩
  let p := fld sel 8 3
  let cls := bit sel 14 || decide (fld sel 12 2 = tagCls t)
  let ls := ownLinks t dst ws
  let n := (ls.filter (fun l => (decide (l.1 = at_) && decide (portTo l.1 l.2 = p)) ||
      (decide (l.2 = at_) && decide (portTo l.2 l.1 = p)))).length
  let inj := if p = 4 ∧ at_ = ⟨tagSx t, tagSy t⟩ ∧ mcNearest t dst then 1 else 0
  let ej := if p = 5 ∧ at_ = dst ∧ arrives then 1 else 0
  if cls then n + inj + ej else 0

/-- The Trail slot that a flit crosses, if any (R176): towards a south node that of its source's row, from one that of its destination's. -/
def trailSlot (t : Tag) (dst : Node) : Option Nat :=
  if dst.y = 9 then (if tagSy t = 9 then none else some (tagSy t - 1))
  else if tagSy t = 9 then some (if dst.y = 0 then 0 else dst.y - 1) else none

/-- Count the passage of `n` flits of a tag along a way (Table 7-11): at the selected port, and in the Trail slot that they cross. -/
def Dev.countWay (d : Dev) (t : Tag) (dst : Node) (ws : List Node) (arrives : Bool) (n : Nat) : Dev :=
  let d := d.incReg Reg.CN_PERF_CNT (n * portHits (d.reg Reg.CN_PERF_SEL) t dst ws arrives)
  match trailSlot t dst with
  | some k => if arrives ∨ tagSy t = 9 then d.incReg (Reg.CN_TRAIL_CNT k) n else d
  | none => d

/-- The passage of `n` flits between two units whose transfer a command carries whole (R11, R13, R178). -/
def Dev.traffic (d : Dev) (src dst : Node) (ty n : Nat) : Dev :=
  d.countWay (mkTag src dst ty 0 true 0 false 0 0) dst (wayOf src dst) true n

/-- The destinations of a tag: one for a unicast, every position of the range for a multicast (R179, R180). -/
def tagDests (t : Tag) : List Node :=
  if tagMc t = 1 then (List.range (tagMend t + 1 - tagDx t)).map (fun i => ⟨tagDx t + i, tagSy t⟩)
  else if tagMc t = 2 then (List.range (tagMend t + 1 - tagDy t)).map (fun i => ⟨tagSx t, tagDy t + i⟩)
  else [⟨tagDx t, tagDy t⟩]

/-- Put a flit in flight to each of its destinations. -/
def Dev.sendAll (d : Dev) (t : Tag) (pay : Line) : Dev := d.injectTo t pay 0 0 (tagDests t)

/-- The payload of a WACK or ERR: the refused bit and the code (Table 7-4). -/
def wackPay (refused : Bool) (code : Nat) : Line := BitVec.ofNat 512 (b2n refused + code * 2 ^ 16)

/-- The payload of an ERR: the code and the refused flit's tag in bytes 4 to 15. -/
def errPay (code : Nat) (t : Tag) : Line := BitVec.ofNat 512 (code * 2 ^ 16 + t.toNat * 2 ^ 32)

/-- Answer a write with its WACK (R172). -/
def Dev.wack (d : Dev) (at_ : Node) (t : Tag) (refused : Bool) (code : Nat) : Dev :=
  d.send (mkTag at_ ⟨tagSx t, tagSy t⟩ tyWACK (tagTenant t) true (tagTxid t) false 0 0) (wackPay refused code)

/-- Answer a flit with an ERR (R183). -/
def Dev.errTo (d : Dev) (at_ : Node) (t : Tag) (code : Nat) : Dev :=
  d.send (mkTag at_ ⟨tagSx t, tagSy t⟩ tyERR (tagTenant t) true (tagTxid t) false 0 0) (errPay code t)

/-- The bytes of a line. -/
def lineBytes (l : Line) : List Byte := leBytes 64 l.toNat

/-- A line from bytes. -/
def bytesLine (bs : List Byte) : Line := BitVec.ofNat 512 (leNat bs)

/-- Capture the tag of a refused or bad flit, the first since CN_STAT [4:3] were both clear (Table 7-11). -/
def Dev.capTag (d : Dev) (t : Tag) (at_ : Node) : Dev :=
  if fld (d.reg Reg.CN_STAT) 3 2 ≠ 0 then d
  else
    let d := d.setReg Reg.CN_CAP_TAG0 (w32 (fld t 64 32))
    let d := d.setReg Reg.CN_CAP_TAG1 (w32 (fld t 32 32))
    let d := d.setReg Reg.CN_CAP_TAG2 (w32 (fld t 0 32))
    d.setReg Reg.CN_CAP_NODE (w32 (0x80000000 + at_.x * 16 + at_.y))

/-- Whether a flit may be taken now: a copy in flight has come to the end of its way and is first in its buffer; a flit from outside has no
earlier one of its source, destination and class ahead of it (R34). -/
def mayLand (fl : List InFlit) (f : InFlit) : Bool :=
  if fl.contains f then f.way.isEmpty && headOf fl f
  else !(fl.any (fun e => decide (tagSx e.tag = tagSx f.tag ∧ tagSy e.tag = tagSy f.tag ∧ tagCls e.tag = tagCls f.tag ∧ e.dx = f.dx ∧
    e.dy = f.dy)))

/-- Whether a node can put a flit of a class into the fabric at once: nothing of it waits there and its first buffer has room. -/
def Dev.canInject (d : Dev) (n : Node) (cls : Nat) : Bool :=
  !(d.fab.inflight.any (fun e => decide (e.here = none ∧ tagSx e.tag = n.x ∧ tagSy e.tag = n.y ∧ tagCls e.tag = cls))) &&
  decide ((heldAt d.fab.inflight ⟨n.x, n.y, 4⟩ cls).length < (⟨n.x, n.y, 4⟩ : Stn).depth cls)

end Sys2Proof.Machine
end

