-- ==== Sys2Proof/Machine/LinkOps.lean ====
section
/-! DEFINITION. Operations over the Hertia channels and ports that several commands share: fencing a channel (R315), losing a
port (R327), and sending packets. -/

namespace Sys2Proof.Machine

/-- The north node of a port (Table 13-1). -/
def portNode (p : Nat) : Node := ⟨[2, 3, 6, 7].getD p 2, 0⟩

/-- This chip's ID. -/
def Dev.chipId (d : Dev) : Nat := fld (d.reg Reg.HT_CHIP) 0 4

/-- Whether this chip is a relay (R325). -/
def Dev.relay (d : Dev) : Bool := bit (d.reg Reg.HT_CHIP) 4

/-- Width and height of the system in chips (R317). -/
def Dev.topoW (d : Dev) : Nat := fld (d.reg Reg.HT_TOPO) 0 2 + 1
def Dev.topoH (d : Dev) : Nat := fld (d.reg Reg.HT_TOPO) 2 2 + 1

/-- The key of a channel end: kind 0 unicast, 1 row, 2 column; end 0 source, 1 destination (R313). -/
def chanKey (kind end_ cls peer : Nat) : Nat := ((kind * 2 + end_) * 4 + cls) * 16 + peer

/-- A channel end. -/
def Dev.chan (d : Dev) (k : Nat) : Chan := tabGet (fun _ => Chan.closed) d.lk.chans k

/-- Store a channel end. -/
def Dev.setChan (d : Dev) (k : Nat) (c : Chan) : Dev :=
  { d with lk := { d.lk with chans := tabSet (fun _ => Chan.closed) d.lk.chans k c } }

/-- A port. -/
def Dev.port (d : Dev) (p : Nat) : LPort := d.lk.ports.getD p LPort.reset

/-- Store a port. -/
def Dev.setPort (d : Dev) (p : Nat) (x : LPort) : Dev := { d with lk := { d.lk with ports := setAt d.lk.ports p x } }

/-- The port by which packets for a chip leave; 7 is none (R318). -/
def Dev.routeTo (d : Dev) (chip : Nat) : Nat := d.lk.route.getD chip 7

/-- The compute chips of this chip's row (mc 1) or column (mc 2), less itself and the relays (R322). -/
def Dev.mcMembers (d : Dev) (mc : Nat) : List Nat :=
  let me := d.chipId
  let w := d.topoW
  ((List.range (w * d.topoH)).filter (fun c =>
    (if mc = 1 then decide (c / w = me / w) else decide (c % w = me % w)) && decide (c ≠ me) &&
    !(bit (d.reg Reg.HT_ROLES) c)))

/-- The ports that a channel's packets leave by. -/
def Dev.chanPorts (d : Dev) (kind peer : Nat) : List Nat :=
  if kind = 0 then [d.routeTo peer] else (d.mcMembers kind).map d.routeTo

/-! ## Flits as bytes (R3, R307) -/

/-- The 8 header bytes of a flit, as a little-endian number (Table 13-3). -/
def LFlit.header (f : LFlit) : Nat :=
  f.ty + f.vc * 2 ^ 4 + f.start * 2 ^ 8 + f.lseq * 2 ^ 16 + f.ack * 2 ^ 28 + f.cvc * 2 ^ 40 + f.cred * 2 ^ 43

/-- Bytes 0 to 123 of a flit, which its CRC covers. -/
def LFlit.body (f : LFlit) : List Byte := leBytes 8 f.header ++ f.pay

/-- The 128 bytes of a flit. -/
def LFlit.bytes (f : LFlit) : List Byte := f.body ++ leBytes 4 (crc32 f.body)

/-- The flit that 128 bytes with a good CRC are. -/
def flitOf (bs : List Byte) : Option LFlit :=
  if bs.length = 128 ∧ crc32 (bs.take 124) = leNat (bs.drop 124) then
    let h := leNat (bs.take 8)
    some { ty := fldN h 0 4, vc := fldN h 4 3, start := fldN h 8 7, lseq := fldN h 16 12, ack := fldN h 28 12, cvc := fldN h 40 3,
           cred := fldN h 43 7, pay := (bs.drop 8).take 116, due := 0 }
  else none

/-- Direction of a port: 0 X−, 1 X+, 2 Y−, 3 Y+ (R319). -/
def Dev.portDir (d : Dev) (p : Nat) : Nat := fld (d.reg (Reg.HT_PORT_CFG p)) 1 2

/-- Whether leaving by a port crosses a wrap of a torus (R317, R319). -/
def Dev.wraps (d : Dev) (p : Nat) : Bool :=
  let topo := d.reg Reg.HT_TOPO
  let cx := d.chipId % d.topoW
  let cy := d.chipId / d.topoW
  match d.portDir p with
  | 0 => bit topo 4 && decide (3 ≤ d.topoW) && decide (cx = 0)
  | 1 => bit topo 4 && decide (3 ≤ d.topoW) && decide (cx + 1 = d.topoW)
  | 2 => bit topo 5 && decide (3 ≤ d.topoH) && decide (cy = 0)
  | _ => bit topo 5 && decide (3 ≤ d.topoH) && decide (cy + 1 = d.topoH)

/-- The dateline bit of a packet that leaves by port `p`, having arrived by port `q` (4: injected here) with bit `b` (R319). -/
def Dev.dateline (d : Dev) (p q b : Nat) : Nat :=
  if d.wraps p then 1 else if q < 4 ∧ d.portDir q / 2 ≠ d.portDir p / 2 then 0 else b

/-- The class whose VC a packet travels in: EACK and UNDELIV in RSP, FINISH in SYNC (R311). -/
def pktCls (k : Pkt) : Nat := if k.kind = 1 ∨ k.kind = 2 then 0 else if k.kind = 3 then 1 else k.cls

/-- The 8 header bytes of a packet (Table 13-4). -/
def pktHeader (k : Pkt) : Nat :=
  k.dchip + k.schip * 2 ^ 4 + k.kind * 2 ^ 8 + k.cls * 2 ^ 11 + k.mc * 2 ^ 14 + k.epoch * 2 ^ 18 + k.nlines * 2 ^ 22
    + k.seq * 2 ^ 32

/-- A packet as bytes (R311). -/
def pktBytes (k : Pkt) : List Byte := leBytes 8 (pktHeader k) ++ k.body

/-- The body length of a packet (R311): for LINES the tag and NLINES + 1 lines of a WR or RDATA, or 16 bytes. -/
def pktBodyLen (kind nlines ty : Nat) : Nat :=
  if kind = 0 then (if ty = tyWR ∨ ty = tyRDATA then 12 + 64 * (nlines + 1) else 28) else if kind = 2 then 12 else 0

/-! ## A port's transmitter (R307 to R310) -/

/-- Whether a flit type uses a link sequence number and the replay buffer: DATA, TICK and NOTICE (Table 13-3, R309). -/
def usesSeq (ty : Nat) : Bool := decide (ty = 1 ∨ ty = 2 ∨ ty = 3)

/-- Hand a flit to a port's transmitter (R309): DATA, TICK and NOTICE flits take the next LSEQ and stay in the replay buffer;
every flit carries the ACK and the credits owed for one VC. -/
def portSend (x : LPort) (now ty vc start due : Nat) (pay : List Byte) : LPort :=
  let cv := ((List.range 6).find? (fun v => decide (0 < x.owe.getD v 0))).getD 0
  let n := min (x.owe.getD cv 0) 127
  let f : LFlit := { ty := ty, vc := vc, start := start, lseq := x.txSeq, ack := (x.rxSeq + 4095) % 4096, cvc := cv,
                     cred := n, pay := pay, due := due }
  let x := { x with owe := setAt x.owe cv (x.owe.getD cv 0 - n), ackOut := false, sent := x.sent ++ [f] }
  if usesSeq ty then
    { x with txSeq := (x.txSeq + 1) % 4096, replay := x.replay ++ [f],
             ackNs := if x.replay.isEmpty then now else x.ackNs }
  else x

/-- The payload of a TICK flit (R330). -/
def tickPay (num rem : Nat) (pol : Bool) (per pct : Nat) : List Byte :=
  leBytes 4 num ++ leBytes 3 rem ++ [BitVec.ofNat 8 (b2n pol)] ++ leBytes 2 per ++ leBytes 1 pct ++ List.replicate 105 0

/-- Send a TICK flit, with the time that remains to its edge, or a NOTICE (R328, R330). -/
def LPort.sendCtl (x : LPort) (now : Nat) : LCtl → LPort
  | .tick num due pol per pct => portSend x now 2 0 0 due (tickPay num (due - now * 16) pol per pct)
  | .notice lost by_ => portSend x now 3 0 0 0 (leBytes 1 lost ++ leBytes 1 by_ ++ List.replicate 114 0)

/-- The VC of a queued packet (Table 13-3). -/
def PortPkt.lane (e : PortPkt) : Nat := 2 * pktCls e.pkt + e.d

/-- Fill a flit's payload from byte `at_` with the packets of a VC, one after another: the bytes, where the first packet begins (127: none does), the
packets that leave whole, and those that stay, the first perhaps in part (R307). -/
def fillFlit : List PortPkt → Nat → List Byte × Nat × List PortPkt × List PortPkt
  | [], _ => ([], 127, [], [])
  | q :: qs, at_ =>
    let bs := (pktBytes q.pkt).drop q.off
    let room := 116 - at_
    if bs.length ≤ room then
      let (pay, start, gone, left) := fillFlit qs (at_ + bs.length)
      (bs ++ pay, if q.off = 0 then at_ else start, q :: gone, left)
    else (bs.take room, if q.off = 0 ∧ 0 < room then at_ else 127, [], { q with off := q.off + room } :: qs)

/-- The VCs in the order in which they may take the next slot: in class priority RSP, SYNC, REQ, but REQ first when it has waited 16 slots (R308). -/
def LPort.lanes (x : LPort) : List Nat := if 16 ≤ x.reqWait then [4, 5, 0, 1, 2, 3] else [0, 1, 2, 3, 4, 5]

/-- What a port sends in its next slot, if anything: a TICK or NOTICE, else a DATA flit of a VC that holds a credit; nothing while 256 flits are
unacknowledged (R308, R309). With it the packets that have left whole. -/
def LPort.slot (x : LPort) (now : Nat) : Option (LPort × List PortPkt) :=
  let late := if x.outq.any (fun e => decide (pktCls e.pkt = 2)) then x.reqWait + 1 else 0
  if 256 ≤ x.replay.length then none
  else match x.ctl with
    | c :: cs => some (({ x with ctl := cs, reqWait := late } : LPort).sendCtl now c, [])
    | [] =>
      match x.lanes.find? (fun vc => decide (0 < x.credits.getD vc 0) && x.outq.any (fun e => decide (e.lane = vc))) with
      | none => none
      | some vc =>
        let (pay, start, gone, left) := fillFlit (x.outq.filter (fun e => decide (e.lane = vc))) 0
        let x := { x with outq := x.outq.filter (fun e => decide (e.lane ≠ vc)) ++ left,
                          credits := setAt x.credits vc (x.credits.getD vc 0 - 1), reqWait := if 4 ≤ vc then 0 else late }
        some (portSend x now 1 vc start 0 (pay ++ List.replicate (116 - pay.length) 0), gone)

/-- Send for at most `n` slots. -/
def LPort.slots (now : Nat) : Nat → LPort → LPort × List PortPkt
  | 0, x => (x, [])
  | n + 1, x => match x.slot now with
    | none => (x, [])
    | some (x, gone) => let (x, more) := LPort.slots now n x; (x, gone ++ more)

/-- Send IDLE flits for the ACK and the credits that no other flit has carried (R309, R310). -/
def LPort.tell (now : Nat) : Nat → LPort → LPort
  | 0, x => x
  | n + 1, x => if x.up && (x.ackOut || x.owe.any (fun c => decide (0 < c))) then
      LPort.tell now n (portSend x now 0 0 0 0 (List.replicate 116 0)) else x

/-- Let every port tell what it owes its peer. -/
def Dev.tellAll (d : Dev) : Dev :=
  (List.range 4).foldl (fun d p => d.setPort p (LPort.tell d.nowNs 7 (d.port p))) d

/-- Places of a VC of an input port are free again: their credits are owed to the peer (R308). -/
def Dev.giveBack (d : Dev) (q vc n : Nat) : Dev :=
  if q < 4 ∧ (d.port q).up then
    d.setPort q { d.port q with owe := setAt (d.port q).owe vc ((d.port q).owe.getD vc 0 + n) }
  else d

/-- Send what a port can send, and return the places of what has left (R308). -/
def Dev.pump (d : Dev) (p : Nat) : Dev :=
  if (d.port p).up then
    let (x, gone) := LPort.slots d.nowNs 256 (d.port p)
    (gone.foldl (fun d e => d.giveBack e.from_ e.vc e.free) (d.setPort p x)).tellAll
  else d

/-- Queue a packet, arrived by port `q` on a VC with places to free, at port `p`, which is up, and send it. -/
def Dev.queueAt (d : Dev) (k : Pkt) (p q vc free : Nat) : Dev :=
  let x := d.port p
  let e : PortPkt := { d := d.dateline p q (vc % 2), pkt := k, from_ := q, vc := vc, free := free, off := 0 }
  (d.setPort p { x with outq := x.outq ++ [e] }).pump p

/-! ## Fencing, and packets that no port takes (R315, R318, R327) -/

/-- Answer an outstanding request as failed (R315): a write draws a WACK with the refused bit set, any other an ERR. -/
def Dev.failReq (d : Dev) (p code : Nat) (t : Tag) : Dev :=
  if tagTy t = tyWR ∨ tagTy t = tyWRZ then d.wack (portNode p) t true code else d.errTo (portNode p) t code

/-- Mark what is being packed for a channel as lost (R315). -/
def Dev.losePacks (d : Dev) (kind cls peer : Nat) : Dev :=
  { d with lk := { d.lk with packs := d.lk.packs.map (fun k =>
      if k.kind = kind ∧ tagCls k.first = cls ∧ (kind ≠ 0 ∨ k.peer = peer) then { k with lines := [], lost := true } else k) } }

/-- Fence a channel at its source: every outstanding request fails with the code, those of packets that wait too (R315). -/
def Dev.fenceSrc (d : Dev) (kind cls peer code : Nat) : Dev :=
  let key := chanKey kind 0 cls (if kind = 0 then peer else 0)
  let c := d.chan key
  let p := d.routeTo peer
  let d := (c.reqs ++ c.wait.flatMap (·.reqs)).foldl (fun d r => d.failReq (if p < 4 then p else 0) code r) d
  (d.setChan key { c with fenced := true, unack := [], wait := [], reqs := [] }).losePacks kind cls peer

/-- Every source end of the chip as (kind, class, peer). -/
def srcEnds (d : Dev) : List (Nat × Nat × Nat) :=
  (d.lk.chans.filter (fun e => decide (e.1 / 64 % 2 = 0))).map (fun e => (e.1 / 128, e.1 / 16 % 4, e.1 % 16))

/-- Fence every channel whose route leaves by a port, with LINK_UNDELIVERABLE (R327 step 1). -/
def Dev.fencePort (d : Dev) (p : Nat) : Dev :=
  (srcEnds d).foldl (fun d e =>
    let c := d.chan (chanKey e.1 0 e.2.1 e.2.2)
    if c.opened && !c.fenced && (d.chanPorts e.1 e.2.2).contains p then (d.fenceSrc e.1 e.2.1 e.2.2 0x6006).orReg Reg.HT_STAT 0x10
    else d) d

/-- Return a packet to its source as an UNDELIV, in RSP; it holds the packet's class and kind of channel. A packet of this chip fences its own channel
(R315, R327 step 2). -/
def Dev.undeliver (d : Dev) (k : Pkt) : Dev :=
  if k.schip = d.chipId then
    (if k.kind = 0 then d.fenceSrc k.mc k.cls k.dchip 0x6006 else d).orReg Reg.HT_STAT 0x10
  else
    let p := d.routeTo k.schip
    if p < 4 ∧ (d.port p).up then
      d.queueAt { dchip := k.schip, schip := d.chipId, kind := 2, cls := k.cls, mc := k.mc, epoch := 0, nlines := 0, seq := k.seq,
                  body := (k.body ++ List.replicate 12 0).take 12 } p 4 0 0
    else d

/-- A packet that no port takes (R318, R327): one whose route is 7 is returned, and so is one of REQ or SYNC whose port is down; an RSP packet of a port
that is down is discarded, and so is an UNDELIV. -/
def Dev.lostPkt (d : Dev) (k : Pkt) (p : Nat) : Dev :=
  let d := if p < 4 then d else d.orReg Reg.HT_STAT 0x80
  if k.kind = 2 ∨ (p < 4 ∧ pktCls k = 0) then d else d.undeliver k

/-- Queue a packet, arrived by port `q` on a VC with places to free, for the port that leads to chip `to_`. -/
def Dev.queuePktTo (d : Dev) (k : Pkt) (to_ q vc free : Nat) : Dev :=
  let p := d.routeTo to_
  if p < 4 ∧ (d.port p).up then d.queueAt k p q vc free else ((d.lostPkt k p).giveBack q vc free).tellAll

/-- Queue a packet of this chip for its destination. -/
def Dev.queuePkt (d : Dev) (k : Pkt) : Dev := d.queuePktTo k k.dchip 4 0 0

/-- A port that is down, with what the chip and its registers keep of it: the peer and the latency last measured, and the flits sent (R310). -/
def LPort.downed (x : LPort) : LPort :=
  { LPort.reset with peer := x.peer, relay := x.relay, peerPort := x.peerPort, lat := x.lat, sent := x.sent }

/-- Lose ports (R327): fence their channels, return the queued REQ and SYNC packets, discard the RSP packets. What arrived by them holds no place of
an input any more. -/
def Dev.losePorts (d : Dev) (ps : List Nat) : Dev :=
  let queued := ps.flatMap (fun p => (d.port p).outq.map (fun e => (p, e)))
  let far := fun (q : Nat) => if ps.contains q then 4 else q
  let d := ps.foldl (fun d p => d.setPort p (d.port p).downed) d
  let d := { d with lk := { d.lk with
    ports := d.lk.ports.map (fun (x : LPort) => { x with outq := x.outq.map (fun (e : PortPkt) => { e with from_ := far e.from_ }) })
    inbox := d.lk.inbox.map (fun (e : InPkt) => { e with port := far e.port }) } }
  let d := ps.foldl (fun d p => d.fencePort p) d
  (queued.foldl (fun d e => (d.lostPkt e.2.pkt e.1).giveBack (far e.2.from_) e.2.vc e.2.free) d).tellAll

/-- Reset the link side of every port: silent, down, no longer training (R310, R326). -/
def Dev.silence (d : Dev) : Dev :=
  let up := (List.range 4).filter (fun p => (d.port p).up)
  (List.range 4).foldl (fun d p => d.setPort p (d.port p).downed) (d.losePorts up)

/-- Whether any port is up. -/
def Dev.anyUp (d : Dev) : Bool := d.lk.ports.any (·.up)

/-- The members of a multicast on one side of this chip, nearest first: `up` towards higher IDs (R318, R322). -/
def Dev.mcSide (d : Dev) (mc src : Nat) (up : Bool) : List Nat :=
  let w := d.topoW
  let me := d.chipId
  let line := (List.range (w * d.topoH)).filter (fun c =>
    (if mc = 1 then decide (c / w = src / w) else decide (c % w = src % w)) && decide (c ≠ src) && !(bit (d.reg Reg.HT_ROLES) c))
  if up then line.filter (fun c => decide (me < c)) else (line.filter (fun c => decide (c < me))).reverse

/-- Send a multicast packet on in each direction from this chip in which members remain (R318). -/
def Dev.queueMc (d : Dev) (k : Pkt) (q vc free : Nat) : Dev :=
  [true, false].foldl (fun d up =>
    if k.schip = d.chipId ∨ (decide (k.schip < d.chipId) = up) then
      match d.mcSide k.mc k.schip up with
      | c :: _ => d.queuePktTo { k with dchip := c } c q vc free
      | [] => (d.giveBack q vc free).tellAll
    else d) d

/-! ## Channels at their source (R313, R315) -/

/-- Whether a source may send on a channel now: nothing waits before it, and it is not waiting at 1,024 unacknowledged packets (R313). -/
def Dev.chanRoom (d : Dev) (kind cls peer : Nat) : Bool :=
  let c := d.chan (chanKey kind 0 cls (if kind = 0 then peer else 0))
  c.wait.isEmpty && decide (c.unack.length < 1024)

/-- Judge a request at the source endpoint (R315): the code that refuses it, in order. -/
def Dev.chanRefusal (d : Dev) (kind cls peer : Nat) : Option Nat :=
  let c := d.chan (chanKey kind 0 cls (if kind = 0 then peer else 0))
  let ps := d.chanPorts kind peer
  if !c.opened || c.fenced then some 0x6007
  else if ps.contains 7 then some 0x6008
  else if ps.any (fun p => !(d.port p).up) then some 0x6006
  else none

/-- Judge a request, with what its refusal does: a port that is down fences the channel, and HT_STAT tells (R315, R318, R327). -/
def Dev.judge315 (d : Dev) (kind cls peer : Nat) : Option Nat × Dev :=
  match d.chanRefusal kind cls peer with
  | none => (none, d)
  | some code => (some code,
      if code = 0x6006 then (d.fenceSrc kind cls peer code).orReg Reg.HT_STAT 0x10
      else if code = 0x6008 then d.orReg Reg.HT_STAT 0x80 else d)

/-- Number a LINES packet of a channel, keep it until it is acknowledged, and send it (R313). -/
def Dev.chanPut (d : Dev) (kind cls peer : Nat) (h : LHold) : Dev :=
  let key := chanKey kind 0 cls (if kind = 0 then peer else 0)
  let c := d.chan key
  let owed := if kind = 0 then [peer] else d.mcMembers kind
  let k : Pkt := { dchip := peer, schip := d.chipId, kind := 0, cls := cls, mc := kind, epoch := c.epoch, nlines := h.nlines,
                   seq := c.seq, body := h.body }
  let u : LUnack := { seq := c.seq, tag := BitVec.ofNat 96 (leNat (h.body.take 12)), ns := d.nowNs, owed := owed }
  let d := d.setChan key { c with seq := (c.seq + 1) % 65536, unack := c.unack ++ [u], reqs := c.reqs ++ h.reqs }
  if kind = 0 then d.queuePkt k else d.queueMc k 4 0 0

/-- Send a LINES packet on a channel that does not refuse it, with the requests it carries; it waits while the channel holds 1,024 packets that are
not acknowledged (R313). -/
def Dev.chanSend (d : Dev) (kind cls peer : Nat) (body : List Byte) (nlines : Nat) (reqs : List Tag) : Dev :=
  let h : LHold := { body := body, nlines := nlines, reqs := reqs }
  if d.chanRoom kind cls peer then d.chanPut kind cls peer h
  else
    let key := chanKey kind 0 cls (if kind = 0 then peer else 0)
    let c := d.chan key
    d.setChan key { c with wait := c.wait ++ [h] }

/-- Send what waits on a channel while it has room, at most `n` packets; one that the channel now refuses fails its requests (R313, R315). -/
def Dev.chanDrain (d : Dev) (kind cls peer : Nat) : Nat → Dev
  | 0 => d
  | n + 1 =>
    let key := chanKey kind 0 cls (if kind = 0 then peer else 0)
    let c := d.chan key
    match c.wait with
    | [] => d
    | h :: rest =>
      if 1024 ≤ c.unack.length then d
      else
        let d := d.setChan key { c with wait := rest }
        match d.judge315 kind cls peer with
        | (some code, d) => (h.reqs.foldl (fun d r => d.failReq 0 code r) d).chanDrain kind cls peer n
        | (none, d) => (d.chanPut kind cls peer h).chanDrain kind cls peer n

/-- The same tag for another destination. -/
def tagTo (t : Tag) (n : Node) : Tag := BitVec.ofNat 96 (t.toNat % 2 ^ 88 + n.x * 2 ^ 92 + n.y * 2 ^ 88)

/-- The tick unit sends a barrier flit for another chip to the north node of its route, over the Trail and row 0 (R176, R206). -/
def Dev.syncTo (d : Dev) (chip : Nat) (t : Tag) (pay : Line) : Dev :=
  let p := d.routeTo chip
  let n := portNode (if p < 4 then p else 0)
  d.injectTo (tagTo t n) pay 0 chip [n]

/-- A north node sends a barrier flit's 16 payload bytes to a chip on the SYNC channel (R311), or refuses it (R315). -/
def Dev.syncOut (d : Dev) (chip : Nat) (at_ : Node) (t : Tag) (pay : Line) : Dev :=
  match d.judge315 0 1 chip with
  | (some code, d) => d.errTo at_ t code
  | (none, d) => d.chanSend 0 1 chip (leBytes 12 t.toNat ++ leBytes 16 pay.toNat) 0 []

end Sys2Proof.Machine
end

