-- ==== Sys2Proof/Machine/Halt.lean ====
section
/-! DEFINITION. Halting an instance (R39, R99, R435, R481), the fatal state (R482) and raising an error by its severity. -/

namespace Sys2Proof.Machine

/-! ## Rings (R425 to R432) -/

/-- A ring. -/
def Dev.ring (d : Dev) (r : Nat) : Ring := tabGet (fun _ => Ring.zero) d.host.rings r

/-- Store a ring. -/
def Dev.setRing (d : Dev) (r : Nat) (x : Ring) : Dev :=
  { d with host := { d.host with rings := tabSet (fun _ => Ring.zero) d.host.rings r x } }

/-- The ring of a session by kind: 0 command, 1 input, 2 output, 3 completion (R425). -/
def ringId (sid kind : Nat) : Nat := 4 * sid + kind

/-- The size of a ring by its configuration in use: 0 when disabled (R428). -/
def ringSize (x : Ring) : Nat := if fld x.useCfg 0 5 = 0 then 0 else 2 ^ fld x.useCfg 0 5

/-- Free slots of a completion ring: F = N − (P − C) − R (R432). -/
def ringFree (x : Ring) : Nat := ringSize x - (x.p - x.c).toNat - x.resv

/-- The base address of a ring in use. -/
def ringBase (x : Ring) : Nat := x.useLo.toNat + x.useHi.toNat * 2 ^ 32

/-- Release one reservation of a session's completion ring (R432). -/
def Dev.unreserve (d : Dev) (sid : Nat) : Dev :=
  let x := d.ring (ringId sid 3)
  d.setRing (ringId sid 3) { x with resv := x.resv - 1 }

/-- Release the reservations of an instance that will not run (R49, R62, R76, R352, R406). -/
def Dev.unreserveAll (d : Dev) (i : Inst) : Dev :=
  i.bound.foldl (fun d b => if b.resv then d.unreserve b.sid else d) d

/-- Mark a session (R39, R435). -/
def Dev.mark (d : Dev) (sid : Nat) : Dev := d.orReg (Reg.RC_MARK (sid / 32)) (2 ^ (sid % 32))

/-- Whether a session is marked. -/
def Dev.marked (d : Dev) (sid : Nat) : Bool := bit (d.reg (Reg.RC_MARK (sid / 32))) (sid % 32)

/-- Whether the tick is withdrawn for a tenant (R483). -/
def Dev.outside (d : Dev) (tenant : Nat) : Bool := d.tick.withdrawnAll || d.tick.withdrawn.contains tenant

/-- The session of an instance's slot 0; 0xFFFF when it binds none (Table 21-4). -/
def Inst.sid0 (i : Inst) : Nat := match i.bound with | b :: _ => b.sid | [] => 0xFFFF

/-- Mark a bound session and queue its completion with the halt's code (R435): in its reserved slot, else in a free slot, else
none. -/
def Dev.failBound (d : Dev) (i : Inst) (code : Nat) (b : Bound) : Dev :=
  let d := d.mark b.sid
  let x := d.ring (ringId b.sid 3)
  if b.resv then
    { d with host := { d.host with jobs := d.host.jobs ++
        [{ bound := b, tenant := i.tenant, status := code, outside := true, tick := d.tick.count,
           frag := i.frag, sid0 := i.sid0 }] } }
  else if 0 < ringFree x then
    let d := d.setRing (ringId b.sid 3) { x with resv := x.resv + 1 }
    { d with host := { d.host with jobs := d.host.jobs ++
        [{ bound := { b with resv := true }, tenant := i.tenant, status := code, outside := true, tick := d.tick.count,
           frag := i.frag, sid0 := i.sid0 }] } }
  else d

/-- Whether an instance has neither committed nor ended otherwise. -/
def Inst.alive (i : Inst) : Bool := match i.status with | .waiting => true | .running => true | _ => false

/-- The tile record after the halt of the instance it runs: streams and sequencer drop what they hold (R99). `pc` is the
address of the instruction that caused the halt; where none did (the watchdog, an abort, a code load), SQ_FAULT.PC takes the address of the next
instruction to dispatch (DESIGN CHOICE, notes/assumptions/101: Table 4-10 names only the instruction that caused the halt). -/
def TileSt.stop (ts : TileSt) (code : Nat) (pc : Option Nat) : TileSt :=
  { ts with cur := none, loading := false, ready := false, drain := false, align := false,
            halted := true, loops := [], queues := [[], [], [], []], disp := [0, 0, 0, 0], comp := [0, 0, 0, 0], dmOps := [],
            syOps := [], pendIx := [], mxw := [false, false], vxr := [false, false], aligns := 0,
            txns := ts.txns.map (fun x => { x with op := none }), faultPc := pc.getD ts.pc, faultCode := code }

/-- Stop every tile that runs an instance; the others of the mask will not start it. -/
def Dev.stopTiles (d : Dev) (i code : Nat) (pc : Option Nat) : Dev :=
  (List.range 64).foldl (fun d t => if (d.tile t).cur = some i then d.updTile t (·.stop code pc) else d) d

/-- Replace an instance of the running table. -/
def Dev.setInst (d : Dev) (i : Nat) (x : Inst) : Dev := { d with tick := { d.tick with cur := setAt d.tick.cur i x } }

/-- Halt instance `i` of the running table with an error (R99): its tiles stop, its sessions are marked and their completions
queued. Nothing is logged here. -/
def Dev.haltQuiet (d : Dev) (i code : Nat) (pc : Option Nat := none) : Dev :=
  match d.tick.cur[i]? with
  | none => d
  | some x =>
    if x.alive then
      let d := d.setInst i { x with status := .halted code }
      let d := { d with pwr := { d.pwr with spoiled := true } }
      let d := d.stopTiles i code pc
      x.bound.foldl (fun d b => d.failBound x code b) d
    else d

/-- Where an error of an instance is logged: the instance's tenant, fragment and first session. -/
def instAt (d : Dev) (i node detail : Nat) : ErrAt :=
  match d.tick.cur[i]? with
  | some x => { node := node, tenant := some x.tenant, frag := x.frag,
                session := x.sid0, detail := detail }
  | none => { node := node, tenant := none, frag := 0xFFFF, session := 0xFFFF, detail := detail }

/-- Log a contained error of an instance and halt it, unless it has already ended (R481). -/
def Dev.haltInst (d : Dev) (i code node detail : Nat) (pc : Option Nat := none) : Dev :=
  match d.tick.cur[i]? with
  | some x => if x.alive then ((d.logS code (instAt d i node detail))).haltQuiet i code pc else d
  | none => d

/-- Halt the instance that a tile runs, with the error found there. -/
def Dev.haltTile (d : Dev) (t code : Nat) (pc : Option Nat := none) (detail : Nat := 0) : Dev :=
  match (d.tile t).cur with
  | some i => d.haltInst i code (nodeOf (tileX t) (tileY t)) detail pc
  | none => d

/-- Halt every live instance of the running table without logging each (R482). -/
def Dev.haltAll (d : Dev) (code : Nat) : Dev := (List.range d.tick.cur.length).foldl (fun d i => d.haltQuiet i code) d

/-- Cancel the packed table: its bindings are released (R49). -/
def Dev.cancelNext (d : Dev) : Dev :=
  let d := d.tick.nxt.foldl (fun d x => d.unreserveAll x) d
  { d with tick := { d.tick with nxt := [] } }

/-- The end of a boot (R472 step 6, R478): the host port is released and the tick unit starts, unless it has already. -/
def Dev.bootEnd (d : Dev) (whole : Bool) : Dev :=
  let d := d.clrReg Reg.RB_STAT 1
  let d := d.orReg Reg.RB_STAT (if whole then 4 else 2)
  let d := d.setReg Reg.RB_BOOT_MS (w32 (min ((d.nowNs - d.boot.startNs) / 1000000) 65535))
  let t := if d.tick.started || d.pwr.firstEdge.isSome then d.tick else { d.tick with timerNs := d.nowNs }
  { d with boot := { d.boot with running := false, entries := [], waitNs := none }, tick := t }

/-- Enter the fatal state (R482): a boot in progress ends in the stand-alone state (R478), with the code in RB_ERR. -/
def Dev.enterFatal (d : Dev) (code node : Nat) : Dev :=
  let d := d.haltAll code
  let d := d.cancelNext
  let d := d.orReg Reg.ERR_STAT 1
  let d := if bit (d.reg Reg.ERR_FATAL) 31 then d else d.setReg Reg.ERR_FATAL (w32 (0x80000000 + node * 65536 + code))
  let d := { d with tick := { d.tick with withdrawnAll := true } }
  let d := if d.anyUp then d.silence else d
  if bit (d.reg Reg.RB_STAT) 0 then (d.setReg Reg.RB_ERR (w32 (d.boot.next % 65536 * 65536 + code))).bootEnd false else d

/-- Whether the chip is in the fatal state. -/
def Dev.fatal (d : Dev) : Bool := bit (d.reg Reg.ERR_STAT) 0

/-- Log an error with the effects of its severity (R480, R482, R483). -/
def Dev.raise (d : Dev) (code : Nat) (e : ErrAt) : Dev :=
  if sevOf code = 2 then (d.logSev code 2 e).enterFatal code e.node
  else if sevOf code = 1 then d.logS code e
  else d.logSev code 0 e

/-- A dropped or unmapped host access (R7): logged, with the host port's status bit. -/
def Dev.badAccess (d : Dev) : Dev := (d.orReg Reg.HI_STAT 1).logC 0x9001 nodeHost

end Sys2Proof.Machine
end

