-- ==== Sys2Proof/Machine/DramOps.lean ====
section
/-! DEFINITION. One access to DRAM as its controller serves it: link ECC, inline ECC, the QoS target, the write queue and the traffic that it makes on
Canopy (R173 to R178, R245, R249, R250, R257, R258). -/

namespace Sys2Proof.Machine

/-- Whether the DRAM serves requests (R245). -/
def Dev.dramReady (d : Dev) : Bool := d.dram.ready

/-- Where an error of a channel is logged: its west node and its stand (R257, R258), with the affected instance if any. -/
def chanAt (d : Dev) (ch : Nat) (who : Option Nat) (detail : Nat) : ErrAt :=
  let base := match who with
    | some i => instAt d i (nodeOf 0 (ch + 1)) detail
    | none => { atNode (nodeOf 0 (ch + 1)) with detail := detail }
  { base with tenant := some (d.rowTenant ch) }

/-- Count a request served after its port's target (R249). -/
def Dev.qosMiss (d : Dev) (ch port : Nat) : Dev :=
  (((d.incReg (Reg.DR_QOS_MISS ch port) 1).orReg (Reg.DR_STAT ch) 0x20).logOnce 0x3006 ch (nodeOf 0 (ch + 1)))

/-- Change the record of a channel. -/
def Dev.updCh (d : Dev) (ch : Nat) (f : DramCh → DramCh) : Dev :=
  { d with dram := { d.dram with chans := setAt d.dram.chans ch (f (d.dram.chans.getD ch DramCh.reset)) } }

/-- What a bank holds open when nothing is listed. -/
def noPage (_ : Nat) : Option (Nat × Nat × Bool) := none

/-! ## The write queue (R250) -/

/-- CK in tenths of MHz (Table 10-3); 25 MHz in S3 (Table 10-7). -/
def Dev.ckTenths (d : Dev) : Nat :=
  if d.pstate = 3 then 250 else [4000, 8000, 5334, 6875, 8000, 9375, 10666].getD (fld (d.reg Reg.DR_GCFG) 0 3) 8000

/-- A channel. -/
def Dev.ch (d : Dev) (k : Nat) : DramCh := d.dram.chans.getD k DramCh.reset

/-- The record of a channel at this moment: one write of 64 bytes is retired every 8 CK cycles, and draining ends at 32 (R250; DESIGN CHOICE,
notes/assumptions/88: the guaranteed rate is the rate). -/
def Dev.chNow (d : Dev) (k : Nat) : DramCh :=
  let c := d.ch k
  let part := c.wqPart + (d.nowNs - c.wqNs) * d.ckTenths
  let q := c.wq.drop (part / 80000)
  { c with wq := q, wqNs := d.nowNs, wqPart := if q.isEmpty then 0 else part % 80000, drain := c.drain && decide (32 < q.length) }

/-- Accept writes into a channel's queue; a unit that finds it full has waited for the oldest to be retired. -/
def Dev.wqPush (d : Dev) (k : Nat) (us : List Nat) : Dev :=
  let c := d.chNow k
  let all := c.wq ++ us
  let q := all.drop (all.length - 64)
  d.updCh k (fun _ => { c with wq := q, drain := c.drain || decide (48 ≤ q.length) })

/-- A read that a draining channel holds back has waited for the queue to come down to 32. -/
def Dev.wqWait (d : Dev) (k : Nat) : Dev :=
  let c := d.chNow k
  d.updCh k (fun _ => { c with wq := if c.drain then c.wq.drop (c.wq.length - 32) else c.wq, drain := false })

/-- Retire the accepted writes of some channels (R407). -/
def Dev.wqEmpty (d : Dev) (chs : List Nat) : Dev :=
  chs.foldl (fun d k => d.updCh k (fun c => { c with wq := [], wqPart := 0, drain := false })) d

/-- Retire every accepted write (R263, R264). -/
def Dev.wqFlush (d : Dev) : Dev := d.wqEmpty (List.range 8)

/-! ## The requests of an access -/

/-- Cut `n` lines from address `a` into runs of at most `m` lines that do not cross a granule of 512 lines: (address, offset, count)
each. -/
def cutLines (m : Nat) : Nat → Nat → Nat → Nat → List (Nat × Nat × Nat)
  | 0, _, _, _ => []
  | fuel + 1, a, o, n =>
    if n = 0 then []
    else
      let k := min n (min m (512 - a % 512))
      (a, o, k) :: cutLines m fuel (a + k) (o + k) (n - k)

/-- The node whose requests of a port a command carries whole, for a channel: over the Trail, or an east node's along its row (Table 10-4). A
tile's requests and an east node's writes are flits in flight. -/
def portSource (ch port : Nat) (write : Bool) : Option Node :=
  if port = 0 then some ⟨2, 9⟩ else if port = 5 ∨ ((port = 1 ∨ port = 2) ∧ write = false) then some ⟨9, ch + 1⟩ else none

/-- The port of an east node's request: SPILL while an entry to S4 or an exit from it is in progress (Table 10-4). -/
def Dev.eastPort (d : Dev) (port : Nat) : Nat :=
  let st := d.reg Reg.PW_STAT
  if (bit st 8 && decide (fld st 4 3 = 4)) || (bit st 9 && decide (d.pstate = 4)) then 5 else port

/-- Count the flits of a port's request of `n` lines to a channel and of its answer (R13, R172, R178). -/
def Dev.dramTraffic (d : Dev) (ch port n : Nat) (write : Bool) : Dev :=
  match portSource ch port write with
  | none => d
  | some s =>
    let w : Node := ⟨0, ch + 1⟩
    if write then (d.traffic s w tyWR n).traffic w s tyWACK 1 else (d.traffic s w tyRD 1).traffic w s tyRDATA n

/-- An access of a port opens or closes its page by the port's policy (R242, R251): `last` is its flit's LAST. -/
def Dev.touchPage (d : Dev) (a port : Nat) (last : Bool) : Dev :=
  let (ch, o) := d.dramPlace a
  d.updCh ch (fun c =>
    let timer := bit c.pageUse port
    let keep := if timer then decide (fld c.pageUse 16 10 ≠ 0) else !last
    { c with open_ := tabSet noPage c.open_ (o / 2048 % 16) (if keep then some (o / 32768, d.nowNs, timer) else none) })

/-- Whether a request misses its port's target: it is served late, or the target in use is 0 (R249). -/
def Dev.qosLate (d : Dev) (ch port : Nat) (late : Bool) : Bool :=
  late || decide ((d.dram.chans.getD ch DramCh.reset).qosUse.getD port 1 = 0)

/-- A request reaches a channel: counted when it is served after its target, once however many lines it asks for (R249). -/
def Dev.qosRequest (d : Dev) (ch port : Nat) (late : Bool) : Dev := if d.qosLate ch port late then d.qosMiss ch port else d

/-- What one read of a 64-byte unit meets: the code of the error that withholds its data, if any. -/
def Dev.readUnit (d : Dev) (a port : Nat) (who : Option Nat) (ev : DramEv) : Option Nat × Dev :=
  let (ch, o) := d.dramPlace a
  let d := d.touchPage a port true
  let cfg := d.reg (Reg.DR_CH_CFG ch)
  let d := if bit cfg 1 && ev.link = .corrected then (d.incReg (Reg.DR_LINK_CNT ch) 1).orReg (Reg.DR_STAT ch) 4 else d
  if bit cfg 1 && ev.link = .uncorrectable then
    (some 0x3008, (d.orReg (Reg.DR_STAT ch) 8).logS 0x3008 (chanAt d ch who 0))
  else if bit cfg 0 && (ev.array = .uncorrectable || tabGet falseB d.dram.bad (a / 64)) then
    let d := if bit (d.reg (Reg.DR_STAT ch)) 1 then d else d.setReg (Reg.DR_UE_ADDR ch) (w32 (o / 64))
    let d := { d with dram := { d.dram with bad := tabSet falseB d.dram.bad (a / 64) true } }
    let d := d.orReg (Reg.DR_STAT ch) 2
    (some 0x300B, d.logS 0x300B (chanAt d ch who (d.regN (Reg.DR_UE_ADDR ch) + ch * 2 ^ 32)))
  else if bit cfg 0 && ev.array = .corrected then
    (none, ((d.incReg (Reg.DR_ECC_CNT ch) 1).orReg (Reg.DR_STAT ch) 1).logSev 0x300A 0 (chanAt d ch who 0))
  else (none, d)

/-- No error. -/
def DramEv.ok : DramEv := { link := .clean, array := .clean, late := false }

/-- What a unit of an access meets. -/
def DramEv.at_ (ev : DramEv) (i : Nat) : DramEv := if ev.unit = i then ev else .ok

/-- What is left of what an access meets once its first units are read. -/
def DramEv.from_ (ev : DramEv) (n : Nat) : DramEv := if n ≤ ev.unit then { ev with unit := ev.unit - n } else .ok

/-- Read units one after another, from number `i` of the access, up to the first that is withheld. -/
def Dev.readUnits (d : Dev) (port : Nat) (who : Option Nat) (ev : DramEv) (us : List Nat) (i : Nat := 0) : Option Nat × Dev :=
  match us with
  | [] => (none, d)
  | u :: us =>
    match d.readUnit (u * 64) port who (ev.at_ i) with
    | (some c, d) => (some c, d)
    | (none, d) => d.readUnits port who ev us (i + 1)

/-- The requests of an access to `n` lines from line `a`: each waits for its channel, counts by its target and makes its flits. -/
def Dev.dramRequests (d : Dev) (port a n : Nat) (ev : DramEv) (write : Bool) : Dev :=
  ((cutLines 64 n a 0 n).zipIdx).foldl (fun d c =>
    let ch := (d.dramPlace (c.1.1 * 64)).1
    let d := (d.qosRequest ch port (ev.late && decide (c.2 = 0))).dramTraffic ch port c.1.2.2 write
    if write then d.wqPush ch ((List.range c.1.2.2).map (· + c.1.1)) else d.wqWait ch) d

/-- Read the units of some lines of DRAM, as requests of at most 64 lines. -/
def Dev.readLines (d : Dev) (port : Nat) (who : Option Nat) (ev : DramEv) (us : List Nat) : Option Nat × Dev :=
  (match us with | [] => d | u :: _ => d.dramRequests port u us.length ev false).readUnits port who ev us

/-- Read a range of DRAM: the code of the error that withholds it, if any; the bytes are `dramBytes`. -/
def Dev.readDram (d : Dev) (a n port : Nat) (who : Option Nat) (ev : DramEv) : Option Nat × Dev :=
  d.readLines port who ev (unitsOf a n)

/-- Write a range of DRAM. An uncorrectable link error leaves the unit that it meets undefined, which inline ECC will find, and is noticed at the
next MR4 poll (R257). `last` is the LAST of the final flit. -/
def Dev.writeDram (d : Dev) (a port : Nat) (bs : List Byte) (ev : DramEv) (last : Bool := true) : Dev :=
  let us := unitsOf a bs.length
  let d := d.dramRequests port (a / 64) us.length ev true
  let d := (us.zipIdx).foldl (fun d u => d.touchPage (u.1 * 64) port (last && decide (u.2 + 1 = us.length))) d
  let d := d.setDram a bs
  let u := a / 64 + ev.unit
  let ch := (d.dramPlace (u * 64)).1
  let cfg := d.reg (Reg.DR_CH_CFG ch)
  if bit cfg 1 && ev.link = .uncorrectable && decide (ev.unit < us.length) then
    let d := d.scramble (u * 64) (u * 64 + 64)
    let d := { d with dram := { d.dram with bad := if bit cfg 0 then tabSet falseB d.dram.bad u true else d.dram.bad } }
    d.updCh ch (fun c => { c with linkWr := true })
  else d

/-- A range of DRAM outside the installed capacity. -/
def Dev.outOfDram (d : Dev) (a n : Nat) : Bool := decide (8 * d.cch < a + n) || decide (d.cch = 0)

/-- Refuse a command because the DRAM is not ready (R245): logged at the node of the unit that refuses it. -/
def Dev.notReady (d : Dev) (node : Nat) : Dev := d.logC 0x3001 node

end Sys2Proof.Machine
end

