-- ==== Sys2Proof/Machine/Mbf.lean ====
section
/-! DEFINITION. The Merand block format (R286 to R289, R293, R294, R300, R301): header, check, transforms, rANS decoding and
encoding. -/

namespace Sys2Proof.Machine

/-! ## The header (Tables 12-2, 12-3) -/

/-- The fields of a header. -/
structure MbfHdr where
  table  : Nat
  x0     : Nat
  x1     : Nat
  dlen   : Nat
  split  : Nat
  stored : Nat
  slen   : List Nat
  crc    : Nat
  deriving DecidableEq, Repr

/-- A little-endian field of bytes. -/
def leAt (bs : List Byte) (o n : Nat) : Nat := leNat ((bs.drop o).take n)

/-- Read the fields of a header. -/
def mbfHdr (bs : List Byte) : MbfHdr :=
  { table := leAt bs 5 1, x0 := leAt bs 6 1 % 4, x1 := leAt bs 6 1 / 4 % 4, dlen := leAt bs 8 2, split := leAt bs 10 2,
    stored := leAt bs 12 2, slen := (List.range 16).map (fun s => leAt bs (16 + 2 * s) 2), crc := leAt bs 60 4 }

/-- The decoded length of sub-stream `s` (R287). -/
def mbfDs (dlen s : Nat) : Nat := min 1024 (dlen - 1024 * s)

/-- The encoded extent (R286). -/
def MbfHdr.extent (h : MbfHdr) : Nat := 64 + h.slen.sum

/-- Whether the bytes begin with the magic (R220). -/
def mbfMagic (bs : List Byte) : Bool := decide (4 ≤ bs.length) && decide (leAt bs 0 4 = 0x3146424D)

/-- Whether a header is valid (Table 12-3). -/
def mbfValid (bs : List Byte) : Bool :=
  let h := mbfHdr bs
  decide (64 ≤ bs.length) && mbfMagic bs && decide (leAt bs 4 1 = 1) && decide (leAt bs 6 1 < 16) && decide (leAt bs 7 1 = 0)
    && decide (leAt bs 14 2 = 0) && decide (leAt bs 48 12 = 0)
    && decide (h.dlen ≤ 16384) && decide (h.split ≤ h.dlen) && decide (h.split % 2 = 0)
    && (decide (h.x1 = 0) || decide ((h.dlen - h.split) % 2 = 0))
    && (List.range 16).all (fun s =>
        let n := mbfDs h.dlen s
        let l := h.slen.getD s 0
        if n = 0 then decide (l = 0) && !(h.stored.testBit s)
        else if h.stored.testBit s then decide (l = n)
        else decide (16 ≤ l ∧ l ≤ 2048))

/-- Whether a block passes its check: header and CRC (R294). -/
def mbfOk (bs : List Byte) : Bool :=
  let n := (mbfHdr bs).extent
  mbfValid bs && decide (n ≤ bs.length)
    && decide (crc32c (bs.take 60 ++ (bs.drop 64).take (n - 64)) = (mbfHdr bs).crc)

/-- The sub-streams of a block: number, decoded length and encoded bytes (R286). -/
def mbfSubs (h : MbfHdr) (bs : List Byte) : List (Nat × Nat × List Byte) :=
  (List.range 16).map (fun s => (s, mbfDs h.dlen s, (bs.drop (64 + (h.slen.take s).sum)).take (h.slen.getD s 0)))

/-- Whether some sub-stream is coded, so that the block needs its table (R286). -/
def MbfHdr.coded (h : MbfHdr) : Bool :=
  (List.range 16).any (fun s => decide (0 < mbfDs h.dlen s) && !(h.stored.testBit s))

/-! ## Transforms (Table 12-4) -/

/-- The transformed sequence of a part. -/
def mbfFwd (x : Nat) (b : List Byte) : List Byte :=
  let n := b.length / 2
  let at_ := fun i => (b.getD i 0).toNat
  let two := fun (f g : Nat → Nat) =>
    (List.range n).map (fun m => BitVec.ofNat 8 (f m)) ++ (List.range n).map (fun m => BitVec.ofNat 8 (g m))
  match x with
  | 0 => b
  | 1 => two (fun m => at_ (2 * m) % 16 + at_ (2 * m + 1) % 16 * 16) (fun m => at_ (2 * m) / 16 + at_ (2 * m + 1) / 16 * 16)
  | 2 =>
    let e := fun m => at_ (2 * m) + at_ (2 * m + 1) * 256
    two (fun m => e m / 128 % 256) (fun m => e m / 32768 * 128 + e m % 128)
  | _ =>
    let a := fun v => v / 8 % 16
    let z := fun v => v / 128 * 8 + v % 8
    two (fun m => a (at_ (2 * m)) + a (at_ (2 * m + 1)) * 16) (fun m => z (at_ (2 * m)) + z (at_ (2 * m + 1)) * 16)

/-- Its inverse (R287). -/
def mbfInv (x : Nat) (b : List Byte) : List Byte :=
  let n := b.length / 2
  let at_ := fun i => (b.getD i 0).toNat
  let pair := fun (f : Nat → Nat × Nat) =>
    (List.range n).flatMap (fun m => [BitVec.ofNat 8 (f m).1, BitVec.ofNat 8 (f m).2])
  match x with
  | 0 => b
  | 1 => pair (fun m => (at_ m % 16 + at_ (n + m) % 16 * 16, at_ m / 16 + at_ (n + m) / 16 * 16))
  | 2 => pair (fun m =>
      let e := at_ (n + m) / 128 * 32768 + at_ m * 128 + at_ (n + m) % 128
      (e % 256, e / 256))
  | _ =>
    let j := fun a z => z / 8 * 128 + a * 8 + z % 8
    pair (fun m => (j (at_ m % 16) (at_ (n + m) % 16), j (at_ m / 16) (at_ (n + m) / 16)))

/-! ## rANS tables (R289) -/

/-- Whether the bytes of a table never decrease. -/
def mbfRises : List Byte → Bool
  | a :: b :: t => decide (a.toNat ≤ b.toNat) && mbfRises (b :: t)
  | _ => true

/-- f(v): the slots of a symbol. -/
def ransF (t : List Byte) (v : Byte) : Nat := t.count v

/-- c(v): the first slot of a symbol. -/
def ransC (t : List Byte) (v : Byte) : Nat := t.findIdx (fun b => decide (b = v))

/-! ## Decoding a sub-stream (R293) -/

/-- Take bytes until the state is at least 2^23; none when they run out. -/
def ransRefill (x : Nat) : List Byte → Option (Nat × List Byte)
  | [] => if x < 0x800000 then none else some (x, [])
  | b :: bs => if x < 0x800000 then ransRefill (x * 256 + b.toNat) bs else some (x, b :: bs)

/-- Decode `n` symbols, the next of index `i`, from the four states. -/
def ransDec (t : List Byte) : Nat → Nat → List Nat → List Byte → Option (List Byte)
  | 0, _, xs, rest => if rest.isEmpty && xs.all (fun x => decide (x = 0x800000)) then some [] else none
  | n + 1, i, xs, rest =>
    let x := xs.getD (i % 4) 0
    let v := t.getD (x % 4096) 0
    match ransRefill (ransF t v * (x / 4096) + x % 4096 - ransC t v) rest with
    | none => none
    | some (x', rest') => (ransDec t n (i + 1) (setAt xs (i % 4) x') rest').map (v :: ·)

/-- Decode a coded sub-stream of `d` bytes. -/
def ransDecode (t : List Byte) (d : Nat) (src : List Byte) : Option (List Byte) :=
  ransDec t d 0 ((List.range 4).map (fun j => leAt src (4 * j) 4)) (src.drop 16)

/-- Decode every sub-stream. -/
def mbfSeq (t : List Byte) (stored : Nat) : List (Nat × Nat × List Byte) → Option (List Byte)
  | [] => some []
  | (s, n, bs) :: rest =>
    match if n = 0 then some [] else if stored.testBit s then some bs else ransDecode t n bs with
    | none => none
    | some out => (mbfSeq t stored rest).map (out ++ ·)

/-- Decode a block that has passed its check; none is CODEC_STREAM (R287, R293). -/
def mbfDecode (t : List Byte) (bs : List Byte) : Option (List Byte) :=
  let h := mbfHdr bs
  (mbfSeq t h.stored (mbfSubs h bs)).map (fun q => mbfInv h.x0 (q.take h.split) ++ mbfInv h.x1 (q.drop h.split))

/-! ## Encoding (R300, R301) -/

/-- Q(f) = round(256 × (12 − log2 f)). -/
def ransQ (f : Nat) : Nat := 3072 - (Nat.log2 (f ^ 512) + 1) / 2

/-- Whether every symbol of a sequence has a slot. -/
def ransEligible (t q : List Byte) : Bool := q.all (fun v => decide (0 < ransF t v))

/-- The cost of a sequence. -/
def ransCost (t q : List Byte) : Nat := (q.map (fun v => ransQ (ransF t v))).sum

/-- Choose a table: the lowest cost among the eligible, ties to the lower position (R300). -/
def ransChoose (q : List Byte) : List (Nat × List Byte) → Option (Nat × List Byte)
  | [] => none
  | (i, t) :: rest =>
    let other := ransChoose q rest
    if !ransEligible t q then other
    else match other with
      | some (j, u) => if ransCost u q < ransCost t q then some (j, u) else some (i, t)
      | none => some (i, t)

/-- Emit bytes while the state is too large; the emitted bytes, newest first. -/
def ransSpill (lim : Nat) : Nat → Nat → List Byte → Nat × List Byte
  | 0, x, out => (x, out)
  | n + 1, x, out => if lim ≤ x then ransSpill lim n (x / 256) (BitVec.ofNat 8 x :: out) else (x, out)

/-- Encode symbols given in falling order of index, the first of index `i`; the states and the bytes, newest first. -/
def ransEnc (t : List Byte) : List Byte → Nat → List Nat → List Byte → List Nat × List Byte
  | [], _, xs, out => (xs, out)
  | v :: vs, i, xs, out =>
    let f := ransF t v
    let (x, out) := ransSpill (2 ^ 19 * f) 4 (xs.getD (i % 4) 0) out
    ransEnc t vs (i - 1) (setAt xs (i % 4) (x / max f 1 * 4096 + x % max f 1 + ransC t v)) out

/-- Encode a sub-stream. -/
def ransEncode (t : List Byte) (q : List Byte) : List Byte :=
  let (xs, out) := ransEnc t q.reverse (q.length - 1) (List.replicate 4 0x800000) []
  xs.flatMap (leBytes 4) ++ out

/-- A sub-stream as encoded: stored unless a table makes it shorter (R301). -/
def mbfSub (t : Option (List Byte)) (q : List Byte) : Bool × List Byte :=
  match t with
  | none => (true, q)
  | some t =>
    let e := ransEncode t q
    if e.length < q.length then (false, e) else (true, q)

/-- Encode a block of data under a transform with the chosen table, if any (R300, R301). -/
def mbfEncode (x : Nat) (tab : Option (Nat × List Byte)) (b : List Byte) : List Byte :=
  let q := mbfFwd x b
  let subs := (List.range 16).map (fun s =>
    let part := (q.drop (1024 * s)).take 1024
    if part.isEmpty then (false, []) else mbfSub (tab.map (·.2)) part)
  let stored := ((List.range 16).map (fun s => if (subs.getD s (false, [])).1 then 2 ^ s else 0)).sum
  let hdr := leBytes 4 0x3146424D ++ leBytes 1 1 ++ leBytes 1 ((tab.map (·.1)).getD 0) ++ leBytes 2 x
    ++ leBytes 2 b.length ++ leBytes 2 b.length ++ leBytes 4 stored ++ subs.flatMap (fun s => leBytes 2 s.2.length) ++ leBytes 12 0
  let body := subs.flatMap (·.2)
  hdr ++ leBytes 4 (crc32c (hdr ++ body)) ++ body

end Sys2Proof.Machine
end

