-- ==== Sys2Proof/Machine/FlashOps.lean ====
section
/-! DEFINITION. The flash as its controller serves it: the LUNs and their commands (R265, R271, R281), pages (R269 to R272), regions (R274, R275) and
the bad-block table (R276, R277). -/

namespace Sys2Proof.Machine

/-- Erased bytes read 0xFF. -/
def flashDef (_ : Nat) : Byte := 0xFF

/-- A page that is not undefined. -/
def noGen (_ : Nat) : Nat := 0

/-- A page address from its parts (FL_CMD_ADDR). -/
def pageAt (ch ce block page : Nat) : Nat := ch * 2 ^ 28 + ce * 2 ^ 26 + block * 2 ^ 13 + page

/-- The parts of a page address. -/
def pgCh (a : Nat) : Nat := a / 2 ^ 28
def pgCe (a : Nat) : Nat := a / 2 ^ 26 % 4
def pgBlock (a : Nat) : Nat := a / 2 ^ 13 % 2 ^ 13
def pgPage (a : Nat) : Nat := a % 2 ^ 13

/-- The east node of a flash channel's row, as the log writes it. -/
def flNode (ch : Nat) : Nat := nodeOf 9 (ch / 2 + 1)

/-- Whether a block lies in the boot region (R274). -/
def inBoot (a : Nat) : Bool := decide (pgCh a = 0 ∧ pgCe a = 0 ∧ pgBlock a < 8)

/-! ## LUNs and their commands -/

/-- The LUN of a page: (channel × 4 + CE) × 2 + LUN (Table 11-4; DEDUCED, notes/assumptions/108: a target's blocks count over its LUNs in turn). -/
def Dev.lunOf (d : Dev) (pg : Nat) : Nat :=
  (pgCh pg * 4 + pgCe pg) * 2 + b2n (decide (d.flash.luns = 2 ∧ d.flash.lunBlocks ≤ pgBlock pg))

/-- Nothing issued. -/
def noOnfi (_ : Nat) : List Onfi := []

/-- The commands of an operation on the LUN of a page. -/
def Dev.onfi (d : Dev) (pg : Nat) (cs : List Onfi) : Dev :=
  { d with flash := { d.flash with bus := tabSet noOnfi d.flash.bus (d.lunOf pg) cs } }

/-- The prefix of a command in SLC mode (R278), which the boot region always uses (R274). -/
def Dev.slcPre (d : Dev) (slc : Bool) : List Onfi :=
  let p := d.reg Reg.FL_SLC_PREFIX
  if slc && bit p 8 then [.slcPrefix (fld p 0 8)] else []

/-- Entry `s` of a retry table as the command that applies it (R271, R272). -/
def Dev.retryStep (d : Dev) (slc : Bool) (s : Nat) : Onfi :=
  let o := (if slc then 0x301080 else 0x301000) + 8 * s
  let lo := d.reg o
  .setFeatures (bit lo 8) (fld lo 0 8) (fld lo 16 16 + fld (d.reg (o + 4)) 0 16 * 65536)

/-- The commands of a page read that takes `n` retry steps, and of its first read alone where none is needed (R272). -/
def Dev.readCmds (d : Dev) (slc : Bool) (n : Nat) (retry : Bool) : List Onfi :=
  let one := d.slcPre slc ++ [.read]
  one ++ (List.range n).flatMap (fun i => d.retryStep slc (i + 1) :: one) ++ (if retry then [d.retryStep slc 0] else [])

/-! ## Pages -/

/-- Bytes of a page: data from 0, spare bytes from 16,384. -/
def Dev.pageBytes (d : Dev) (pg o n : Nat) : List Byte :=
  let g := tabGet noGen d.flash.undef pg
  if g ≠ 0 then (List.range n).map (fun i => Config.flashByte g (pg * 32768 + o + i))
  else tabGetList flashDef d.flash.cells (pg * 32768 + o) n

/-- Whether the data of a page matches its META (R269, R270). -/
def Dev.pageMeta (d : Dev) (pg : Nat) : Bool :=
  decide (crc32c (d.pageBytes pg 0 16384) = leNat (d.pageBytes pg 16386 4))

/-- A read of a page that has failed for good (R272). -/
def Dev.pageUe (d : Dev) (pg : Nat) : Dev :=
  let ch := pgCh pg
  let d := d.incReg (Reg.FL_CH_UE_CNT ch) 1
  let d := if bit (d.reg (Reg.FL_CH_STAT ch)) 1 then d else d.setReg (Reg.FL_CH_UE_ADDR ch) (w32 pg)
  d.orReg (Reg.FL_CH_STAT ch) 2

/-- Keep the largest count of corrected bits (R270). -/
def Dev.keepBits (d : Dev) (ch bits : Nat) : Dev :=
  d.setReg (Reg.FL_CH_BITS_MAX ch) (w32 (max (d.regN (Reg.FL_CH_BITS_MAX ch)) (min bits 1023)))

/-- Read a page with correction and retry (R270, R272): its data, or none. -/
def Dev.readPage (d : Dev) (pg : Nat) (slc : Bool) (ev : PageEv) : Option (List Byte) × Dev :=
  let ch := pgCh pg
  let count := fld (d.reg Reg.FL_RETRY_CNT) (if slc then 8 else 0) 4
  let (bits, good) := match ev with
    | .decodes bits steps => (bits, if steps ≤ count ∧ d.pageMeta pg = true then some steps else none)
    | .fails bits => (bits, none)
  let d := d.keepBits ch bits
  match good with
  | some steps =>
    let d := d.onfi pg (d.readCmds slc steps (decide (steps ≠ 0)))
    let d := if steps = 0 then d
      else ((d.incReg (Reg.FL_CH_RETRY_CNT ch) 1).orReg (Reg.FL_CH_STAT ch) 1).logOnce 0x4006 ch (flNode ch)
    (some (d.pageBytes pg 0 16384), d)
  | none => (none, (d.onfi pg (d.readCmds slc count true)).pageUe pg)

/-- Leave a page undefined (R285). -/
def Dev.undefPage (d : Dev) (pg : Nat) : Dev :=
  let g := d.freeCtr + 1
  { d with freeCtr := g, flash := { d.flash with undef := tabSet noGen d.flash.undef pg g } }

/-- Whether a page is erased. -/
def Dev.pageErased (d : Dev) (pg : Nat) : Bool :=
  decide (tabGet noGen d.flash.undef pg = 0) &&
  !(d.flash.cells.any (fun e => decide (e.1 / 32768 = pg)))

/-- Program a page in the format of R269 (the parity is not modelled). What a page that is not erased holds then is undefined. -/
def Dev.programPage (d : Dev) (pg : Nat) (data : List Byte) (slc : Bool := false) : Dev :=
  let d := d.onfi pg (d.slcPre (slc || inBoot pg) ++ [.program, .status])
  if d.pageErased pg then
    let c := tabSetList flashDef d.flash.cells (pg * 32768) (data.take 16384)
    { d with flash := { d.flash with cells := tabSetList flashDef c (pg * 32768 + 16386) (leBytes 4 (crc32c (data.take 16384))) } }
  else d.undefPage pg

/-- Erase the block of a page. -/
def Dev.eraseBlock (d : Dev) (pg : Nat) (slc : Bool := false) : Dev :=
  let b := pg / 2 ^ 13
  let d := d.onfi pg (d.slcPre (slc || inBoot pg) ++ [.erase, .status])
  { d with flash := { d.flash with cells := tabDrop d.flash.cells (fun k => decide (k / 32768 / 2 ^ 13 = b)),
                                   undef := tabDrop d.flash.undef (fun k => decide (k / 2 ^ 13 = b)) } }

/-! ## The bad-block table (R276, R277) -/

/-- The bit of a block. -/
def Dev.bbtBit (d : Dev) (ch ce block : Nat) : Nat := (4 * ch + ce) * d.flash.blocks + block

/-- Whether the table in use marks a block. -/
def Dev.isBad (d : Dev) (ch ce block : Nat) : Bool := tabGet falseB d.flash.bad (d.bbtBit ch ce block)

/-- Mark a block; the boot region is never listed (R274). -/
def Dev.markBad (d : Dev) (pg : Nat) : Dev :=
  if inBoot pg then d
  else { d with flash := { d.flash with bad := tabSet falseB d.flash.bad (d.bbtBit (pgCh pg) (pgCe pg) (pgBlock pg)) true,
                                        bbtDirty := true } }

/-- Bytes of the bitmap in use. -/
def Dev.bbtBytes (d : Dev) (o n : Nat) : List Byte :=
  (List.range n).map (fun i => BitVec.ofNat 8
    (((List.range 8).map (fun b => b2n (tabGet falseB d.flash.bad ((o + i) * 8 + b)) * 2 ^ b)).sum))

/-- The pages of a copy: 0 in block 3, 1 in block 4. -/
def bbtPage (copy i : Nat) : Nat := pageAt 0 0 (3 + copy) i

/-- How many pages a copy takes. -/
def Dev.bbtPages (d : Dev) : Nat := (64 + 8 * d.flash.blocks + 16383) / 16384

/-- The bytes of a copy, if its pages read correctly. -/
def Dev.bbtRaw (d : Dev) (copy : Nat) : Option (List Byte) :=
  let ps := (List.range d.bbtPages).map (bbtPage copy)
  if ps.all d.pageMeta then some ((ps.flatMap (fun p => d.pageBytes p 0 16384)).take (64 + 8 * d.flash.blocks)) else none

/-- A copy that may be loaded: its generation and bitmap. -/
def Dev.bbtCopy (d : Dev) (copy : Nat) : Option (Nat × List Byte) :=
  match d.bbtRaw copy with
  | none => none
  | some bs =>
    if leAt bs 0 4 = 0x5442424C ∧ leAt bs 4 2 = 1 ∧ leAt bs 6 2 = d.flash.blocks
        ∧ crc32c (bs.take 60 ++ bs.drop 64) = leAt bs 60 4 then some (leAt bs 8 4, bs.drop 64) else none

/-- The marks of a bitmap. -/
def bbtMarks (bs : List Byte) : Tab Bool :=
  (bs.zipIdx).flatMap (fun e => if e.1 = 0 then [] else
    ((List.range 8).filter (fun b => e.1.getLsbD b)).map (fun b => (e.2 * 8 + b, true)))

/-- Read the pages of a copy in order, each with correction and retry (R272), up to one that fails. -/
def Dev.readBbtCopy (d : Dev) (copy : Nat) (evs : List PageEv) : Bool × Dev :=
  (List.range d.bbtPages).foldl (fun r i =>
    if r.1 then
      let x := r.2.readPage (bbtPage copy i) true (evs.getD (copy * d.bbtPages + i) (.decodes 0 0))
      (x.1.isSome, x.2)
    else r) (true, d)

/-- Load the newer copy, copy 0 of two equal ones, among those that read correctly (R277). -/
def Dev.loadBbt (d : Dev) (evs : List PageEv) : Dev :=
  let (ok0, d) := d.readBbtCopy 0 evs
  let (ok1, d) := d.readBbtCopy 1 evs
  let pick : Option (Nat × List Byte) :=
    match if ok0 then d.bbtCopy 0 else none, if ok1 then d.bbtCopy 1 else none with
    | some a, some b => if a.1 < b.1 then some b else some a
    | some a, none => some a
    | none, b => b
  match pick with
  | some (g, bs) => { (d.setReg Reg.FL_BBT_GEN (w32 g)) with
                      flash := { d.flash with bad := bbtMarks bs, bbtLoaded := true, bbtDirty := false } }
  | none => { (d.logC 0x4005 (flNode 0)) with flash := { d.flash with bad := [], bbtLoaded := false, bbtDirty := false } }

/-- The copy that a store writes and the new generation (R277). -/
def Dev.bbtTarget (d : Dev) : Nat × Nat :=
  let g := fun k => (d.bbtCopy k).map (·.1)
  match g 0, g 1 with
  | some a, some b => (if a < b then 0 else 1, max a b + 1)
  | some a, none => (1, a + 1)
  | none, some b => (0, b + 1)
  | none, none => (1, 1)

/-- The bytes of a new copy of a generation (R276). -/
def Dev.bbtImage (d : Dev) (gen : Nat) : List Byte :=
  let bits := d.bbtBytes 0 (8 * d.flash.blocks)
  let hdr := leBytes 4 0x5442424C ++ leBytes 2 1 ++ leBytes 2 d.flash.blocks ++ leBytes 4 gen ++ leBytes 48 0
  hdr ++ leBytes 4 (crc32c (hdr ++ bits)) ++ bits

/-- Program page `i` of a copy whose first page is `pg`. -/
def Dev.bbtProgram (d : Dev) (pg i : Nat) (all : List Byte) : Dev :=
  let part := (all.drop (i * 16384)).take 16384
  d.programPage (pg + i) (part ++ List.replicate (16384 - part.length) 0xFF)

/-- A store has ended: its generation is in use and nothing is left to store. -/
def Dev.bbtStored (d : Dev) (all : List Byte) : Dev :=
  { (d.setReg Reg.FL_BBT_GEN (w32 (leAt all 8 4))) with flash := { d.flash with bbtDirty := false } }

/-- Write the table to the older copy (R277): its block is erased and programmed. -/
def Dev.storeBbt (d : Dev) : Dev :=
  let (copy, gen) := d.bbtTarget
  let all := d.bbtImage gen
  let d := d.eraseBlock (bbtPage copy 0)
  ((List.range d.bbtPages).foldl (fun d i => d.bbtProgram (bbtPage copy 0) i all) d).bbtStored all

/-! ## Regions (R274, R275) -/

/-- The weight (`0`) or spill (`1`) region of a channel: first block and count. -/
def Dev.region (d : Dev) (ch k : Nat) : Nat × Nat :=
  let w := if k = 0 then d.reg (Reg.FL_CH_WREG ch) else d.reg (Reg.FL_CH_SREG ch)
  if d.flash.regionOk.getD ch false then (fld w 0 16, fld w 16 16) else (0, 0)

/-- Whether a channel's pair of regions passes (R274). -/
def Dev.regionPass (d : Dev) (ch : Nat) : Bool :=
  let w := d.reg (Reg.FL_CH_WREG ch)
  let s := d.reg (Reg.FL_CH_SREG ch)
  let one := fun (v : Word) => decide (fld v 16 16 = 0) ||
    (decide (fld v 0 16 + fld v 16 16 ≤ d.flash.blocks) && (decide (ch ≠ 0) || decide (8 ≤ fld v 0 16)))
  one w && one s && (decide (fld w 16 16 = 0) || decide (fld s 16 16 = 0)
    || decide (fld w 0 16 + fld w 16 16 ≤ fld s 0 16) || decide (fld s 0 16 + fld s 16 16 ≤ fld w 0 16))

/-- Check a channel's regions: a failing pair counts as empty. -/
def Dev.checkRegion (d : Dev) (ch : Nat) : Dev :=
  let ok := d.regionPass ch
  let d := { d with flash := { d.flash with regionOk := setAt d.flash.regionOk ch ok } }
  if ok then d else d.logSev 0x4004 0 (atNode (flNode ch))

/-- The good blocks of a region on a CE, in ascending order. -/
def Dev.goodBlocks (d : Dev) (ch ce : Nat) (r : Nat × Nat) : List Nat :=
  ((List.range r.2).map (· + r.1)).filter (fun b => !(d.isBad ch ce b))

/-- The usable indices of a region (R275). -/
def Dev.usable (d : Dev) (ch k : Nat) : Nat :=
  let r := d.region ch k
  let gs := (List.range d.flash.ces).map (fun e => (d.goodBlocks ch e r).length * d.flash.pages)
  d.flash.ces * gs.foldl min (gs.headD 0)

/-- The page of an index of a region (R275). -/
def Dev.unitPage (d : Dev) (ch k i : Nat) : Option Nat :=
  if i < d.usable ch k then
    let c := max d.flash.ces 1
    let p := max d.flash.pages 1
    let j := i / c
    some (pageAt ch (i % c) ((d.goodBlocks ch (i % c) (d.region ch k)).getD (j / p) 0) (j % p))
  else none

end Sys2Proof.Machine
end

