-- ==== Sys2Proof/Machine/State.lean ====
section
/-! DEFINITION. The state of the AE7260 as plain data, its faults and refusals, and the state after reset. -/

namespace Sys2Proof.Machine

/-- The whole block: the core behind BAR0, the service ports (chapter 19), the thermal unit (chapter 16), the test access port
(chapter 22), and the commands that wait, first in, first out. -/
structure State where
  dev     : Dev
  sp      : SpSt
  th      : ThSt
  tap     : TapSt
  pending : List Instr
  deriving DecidableEq, Repr

/-- No command of this block ends in a fault: every error the spec names is an effect on the state (R480 to R488). The one
constructor is raised by nothing; it is safe. -/
inductive Fault where
  | none
  deriving DecidableEq, Repr

/-- Why a command has no meaning: `notModelled` is raised only by an arm of `exec` whose meaning is not written; it is safe. -/
inductive Refusal where
  | notModelled (mnemonic : String)
  deriving DecidableEq, Repr

/-- A service port after PORST_N (Table 19-5): the settings of SP0 or SP1. -/
def SpPort.reset (baud ctrl : Word) : SpPort :=
  { baud := baud, fmt := 8, ctrl := ctrl, rxHigh := 48, rxLow := 16, rx := [], tx := [], stat := 0, seen := 0,
    rtsHigh := false, ctsHigh := false, rxBaud := baud, rxFmt := 8, rxCtrl := ctrl, rxBreak := false, brkRx := 0, brkPend := 0,
    lastTx := false, cntFe := 0, cntPe := 0, cntOvr := 0, cntColl := 0, svcCnt := 0, svcBad := 0, telSkip := 0, ien := 0,
    frame := [], frameNs := 0, exec := none, out := [], queue := [], telSec := 0, lineSec := none, sent := [] }

/-- Both ports after PORST_N. -/
def SpSt.reset : SpSt := { p0 := SpPort.reset 54 0x0604, p1 := SpPort.reset 0 0x0004, page := [] }

/-- The test access port after TRST_N: IDCODE selected (R489). -/
def TapSt.reset : TapSt :=
  { ir := 2, irCap := 1, drCap := 0, drLen := 32, held := false, hiz := false, acTest := 0, refused := false, done := false, result := 0,
    diag := 0, cells := 0, captured := 0 }

/-- The machine right after reset: every register at its Reset column, memories with nothing listed, no command waiting. -/
def State.reset : State :=
  { dev := Dev.reset, sp := SpSt.reset, th := ThSt.reset, tap := TapSt.reset, pending := [] }

end Sys2Proof.Machine
end

