-- ==== Sys2Proof/Machine/Gate.lean ====
section
/-! DEFINITION. How a command meets the state: a meaning answers the next state; nothing happens in a core whose clocks the
thermal trip has stopped (R389) or that the test access port holds in reset (R494). -/

namespace Sys2Proof.Machine

/-- The answer of a command. -/
abbrev Answer := Host.Outcome State Fault Refusal

/-- Whether the core runs: no trip, not held by the test access port. -/
def State.live (s : State) : Bool := !s.th.tripped && !s.tap.held

/-- The effect of a command on a running core. -/
def State.run (s : State) (f : State → State) : Answer := .next (if s.live then f s else s)

/-- Apply a function to the core. -/
def State.onDev (s : State) (f : Dev → Dev) : State := { s with dev := f s.dev }

/-- The effect of a command on the core alone. -/
def State.runDev (s : State) (f : Dev → Dev) : Answer := s.run (fun s => s.onDev f)

/-- Whether the part is in S0 with no exit in progress, so that the tick and the tiles run. -/
def Dev.inRun (d : Dev) : Bool := decide (d.pstate = 0)

/-- Whether a test of the tiles' memories or logic, or of the edge memories, runs (R500). -/
def Dev.testing (d : Dev) : Bool := d.test.busy && decide (d.test.ran % 8 ≠ 0)

/-- The check of the host port's buffers on an access (Table 21-3): an uncorrectable error is fatal, and the access ends there. -/
def Dev.portBuf (d : Dev) : SramEv → Except Dev Dev
  | .clean => .ok d
  | .corrected => .ok (d.sramCe nodeHost)
  | .uncorrectable => .error (d.raise 0x900C (atNode nodeHost))

end Sys2Proof.Machine
end

