-- ==== Sys2Proof/Machine/Flash.lean ====
section
/-! DEFINITION. The flash controller's bring-up, its configuration and the host's commands (R265 to R281). -/

namespace Sys2Proof.Machine

/-! ## Bring-up and configuration -/

/-- A write of FL_GCTRL: the first START begins the bring-up and releases WP_N; a second one is ignored (R267). -/
def Dev.flashStart (d : Dev) : Dev :=
  if d.flash.started then d
  else { d with flash := { d.flash with started := true, busy := true }, pins := { d.pins with wpN := true } }

/-- FLASH_START: a write to FL_GCTRL (R267). -/
def execFlashStart (v : Word) (s : State) : Answer := s.runDev fun d => if bit v 0 then d.flashStart else d

/-- The bring-up fails on the channels of a mask (R268). -/
def Dev.flashFail (d : Dev) (mask : Nat) : Dev :=
  let d := { d with flash := { d.flash with busy := false, ready := false, failMask := mask } }
  (bitsOf mask 16).foldl (fun d c => d.raise 0x4003 (atNode (flNode c))) d

/-- The target of a CE of a channel. -/
def FlashUp.target (u : FlashUp) (ch ce : Nat) : Option FlParam := (u.targets.getD ch []).getD ce none

/-- Which CEs of a channel are populated. -/
def FlashUp.ceSet (u : FlashUp) (ch : Nat) : List Bool := (List.range 4).map (fun e => (u.target ch e).isSome)

/-- How many CEs an allowed set holds: CE0 only, CE0 and CE1, or all four (Table 11-4). -/
def cesOf (s : List Bool) : Option Nat :=
  if s = [true, false, false, false] then some 1
  else if s = [true, true, false, false] then some 2
  else if s = [true, true, true, true] then some 4 else none

/-- Whether a target passes the checks of Table 11-4 on its own values; a reserved rate is supported by none. -/
def FlParam.ok (p : FlParam) (rate : Nat) : Bool :=
  decide (p.data = 16384 ∧ 1606 ≤ p.spare ∧ 64 ≤ p.pages ∧ p.pages ≤ 4096 ∧ (p.luns = 1 ∨ p.luns = 2)) && p.rates.getLsbD rate

/-- Whether a channel fails (R268): unpopulated or with a set that is not allowed or not channel 0's, a target that is not as channel 0, CE0 or
fails a check, or a third failed training. -/
def FlashUp.chFails (u : FlashUp) (rate ch : Nat) : Bool :=
  (cesOf (u.ceSet ch)).isNone || decide (u.ceSet ch ≠ u.ceSet 0) ||
  ((List.range 4).filterMap (u.target ch)).any (fun p => !(p.ok rate) || decide (some p ≠ u.target 0 0)) ||
  decide (3 ≤ u.tries.getD ch 0)

/-- The channels that fail. -/
def FlashUp.failMask (u : FlashUp) (rate : Nat) : Nat := ((List.range 16).map (fun c => b2n (u.chFails rate c) * 2 ^ c)).sum

/-- What START issues to each populated CE: RESET, the ID and the parameter page (R267 step 1), and, where training begins, ZQ calibration
(Table 11-2). -/
def Dev.flashProbe (d : Dev) (u : FlashUp) (train : Bool) : Dev :=
  (List.range 16).foldl (fun d c => (List.range 4).foldl (fun d e =>
    if (u.target c e).isSome then d.onfi (pageAt c e 0 0) ([.reset, .readId, .readParam] ++ if train then [.zqCal] else []) else d) d) d

/-- The bring-up ends with a geometry (R267): NV-LPDDR4 at the configured rate, the table loaded, every region checked, READY set. -/
def Dev.flashReady (d : Dev) (p : FlParam) (ces : Nat) (evs : List PageEv) : Dev :=
  let b := min (min p.blocks 8192) (2 ^ 22 / max p.pages 1)
  let d := { d with flash := { d.flash with
    busy := false, ready := true, failMask := 0, pages := p.pages, blocks := b, ces := ces, luns := p.luns,
    lunBlocks := p.blocks / max p.luns 1, iface := List.replicate 16 .nvLpddr4 } }
  let d := d.setReg Reg.FL_GEOM (w32 (p.pages % 2 ^ 13 + b * 2 ^ 13 + ces * 2 ^ 27 + p.luns * 2 ^ 30))
  (List.range 16).foldl (fun d c => d.checkRegion c) (d.loadBbt evs)

/-- FLASH_START_DONE: the bring-up ends (R267, R268). -/
def execFlashStartDone (ev : FlashUp) (s : State) : Answer :=
  s.runDev fun d =>
    if !d.flash.busy then d
    else
      let mask := ev.failMask (d.regN Reg.FL_GCFG)
      match ev.target 0 0, mask with
      | some p, 0 => (d.flashProbe ev true).flashReady p ((cesOf (ev.ceSet 0)).getD 1) ev.evs
      | _, m => (d.flashProbe ev false).flashFail m

/-- A write of FL_GCFG: RATE is locked after START (R266). -/
def Dev.flGcfg (d : Dev) (v : Word) : Dev := if d.flash.started then d.logC 0x4002 (flNode 0) else d.setReg Reg.FL_GCFG (v &&& 7)

/-- FL_GCFG_WRITE (R266). -/
def execFlGcfgWrite (v : Word) (s : State) : Answer := s.runDev fun d => d.flGcfg v

/-- A write of a region register: the pair is checked again once the geometry is known (R274). -/
def Dev.regionWrite (d : Dev) (off : Nat) (ch : Nat) (v : Word) : Dev :=
  let d := d.setReg off v
  if d.flash.ready then d.checkRegion ch else d

/-- FL_CH_WREG_WRITE: the weight region of a channel (R274). -/
def execFlChWregWrite (c : Fin 16) (v : Word) (s : State) : Answer :=
  s.runDev fun d => d.regionWrite (Reg.FL_CH_WREG c) c v

/-- FL_CH_SREG_WRITE: the spill region of a channel (R274). -/
def execFlChSregWrite (c : Fin 16) (v : Word) (s : State) : Answer :=
  s.runDev fun d => d.regionWrite (Reg.FL_CH_SREG c) c v

/-! ## Host commands (R278, R279) -/

/-- The status of a command: an error code with FAIL, or DONE. -/
def Dev.flStat (d : Dev) (code : Option Nat) : Dev :=
  d.setReg Reg.FL_CMD_STAT (match code with | some c => w32 (c * 65536 + 4) | none => 2)

/-- Where an error of a flash channel is logged: its row's east node and stand (R483). -/
def Dev.flAt (d : Dev) (ch : Nat) : ErrAt := { atNode (flNode ch) with tenant := some (d.rowTenant (ch / 2)) }

/-- Refuse a command with a code, which is logged at the node of its channel. -/
def Dev.flRefuse (d : Dev) (code : Nat) : Dev :=
  let ch := pgCh (d.regN Reg.FL_CMD_ADDR)
  (if sevOf code = 1 then d.logS code (d.flAt ch) else d.logC code (flNode ch)).flStat (some code)

/-- Whether a page address lies in the geometry. -/
def Dev.inGeom (d : Dev) (pg : Nat) : Bool :=
  decide (pgCe pg < d.flash.ces ∧ pgBlock pg < d.flash.blocks ∧ pgPage pg < d.flash.pages)

/-- Whether a block lies in its channel's spill region. -/
def Dev.inSpill (d : Dev) (pg : Nat) : Bool :=
  let r := d.region (pgCh pg) 1
  decide (r.1 ≤ pgBlock pg ∧ pgBlock pg < r.1 + r.2)

/-- Why a command on a page is refused (R268, R279): `op` as FL_CMD_OP numbers it. -/
def Dev.flRefusal (d : Dev) (op pg : Nat) : Option Nat :=
  if !d.flash.ready then (if op = 1 && inBoot pg then none else some 0x4001)
  else if op = 5 ∨ op = 6 then none
  else if !d.inGeom pg then some 0x400B
  else if op ≠ 1 ∧ inBoot pg = true ∧ d.sec.lockUse = true then some 0x400C
  else if (op = 2 ∨ op = 3) ∧ (d.isBad (pgCh pg) (pgCe pg) (pgBlock pg) = true ∨ (d.inSpill pg = true ∧ d.flash.spillValid = true))
    then some 0x400B
  else none

/-- The buffer in DRAM. -/
def Dev.flBuf (d : Dev) : Nat := d.reg64 Reg.FL_CMD_BUF_LO Reg.FL_CMD_BUF_HI

/-- Why the buffer is refused: the DRAM is not ready, or the buffer lies outside it, as a host access of the physical function
(R245, R278). -/
def Dev.bufRefusal (d : Dev) : Option Nat :=
  if !d.dramReady then some 0x3001 else if d.outOfDram d.flBuf 16384 then some 0x9001 else none

/-- Whether unit reads wait for a LUN (R281). -/
def Dev.lunUnits (d : Dev) (lun : Nat) : Bool := d.plan.units.any (fun u => !u.landed && decide (d.lunOf u.page = lun))

/-- A host command that waits begins when its LUN has no unit read before it (R281): none waits, or it has waited 1 ms. -/
def Dev.cmdNext (d : Dev) : Dev :=
  match d.flash.cmd with
  | some c =>
    if !c.begun && (c.aged || !d.lunUnits (d.lunOf c.addr)) then { d with flash := { d.flash with cmd := some { c with begun := true } } } else d
  | none => d

/-- Whether the host's command holds a LUN (R281). -/
def Dev.lunHeld (d : Dev) (lun : Nat) : Bool := d.flash.cmd.any (fun c => c.begun && decide (d.lunOf c.addr = lun))

/-- Issue a host command: dropped while BUSY, refused, or under way with `data`. -/
def Dev.flIssue (d : Dev) (op : Nat) (slc : Bool) (data : Dev → Option Nat × List Byte × Dev) : Dev :=
  let pg := d.regN Reg.FL_CMD_ADDR
  if d.flash.cmd.isSome then d.logC 0x400A (flNode (pgCh pg))
  else match d.flRefusal op pg with
    | some c => d.flRefuse c
    | none => match data d with
      | (some c, _, d) => d.flStat (some c)
      | (none, bs, d) =>
        let at_ := if op = 5 then bbtPage d.bbtTarget.1 0 else pg
        ({ (d.setReg Reg.FL_CMD_STAT 1) with
           flash := { d.flash with cmd := some { op := op, addr := at_, slc := slc, buf := d.flBuf, since := d.nowNs, aged := false,
                                                 begun := false, stage := 0, data := bs } } } : Dev).cmdNext

/-- The check of the buffer alone. -/
def Dev.bufOk (d : Dev) : Option Nat × List Byte × Dev :=
  match d.bufRefusal with
  | some c => (some c, [], d.logC c (flNode (pgCh (d.regN Reg.FL_CMD_ADDR))))
  | none => (none, [], d)

/-- The buffer's bytes as the command takes them; an error of the DRAM fails it with that error's code. -/
def Dev.bufRead (d : Dev) (dr : DramEv) : Option Nat × List Byte × Dev :=
  match d.bufOk with
  | (some c, _, d) => (some c, [], d)
  | (none, _, d) => match d.readDram d.flBuf 16384 0 none dr with
    | (some c, d) => (some c, [], d)
    | (none, d) => (none, d.dramBytes d.flBuf 16384, d)

/-- READ_PAGE: read a page with correction and retry; PAGE_READ ends it (R278). -/
def execReadPage (slc : Bool) (s : State) : Answer := s.runDev fun d => d.flIssue 1 slc Dev.bufOk

/-- PROGRAM_PAGE: program the buffer to a page; PROGRAM_ERASE_COMPLETE ends it (R278). -/
def execProgramPage (slc : Bool) (dr : DramEv) (s : State) : Answer := s.runDev fun d => d.flIssue 2 slc (·.bufRead dr)

/-- A command without a buffer. -/
def noBuf (d : Dev) : Option Nat × List Byte × Dev := (none, [], d)

/-- ERASE_BLOCK: erase a block; PROGRAM_ERASE_COMPLETE ends it (R278). -/
def execEraseBlock (slc : Bool) (s : State) : Answer := s.runDev fun d => d.flIssue 3 slc noBuf

/-- The table that BBT_STORE writes, as it stands. -/
def Dev.bbtBuf (d : Dev) : Option Nat × List Byte × Dev := (none, d.bbtImage d.bbtTarget.2, d)

/-- BBT_STORE: write the table to the older copy; each PROGRAM_ERASE_COMPLETE ends one of its erase and page programs (R277, R278). -/
def execBbtStore (s : State) : Answer := s.runDev fun d => d.flIssue 5 false Dev.bbtBuf

/-- End the host's command. -/
def Dev.flEnd (d : Dev) (code : Option Nat) : Dev := { (d.flStat code) with flash := { d.flash with cmd := none } }

/-- Issue a command that ends at once. -/
def Dev.flNow (d : Dev) (op : Nat) (act : Dev → Nat → Dev) : Dev :=
  let d' := d.flIssue op false noBuf
  match d.flash.cmd, d'.flash.cmd with
  | none, some c => (act d' c.addr).flEnd none
  | _, _ => d'

/-- MARK_BAD: mark a block in the loaded table (R277, R278). -/
def execMarkBad (s : State) : Answer := s.runDev fun d => d.flNow 4 Dev.markBad

/-- The blocks whose first or last page has a spare byte 0 other than 0xFF (R278). -/
def Dev.factoryMarks (d : Dev) : List Nat :=
  let edge := fun pg => !(inBoot pg) && d.inGeom pg && (decide (pgPage pg = 0) || decide (pgPage pg + 1 = d.flash.pages))
  ((d.flash.cells.filter (fun e => decide (e.1 % 32768 = 16384) && edge (e.1 / 32768))).map (fun e => e.1 / 32768))
    ++ ((d.flash.undef.filter (fun e => edge e.1 && decide (Config.flashByte e.2 (e.1 * 32768 + 16384) ≠ 0xFF))).map (·.1))

/-- Build the bitmap from the factory marks (R278). -/
def Dev.scanBad (d : Dev) : Dev := d.factoryMarks.foldl Dev.markBad { d with flash := { d.flash with bad := [], bbtDirty := true } }

/-- SCAN (R278). -/
def execFlScan (s : State) : Answer := s.runDev fun d => d.flNow 6 fun d _ => d.scanBad

/-- A write of FL_CMD_OP (R278): `dr` is what the read of a buffer to program meets. Other OP codes do nothing, but are dropped like any while
BUSY (R279). -/
def Dev.flCmd (d : Dev) (v : Word) (dr : DramEv) : Dev :=
  match fld v 0 3 with
  | 1 => d.flIssue 1 (bit v 8) Dev.bufOk
  | 2 => d.flIssue 2 (bit v 8) (·.bufRead dr)
  | 3 => d.flIssue 3 (bit v 8) noBuf
  | 4 => d.flNow 4 Dev.markBad
  | 5 => d.flIssue 5 false Dev.bbtBuf
  | 6 => d.flNow 6 fun d _ => d.scanBad
  | _ => if d.flash.cmd.isSome then d.logC 0x400A (flNode (pgCh (d.regN Reg.FL_CMD_ADDR))) else d

/-- The host's READ_PAGE ends: the data goes to the buffer, or the command fails (R272, R278); in S3 the interface is idle (R285). -/
def Dev.hostRead (d : Dev) (ev : PageEv) : Dev :=
  match d.flash.cmd with
  | some c =>
    if c.op = 1 ∧ c.begun = true ∧ d.pstate < 3 then
      match d.readPage c.addr (c.slc || inBoot c.addr) ev with
      | (some bs, d) => (d.writeDram c.buf 0 bs .ok).flEnd none
      | (none, d) => (d.logS 0x4007 { d.flAt (pgCh c.addr) with detail := d.regN (Reg.FL_CH_UE_ADDR (pgCh c.addr)) }).flEnd
          (some 0x4007)
    else d
  | none => d

/-- A program or erase failed on the device: its block is marked and the code logged (R277). -/
def Dev.flBadBlock (d : Dev) (pg code b : Nat) : Dev :=
  ((d.markBad pg).orReg (Reg.FL_CH_STAT (pgCh pg)) b).logC code (flNode (pgCh pg))

/-- One device operation of BBT_STORE ends: the erase of the older copy's block, then the program of each page (R277, R278). -/
def Dev.bbtStep (d : Dev) (c : FlCmd) (ok : Bool) : Dev :=
  let fail := fun (d : Dev) (code b : Nat) => (d.flBadBlock c.addr code b).flEnd (some code)
  let next := fun (d : Dev) => { d with flash := { d.flash with cmd := some { c with stage := c.stage + 1 } } }
  if c.stage = 0 then (if ok then next (d.eraseBlock c.addr) else fail d 0x4009 8)
  else if !ok then fail (d.undefPage (c.addr + c.stage - 1)) 0x4008 4
  else
    let d := d.bbtProgram c.addr (c.stage - 1) c.data
    if c.stage < d.bbtPages then next d else (d.bbtStored c.data).flEnd none

/-- PROGRAM_ERASE_COMPLETE: a program or erase that the device has begun ends; one that fails marks its block (R277, R278). In S3 the interface is
idle (R285). -/
def execProgramEraseComplete (ok : Bool) (s : State) : Answer :=
  s.runDev fun d =>
    match d.flash.cmd with
    | some c =>
      let fail := fun (d : Dev) (code b : Nat) => (d.flBadBlock c.addr code b).flEnd (some code)
      if c.begun = false ∨ 3 ≤ d.pstate then d
      else if c.op = 2 then
        if ok then (d.programPage c.addr c.data c.slc).flEnd none else fail (d.undefPage c.addr) 0x4008 4
      else if c.op = 3 then
        if ok then (d.eraseBlock c.addr c.slc).flEnd none else fail d 0x4009 8
      else if c.op = 5 then d.bbtStep c ok
      else d
    | none => d

/-- HOST_COMMAND_AGED: a host command that has waited 1 ms is issued next on its LUN, after the unit read that is under way there (R281). -/
def execHostCommandAged (s : State) : Answer :=
  s.runDev fun d =>
    match d.flash.cmd with
    | some c => if c.since + 1000000 ≤ d.nowNs then { d with flash := { d.flash with cmd := some { c with aged := true } } } else d
    | none => d

/-- The status register of the flash (Table 11-6). -/
def Dev.flGstat (d : Dev) : Word :=
  let f := d.flash
  w32 (b2n f.ready + 2 * b2n f.busy + 4 * b2n f.bbtLoaded + 8 * b2n f.bbtDirty + 16 * b2n f.spillValid + f.failMask * 65536)

end Sys2Proof.Machine
end

