-- ==== Sys2Proof/Machine/Barrier.lean ====
section
/-! DEFINITION. Barriers at the tick unit and at the tiles (R203 to R209), and the start ramp (R210 to R212). -/

namespace Sys2Proof.Machine

/-- The tick unit's node. -/
def nTick : Node := ⟨3, 9⟩

/-- The key of a tenant's slot. -/
def barKey (tenant slot : Nat) : Nat := tenant * 64 + slot

/-- A slot. -/
def Dev.bar (d : Dev) (k : Nat) : BarSlot := tabGet (fun _ => BarSlot.empty) d.bars k

/-- Store a slot. -/
def Dev.setBar (d : Dev) (k : Nat) (b : BarSlot) : Dev := { d with bars := tabSet (fun _ => BarSlot.empty) d.bars k b }

/-- The descriptor of a slot in the tenant's mapping in force; with no mapping every bit is clear (R348). -/
def Dev.barDesc (d : Dev) (tenant slot : Nat) : BarDesc :=
  match (d.map.active.getD tenant none) with
  | some m => m.bars.getD slot { tileMask := 0, chipMask := 0, flags := 0, rest := 0 }
  | none => { tileMask := 0, chipMask := 0, flags := 0, rest := 0 }

/-- Whether the slot is a SYSTEM slot. -/
def BarDesc.system (b : BarDesc) : Bool := b.flags.testBit 1

/-- Whether a descriptor may be used (R208): VALID, and no bit set that must be 0. -/
def BarDesc.ok (b : BarDesc) : Bool :=
  b.flags.testBit 0 && decide (b.flags < 4) && decide (b.rest = 0) && (b.system || decide (b.chipMask = 0))

/-- Whether a descriptor has no participants (R205). -/
def BarDesc.none_ (b : BarDesc) : Bool := decide (b.tileMask = 0) || (b.system && decide (b.chipMask = 0))

/-- The root of a SYSTEM slot: the lowest chip of its mask (R206). -/
def BarDesc.root (b : BarDesc) : Nat := (bitsOf b.chipMask 16).headD 0

/-- The payload of a barrier flit (Table 8-10). -/
def barPay (gen b2 : Nat) : Line := BitVec.ofNat 512 (gen % 65536 + b2 * 65536)

/-- The tag of a barrier flit of a tenant. -/
def barTag (src dst : Node) (ty tenant addr : Nat) : Tag := mkTag src dst ty tenant true 0 false 0 addr

/-- Send one BREL to the west node of each row of the tenant's stand (R209). -/
def Dev.brel (d : Dev) (tenant slot gen : Nat) (broken : Bool) : Dev :=
  (d.standRows tenant).foldl (fun d r =>
    d.inject (barTag nTick ⟨0, r + 1⟩ tyBREL tenant slot) (barPay gen (b2n broken)) ⟨0, r + 1⟩) d

/-- Release a generation: to the rows, and from the root of a SYSTEM slot to the other chips (R205, R206). -/
def Dev.barRelease (d : Dev) (tenant slot gen : Nat) : Dev :=
  let b := d.barDesc tenant slot
  let k := barKey tenant slot
  let d := d.setBar k { d.bar k with released := gen + 1 }
  let d := if b.system && decide (b.root = d.chipId) then
      (bitsOf b.chipMask 16).foldl (fun d c => if c = d.chipId then d
        else d.syncTo c (barTag nTick nTick tyBREL tenant slot) (barPay gen 0)) d
    else d
  d.brel tenant slot gen false

/-- Whether every tile of the mask has arrived more than `n` times. -/
def tilesPast (s : BarSlot) (m : BitVec 64) (n : Nat) : Bool :=
  (bitsOf m.toNat 64).all (fun t => decide (n < tabGet (fun _ => 0) s.got t))

/-- One step of a slot's progress at the tick unit, if one is due (R205, R206). -/
def Dev.barStep (d : Dev) (tenant slot : Nat) : Option Dev :=
  let b := d.barDesc tenant slot
  let k := barKey tenant slot
  let s := d.bar k
  if !b.system then
    if tilesPast s b.tileMask s.released then some (d.barRelease tenant slot s.released) else none
  else if b.chipMask.testBit d.chipId && tilesPast s b.tileMask s.reported then
    let d := d.setBar k { s with reported := s.reported + 1,
                                 chips := if b.root = d.chipId then tabSet (fun _ => 0) s.chips d.chipId (s.reported + 1)
                                          else s.chips }
    if b.root = d.chipId then some d
    else some (d.syncTo b.root (barTag nTick nTick tyBARR tenant (slot + 64)) (barPay s.reported d.chipId))
  else if decide (b.root = d.chipId) && (bitsOf b.chipMask 16).all (fun c => decide (s.released < tabGet (fun _ => 0) s.chips c))
  then some (d.barRelease tenant slot s.released)
  else none

/-- Every step of a slot that is due. -/
def Dev.barProgress (d : Dev) (tenant slot : Nat) : Nat → Dev
  | 0 => d
  | n + 1 => match d.barStep tenant slot with
    | some d' => d'.barProgress tenant slot n
    | none => d

/-- Whether the generations of a SYSTEM slot complete as BROKEN (R207, R328). -/
def Dev.barBroken (d : Dev) (tenant slot : Nat) : Bool :=
  (d.barDesc tenant slot).system && ((d.bar (barKey tenant slot)).broken || decide (d.reg Reg.HT_LOST ≠ 0))

/-- A tile's arrival reaches the tick unit (R204, R205). -/
def Dev.barArrive (d : Dev) (tenant slot gen tile : Nat) : Dev :=
  let b := d.barDesc tenant slot
  let k := barKey tenant slot
  let s := d.bar k
  let d := d.setBar k { s with got := tabSet (fun _ => 0) s.got tile (max (tabGet (fun _ => 0) s.got tile) (gen + 1)) }
  if d.barBroken tenant slot then (d.setBar k { d.bar k with broken := true }).brel tenant slot gen true
  else if b.none_ then
    (List.range (gen + 1 - s.released)).foldl (fun d i => d.barRelease tenant slot (s.released + i)) d
  else d.barProgress tenant slot 65537

/-- A chip's arrival reaches the root (R206); in a slot whose generations complete as BROKEN it releases nothing (R207, R328). -/
def Dev.chipArrive (d : Dev) (tenant slot gen chip : Nat) : Dev :=
  let k := barKey tenant slot
  let s := d.bar k
  let d := d.setBar k { s with chips := tabSet (fun _ => 0) s.chips chip (max (tabGet (fun _ => 0) s.chips chip) (gen + 1)) }
  if d.barBroken tenant slot then d else d.barProgress tenant slot 65537

/-- The generations of a slot that some tile has joined and that are not released: the pending ones (R207). -/
def BarSlot.pending (s : BarSlot) : List Nat :=
  (List.range (s.got.foldl (fun m e => max m e.2) 0 - s.released)).map (· + s.released)

/-- Every SYSTEM slot with a valid descriptor completes its pending generations as BROKEN, and later ones when they are joined (R207, R328). -/
def Dev.breakSystem (d : Dev) : Dev :=
  (List.range 512).foldl (fun d k =>
    let b := d.barDesc (k / 64) (k % 64)
    if b.ok && b.system then
      (d.bar k).pending.foldl (fun d g => d.brel (k / 64) (k % 64) g true) (d.setBar k { d.bar k with broken := true })
    else d) d

/-- The ramp delay of a tile in FCLK cycles, rounded up (R210). -/
def Dev.rampCyc (d : Dev) (t : Nat) : Nat :=
  let u := fun i => d.pwr.rampUse.getD i 0
  let ns := (u (fld (u 8) (3 * (t % 8)) 3)).toNat % 1024 + fld (u 9) 0 8 * d.chipId
  ceilDiv (ns * d.fclk) 1000

/-- FCLK cycles from now to the first divided cycle of a tile at or after `n` cycles from now (R210). -/
def Dev.divWait (d : Dev) (t n : Nat) : Nat :=
  let c := (d.tile t).cycAt d.nowNs d.fclk / 2000
  let v := 2 ^ (d.tile t).divLog
  ceilDiv (c + n) v * v - c

/-- A ramp release of a tile (R210): its MX stream is held until the delay has passed; the later limit holds. -/
def Dev.ramp (d : Dev) (t : Nat) : Dev :=
  let n := d.rampCyc t
  if n = 0 then d
  else d.updTile t (fun ts => { ts with rampUntil := max ts.rampUntil (d.nowNs + ceilDiv (d.divWait t n * 1000) d.fclk) })

/-- Note that a generation has reached a tile broken: the lowest one counts. -/
def breakFrom (m : Tab Nat) (t gen : Nat) : Tab Nat :=
  let g := tabGet (fun _ => 0) m t
  tabSet (fun _ => 0) m t (if g = 0 then gen + 1 else min g (gen + 1))

/-- Whether a tile's wait for a generation completes as BROKEN: that one or an earlier one has reached it broken (R207). -/
def BarSlot.brokeAt (s : BarSlot) (t gen : Nat) : Bool :=
  let g := tabGet (fun _ => 0) s.seenBrk t
  decide (g ≠ 0 ∧ g ≤ gen + 1)

/-- A release reaches the tiles of a row, which record it; it is a ramp release for the tiles that have joined it (R209,
R210). -/
def Dev.barSeen (d : Dev) (tenant slot gen row : Nat) (broken : Bool) : Dev :=
  (List.range 8).foldl (fun d i =>
    let t := row * 8 + i
    let k := barKey tenant slot
    let s := d.bar k
    let d := d.setBar k { s with seen := tabSet (fun _ => 0) s.seen t (max (tabGet (fun _ => 0) s.seen t) (gen + 1)),
                                 seenBrk := if broken then breakFrom s.seenBrk t gen else s.seenBrk }
    if gen < tabGet (fun _ => 0) s.sent t then d.ramp t else d) d

/-- The end of every slot's generations, at an edge (R204). -/
def Dev.barEdge (d : Dev) : Dev := { d with bars := [] }

end Sys2Proof.Machine
end

