-- ==== Sys2Proof/Machine/Operands.lean ====
section
/-! DEFINITION. The fields of a Nerlor instruction (Tables 4-4, 5-4, 5-5, 5-7, 5-8, 5-10): operand forms, the registers an
instruction reads, its post-increments, its predicate and the illegal encodings (R86 to R90, R107 to R111). -/

namespace Sys2Proof.Machine

/-- Common fields (Table 4-4). -/
def opOf (w : Word64) : Nat := fld w 56 8
def penOf (w : Word64) : Bool := bit w 51
def pnegOf (w : Word64) : Bool := bit w 50
def pmodeOf (w : Word64) : Bool := bit w 49
def pregOf (w : Word64) : Nat := fld w 44 4

/-- The opcodes by stream (Table 5-11). -/
def ctOps : List Nat := [0x00, 0x01, 0x02, 0x03, 0x04, 0x05, 0x06, 0x07, 0x08, 0x09]
def mxOps : List Nat := [0x20, 0x21, 0x22]
def vxOps : List Nat := [0x40, 0x41, 0x42, 0x43, 0x44, 0x45, 0x46, 0x47, 0x48, 0x49]
def dmOps : List Nat := [0x60, 0x61, 0x62, 0x63, 0x64, 0x65, 0x66, 0x68, 0x69, 0x6A, 0x6C, 0x6D]
def syOps : List Nat := [0x80, 0x81, 0x82, 0x83, 0x84, 0x85, 0x86, 0x87, 0x88]

/-- Whether an opcode is assigned (R140). -/
def opAssigned (op : Nat) : Bool := (ctOps ++ mxOps ++ vxOps ++ dmOps ++ syOps).contains op

/-- The stream of a queued opcode: 0 MX, 1 VX, 2 DM, 3 SY. -/
def streamOf (op : Nat) : Nat :=
  if mxOps.contains op then 0 else if vxOps.contains op then 1 else if dmOps.contains op then 2 else 3

/-- Whether the WAIT field names a stream (R81). -/
def waitsOn (w : Word64) (stream : Nat) : Bool := bit w (55 - stream)

/-- An index register of a captured file. -/
def ixAt (ix : List Word) (r : Nat) : Nat := (ix.getD r 0).toNat

/-- The byte address of a scratchpad operand whose INC lies at `lo` (R107). -/
def saAddr (w : Word64) (lo : Nat) (ix : List Word) : Nat := (fld w (lo + 7) 9 * 1024 + ixAt ix (fld w (lo + 3) 4)) % 2 ^ 32

/-- The increment of a scratchpad operand in bytes (Table 5-2). -/
def saInc (c : Nat) : Nat := if c = 0 then 0 else 64 * 2 ^ (c - 1)

/-- Where the scratchpad operands of an opcode lie. -/
def saFields (op : Nat) : List Nat :=
  match op with
  | 0x20 => [25]
  | 0x21 => [22]
  | 0x40 => [23]
  | 0x41 => [23]
  | 0x49 => [27, 11]
  | 0x60 => [22, 6]
  | 0x61 => [22, 6]
  | 0x62 => [21]
  | 0x63 => [21]
  | 0x64 => [24, 8]
  | 0x65 => [22, 6]
  | 0x66 => [22, 6]
  | 0x68 => [22, 6]
  | 0x69 => [16, 0]
  | 0x6A => [16, 0]
  | 0x6C => [21]
  | 0x85 => [21]
  | _ => []

/-- The register group of a DM opcode: its first register and its length (Table 5-9). -/
def groupOf (w : Word64) : Nat × Nat :=
  match opOf w with
  | 0x64 => (fld w 40 4, 3)
  | 0x65 => (fld w 2 4, 4)
  | 0x66 => (fld w 2 4, 5)
  | 0x69 => (2 * fld w 33 3, 2)
  | 0x6A => (2 * fld w 33 3, 2)
  | 0x6C => (fld w 17 4, 4)
  | _ => (0, 0)

/-- A register of the group, as captured. -/
def grpAt (w : Word64) (ix : List Word) (i : Nat) : Nat := ixAt ix ((groupOf w).1 + i)

/-- Whether the opcode is an SC instruction with an operand by VREG. -/
def hasVreg (op : Nat) : Bool := [0x80, 0x81, 0x82, 0x83].contains op

/-- The index registers that an instruction reads (R85). -/
def readsIx (w : Word64) : List Nat :=
  let op := opOf w
  let g := groupOf w
  (if penOf w && pmodeOf w then [15] else []) ++ (saFields op).map (fun lo => fld w (lo + 3) 4)
    ++ (List.range g.2).map (· + g.1)
    ++ (if op = 0x62 ∨ op = 0x63 then [fld w 40 4] else [])
    ++ (if op = 0x64 ∧ fld w 3 5 < 16 then [fld w 3 5] else [])
    ++ (if op = 0x06 ∨ op = 0x08 then [fld w 40 4] else [])
    ++ (if (op = 0x07 ∨ op = 0x08) ∧ fld w 35 5 < 16 then [fld w 35 5] else [])
    ++ (if hasVreg op && bit w 21 then [fld w 17 4] else [])

/-- Add to an index register, modulo 2^32 (R90). -/
def ixAdd (ix : List Word) (r n : Nat) : List Word := setAt ix r (ix.getD r 0 + w32 n)

/-- The index registers after the post-increments of an instruction (R85, R107 to R109). -/
def postInc (w : Word64) (ix : List Word) : List Word :=
  let ix := (saFields (opOf w)).foldl (fun ix lo => ixAdd ix (fld w (lo + 3) 4) (saInc (fld w lo 3))) ix
  if (opOf w = 0x62 ∨ opOf w = 0x63) ∧ fld w 37 3 ≠ 0 then ixAdd ix (fld w 40 4) (2 ^ (fld w 37 3 - 1)) else ix

/-- Whether the predicate holds at dispatch (R87). -/
def predHolds (w : Word64) (ix p : List Word) : Bool :=
  if !penOf w then true
  else
    let r := pregOf w
    let c := if pmodeOf w then
        let n := ixAt ix 15 % 64
        if n < 32 then bit (p.getD r 0) n else bit (p.getD (r + 1) 0) (n - 32)
      else decide (p.getD r 0 ≠ 0)
    c != pnegOf w

/-- The operand bits of an opcode that must be 0, as (lowest, how many) (Tables 5-4, 5-5, 5-7, 5-8, 5-10). -/
def mustBeZero (w : Word64) : List (Nat × Nat) :=
  match opOf w with
  | 0x00 => [(0, 44)]
  | 0x01 => [(0, 44)]
  | 0x02 => [(0, 44)]
  | 0x03 => if bit w 40 then [(28, 12), (0, 11)] else [(0, 11)]
  | 0x04 => [(0, 41)]
  | 0x05 => [(32, 8)]
  | 0x06 => [(32, 8)]
  | 0x07 => [(0, 32)]
  | 0x08 => [(24, 11)]
  | 0x09 => [(0, 40)]
  | 0x20 => [(0, 25)]
  | 0x21 => [(0, 9)]
  | 0x22 => [(0, 43)]
  | 0x40 => [(0, 21)]
  | 0x41 => [(0, 21)]
  | 0x42 => [(0, 17)]
  | 0x43 => [(0, 31)]
  | 0x44 => [(0, 32)]
  | 0x45 => [(0, 28)]
  | 0x46 => [(0, 27)]
  | 0x47 => [(0, 20)]
  | 0x48 => [(0, 32)]
  | 0x49 => [(0, 2)]
  | 0x62 => [(0, 9)]
  | 0x63 => [(0, 9)]
  | 0x64 => [(0, 3)]
  | 0x65 => [(0, 2)]
  | 0x66 => [(0, 2)]
  | 0x68 => [(0, 5)]
  | 0x69 => [(32, 1)]
  | 0x6A => [(43, 1), (32, 1)]
  | 0x6C => [(0, 17)]
  | 0x6D => [(0, 16)]
  | 0x80 => if bit w 21 then [(0, 17)] else []
  | 0x81 => if bit w 21 then [(0, 17)] else []
  | 0x82 => if bit w 21 then [(0, 17)] else []
  | 0x83 => if bit w 21 then [(22, 10), (0, 17)] else [(22, 10)]
  | 0x84 => [(0, 29)]
  | 0x85 => [(0, 21)]
  | 0x86 => [(0, 44)]
  | 0x87 => [(0, 38)]
  | 0x88 => [(0, 38)]
  | _ => []

/-- A field value that Chapter 5 marks reserved or illegal (R111, R114 to R134); `t` is the issuing tile. -/
def badField (w : Word64) (t : Nat) : Bool :=
  match opOf w with
  | 0x03 => decide (fld w 11 13 = 8191)
  | 0x20 => decide (fld w 41 3 = 7)
  | 0x21 => decide (fld w 41 2 = 3) || [1, 2, 7].contains (fld w 38 3) || decide (64 < fld w 15 7)
            || decide (64 < fld w 9 6 + fld w 15 7)
  | 0x42 => !(vxFuncOk (fld w 38 6) (bit w 17))
  | 0x43 => decide (4 < fld w 41 3)
  | 0x46 => decide (fld w 39 5 = fld w 34 5)
  | 0x47 => decide (fld w 39 5 = fld w 34 5) || decide (64 < fld w 20 7)
  | 0x49 => decide (64 < fld w 4 7)
  | 0x69 => decide (8 < fld w 36 4) || decide (8 < fld w 40 3 + fld w 36 4)
  | 0x6A => decide (8 < fld w 36 4) || decide (8 < fld w 40 3 + fld w 36 4)
  | 0x6C => bit w 43 && decide (fld w 37 6 ≠ t)
  | 0x80 => bit w 43 && decide (fld w 39 4 ≠ 0)
  | 0x81 => bit w 43 && decide (fld w 39 4 ≠ 0)
  | 0x82 => bit w 43 && decide (fld w 39 4 ≠ 0)
  | _ => false
where
  /-- Whether VX.ALU takes FUNC with this FP bit (R122). -/
  vxFuncOk (func : Nat) (fp : Bool) : Bool := decide (func ≤ 14) && !(fp && decide (6 ≤ func ∧ func ≤ 11))

/-- An illegal encoding that the word alone shows (R99, R111). -/
def badEnc (w : Word64) (t : Nat) : Bool :=
  let op := opOf w
  let g := groupOf w
  !(opAssigned op) || bit w 48 || (mustBeZero w).any (fun f => decide (fld w f.1 f.2 ≠ 0))
    || (penOf w && [0x01, 0x02, 0x04].contains op)
    || (penOf w && pmodeOf w && decide (pregOf w % 2 = 1))
    || badField w t || decide (16 < g.1 + g.2)

/-- The illegal encodings of R94, that depend on the active loops. -/
def badLoop (w : Word64) (pc : Nat) (loops : List LoopFrame) : Bool :=
  match opOf w with
  | 0x03 => loops.any (fun f => decide (f.lc = fld w 41 3))
  | 0x04 => match loops with
    | f :: _ => decide (f.endAt ≠ pc) || decide (f.lc ≠ fld w 41 3)
    | [] => true
  | _ => false

/-- The operand of a counter instruction (R134). -/
def scOperand (w : Word64) (ix : List Word) : Word := if bit w 21 then ix.getD (fld w 17 4) 0 else w32 (fld w 0 21)

end Sys2Proof.Machine
end

