-- ==== Sys2Proof/Machine/Tile.lean ====
section
/-! DEFINITION. What the meanings of the Nerlor instructions share: fetch and dispatch (R78 to R90), the start of a queued
instruction (R79 to R81), transactions (R172), and what a tile completes by itself once what it waits for has come (R80, R92,
R98, R130, R192). -/

namespace Sys2Proof.Machine

/-! ## Errors of the on-chip arrays (R485) -/

/-- The log's node of a tile. -/
def tileLog (t : Nat) : Nat := nodeOf (tileX t) (tileY t)

/-- Act on a read of a tile's array: a corrected event is counted; an uncorrectable one halts the instance. -/
def Dev.readEcc (d : Dev) (t : Nat) (pc : Nat) (ecc : SramEv) (act : Dev → Dev) : Dev :=
  match ecc with
  | .clean => act d
  | .corrected => act (d.sramCe (tileLog t))
  | .uncorrectable => d.haltTile t 0x1011 (some pc)

/-! ## Instances on a tile -/

/-- The instance that a tile runs. -/
def Dev.instOf (d : Dev) (t : Nat) : Option Inst := (d.tile t).cur.bind (fun i => d.tick.cur[i]?)

/-- Flag the instance of a tile as outside the guarantee (R102). -/
def Dev.flagOutside (d : Dev) (t : Nat) : Dev :=
  match (d.tile t).cur with
  | some i => match d.tick.cur[i]? with
    | some x => d.setInst i { x with outside := true }
    | none => d
  | none => d

/-! ## Transactions (R172, R195) -/

/-- The lowest free TXID of a tile. -/
def TileSt.freeTx (ts : TileSt) : Option Nat := (List.range 256).find? (fun i => !(ts.txns.any (fun x => decide (x.id = i))))

/-- How many TXIDs are free. -/
def TileSt.freeCount (ts : TileSt) : Nat := 256 - ts.txns.length

/-- Counter updates that are not acknowledged (R195). -/
def TileSt.unacked (ts : TileSt) : Nat := (ts.txns.filter (·.sync)).length

/-- Allocate a TXID. -/
def Dev.openTx (d : Dev) (t : Nat) (write sync : Bool) (left : Nat) (op : Option Nat) : Nat × Dev :=
  let ts := d.tile t
  let id := ts.freeTx.getD 0
  (id, d.setTile t { ts with txns := ts.txns ++ [{ id := id, write := write, sync := sync, left := left, op := op }] })

/-- The covered write transactions of the DM instructions below an ordinal (R192). -/
def TileSt.covered (ts : TileSt) (below : Nat) : List Nat :=
  (ts.txns.filter (fun x => x.write && (match x.op with | some o => decide (o < below) | none => false))).map (·.id)

/-! ## What a tile completes by itself -/

/-- Count an instruction of a stream as complete. -/
def Dev.complete (d : Dev) (t st : Nat) : Dev :=
  d.updTile t (fun ts => { ts with comp := setAt ts.comp st (ts.comp.getD st 0 + 1) })

/-- The payload of a read request (Table 7-4). -/
def rdPay (n ret : Nat) : Line := BitVec.ofNat 512 (n + ret * 2 ^ 32)

/-- Issue the read requests of one DM instruction while TXIDs are free (R172). -/
def Dev.issueReads (d : Dev) (t ord : Nat) : List RdJob → Dev × List RdJob
  | [] => (d, [])
  | j :: js =>
    if (d.tile t).freeCount = 0 then (d, j :: js)
    else
      let (id, d) := d.openTx t false false 1 (some ord)
      (d.send (mkTag (tileNode t) ⟨j.x, j.y⟩ tyRD (d.tileTenant t) true id false 0 j.addr) (rdPay j.n j.ret)).issueReads t ord js

/-- Replace the DM instruction of an ordinal. -/
def Dev.setDmOp (d : Dev) (t : Nat) (o : DmOp) : Dev :=
  d.updTile t (fun ts => { ts with dmOps := ts.dmOps.map (fun e => if e.ord = o.ord then o else e) })

/-- Issue what each DM instruction of a tile still has to request. -/
def Dev.pumpReads (d : Dev) (t : Nat) : Dev :=
  (d.tile t).dmOps.foldl (fun d o =>
    if o.todo.isEmpty then d
    else
      let (d, rest) := d.issueReads t o.ord o.todo
      d.setDmOp t { o with todo := rest, reads := o.reads + (o.todo.length - rest.length) }) d

/-- A tile's arrival bit of a line (R130). -/
def TileSt.arrivedAt (ts : TileSt) (line : Nat) : Bool := tabGet falseB ts.arrived line

/-- Forward the lines of a DM.FWD in address order, up to the first whose arrival bit is not set (R130, R190). -/
def Dev.forward (d : Dev) (t : Nat) (o : DmOp) : List (Nat × Nat) → Dev × DmOp
  | [] => (d, o)
  | (s, a) :: rest =>
    if (d.tile t).arrivedAt s then
      let left := o.fwd.erase (s, a)
      let last := left.isEmpty
      let tag := BitVec.ofNat 96 (o.fwdTag.toNat + a + b2n last * (2 ^ 70 + 2 ^ 55 + o.fwdDst * 2 ^ 44))
      let d := d.sendAll tag (bytesLine (d.spadBytes t (s * 64) 64))
      let d := if last then d.addCtr t o.fwdSrc 1 else d
      d.forward t { o with fwd := left } rest
    else (d, o)

/-- Forward what every DM.FWD of a tile can forward. -/
def Dev.pumpFwd (d : Dev) (t : Nat) : Dev :=
  (d.tile t).dmOps.foldl (fun d o =>
    if o.fwd.isEmpty then d
    else
      let (d, o') := d.forward t o o.fwd
      d.setDmOp t o') d

/-- Clear the arrival bits of a region (R130). -/
def clearArrived (a : Tab Bool) (r : Nat × Nat) : Tab Bool := tabDrop a (fun k => decide (r.1 ≤ k ∧ k < r.1 + r.2))

/-- Complete the DM instructions at the head of the stream that wait for nothing more, in dispatch order (R79, R80). -/
def retireDm (ts : TileSt) : List DmOp → TileSt
  | [] => { ts with dmOps := [] }
  | o :: os =>
    if o.todo.isEmpty && decide (o.reads = 0) && o.fwd.isEmpty && decide (o.own = 0) then
      retireDm { ts with comp := setAt ts.comp 2 (ts.comp.getD 2 0 + 1), arrived := clearArrived ts.arrived o.region } os
    else { ts with dmOps := o :: os }

/-- Whether a counter condition holds (R136). -/
def ctrCond (c : Word) (eq : Bool) (v : Word) : Bool := if eq then decide (c = v) else decide (v.toNat ≤ c.toNat)

/-- Note a condition that holds at this moment: a value that holds for one cycle suffices (R136, R137). -/
def noteMet (d : Dev) (t : Nat) : SyOp → SyOp
  | .wait pc l i eq v met => .wait pc l i eq v (met || ctrCond (d.ctr t i) eq v)
  | .any pc l x cs met =>
    .any pc l x cs (match met with
      | some n => some n
      | none => ((cs.zipIdx).find? (fun c => ctrCond (d.ctr t c.1.1) c.1.2.1 c.1.2.2)).map (·.2))
  | o => o

/-- The SY instruction under way ends. -/
def Dev.endSy (d : Dev) (t : Nat) : Dev := (d.updTile t (fun ts => { ts with syOps := [] })).complete t 3

/-- The key of a slot as a tile sees it. -/
def Dev.barOf (d : Dev) (t slot : Nat) : BarSlot := d.bar (barKey (d.tileTenant t) slot)

/-- What the SY stream does once what it waits for has come (R138, R192, R204, R207). -/
def Dev.pumpSy (d : Dev) (t : Nat) : Dev :=
  match (d.tile t).syOps with
  | [] => d
  | o :: _ =>
    match noteMet d t o with
    | .hold pc tag pay cov =>
      if !cov.isEmpty || !(d.canInject (tileNode t) 1) then d
      else if tagTy tag = tyBARR then (d.send tag (BitVec.ofNat 512 pay.toNat)).endSy t
      else if 64 ≤ (d.tile t).unacked ∨ (d.tile t).freeCount = 0 then d
      else
        let _ := pc
        let (id, d) := d.openTx t false true 1 (some 0)
        (d.send (BitVec.ofNat 96 (tag.toNat + id * 2 ^ 56)) (BitVec.ofNat 512 pay.toNat)).endSy t
    | .fence _ cov => if cov.isEmpty then d.endSy t else d
    | .bar pc slot gen =>
      let b := d.barOf t slot
      if gen < tabGet (fun _ => 0) b.seen t then
        if b.brokeAt t gen then d.haltTile t 0x600D (some pc) else d.endSy t
      else d
    | o' => d.updTile t (fun ts => { ts with syOps := [o'] })

/-- The tile's part of the instance ends once its END waits for nothing more (R98). -/
def Dev.pumpEnd (d : Dev) (t : Nat) : Dev :=
  let ts := d.tile t
  match ts.cur with
  | none => d
  | some i =>
    if ts.drain && ts.queues.all (·.isEmpty) && ts.dmOps.isEmpty && ts.syOps.isEmpty
        && !(ts.txns.any (fun x => x.write && x.op.isSome)) then
      let d := match d.tick.cur[i]? with
        | some x => d.setInst i { x with done := x.done ||| BitVec.ofNat 64 (2 ^ t) }
        | none => d
      let d := d.setReg (Reg.SQ_CYCLES_LAST t) (w32 (d.divCycles t))
      (d.incReg (Reg.SQ_INSTANCES t) 1).setTile t
        { ts with cur := none, ready := false, drain := false, loops := [], disp := [0, 0, 0, 0], comp := [0, 0, 0, 0],
                  pendIx := [], mxw := [false, false], vxr := [false, false], aligns := 0,
                  txns := ts.txns.map (fun x => { x with op := none }) }
    else d

/-- Everything a tile completes by itself after an event. -/
def Dev.settle (d : Dev) (t : Nat) : Dev :=
  let d := (d.pumpReads t).pumpFwd t
  let d := d.updTile t (fun ts => retireDm ts ts.dmOps)
  (d.pumpSy t).pumpEnd t

/-- A tile whose SY stream holds a flit that only waits for the fabric goes on (R80, R173). -/
def Dev.pumpHeld (d : Dev) (t : Nat) : Dev :=
  match (d.tile t).syOps with
  | .hold _ _ _ cov :: _ => if cov.isEmpty then d.settle t else d
  | _ => d

/-- Add to a counter of a tile and let the tile see it. -/
def Dev.bump (d : Dev) (t i : Nat) (v : Word) : Dev := (d.addCtr t i v).settle t

/-- Set a counter of a tile and let the tile see it. -/
def Dev.assign (d : Dev) (t i : Nat) (v : Word) : Dev := (d.setCtr t i v).settle t

/-! ## Dispatch (R78, R85 to R88, R99) -/

/-- Whether the sequencer of a tile may dispatch: an instance runs, its image is in instruction memory, and neither TICKWAIT nor
END holds it. -/
def Dev.canDispatch (d : Dev) (t : Nat) : Bool :=
  let ts := d.tile t
  d.inRun && ts.cur.isSome && ts.ready && !ts.align && !ts.drain && !ts.inReset

/-- Continue dispatch at an address, unless it lies outside the image (R99: TILE_RUNAWAY). -/
def Dev.advance (d : Dev) (t next : Nat) : Dev :=
  let ts := d.tile t
  if ts.cur.isNone then d
  else if ts.imgBase ≤ next ∧ next < ts.imgBase + ts.imgLen then d.setTile t { ts with pc := next }
  else d.haltTile t 0x1002 (some ts.pc)

/-- The residency of a tile's running image ends (Table 21-3). -/
def Dev.evict (d : Dev) (t : Nat) : Dev :=
  d.updTile t (fun ts => { ts with resident := ts.resident.filter (fun r =>
    !(decide (r.base < ts.imgBase + ts.imgLen ∧ ts.imgBase < r.base + r.len))) })

/-- Dispatch the word at a tile's PC when `is` names its opcode: held while `hold` or R85 holds it back; illegal encodings halt
the instance; otherwise `act` is its effect. -/
def Dev.dispatch (d : Dev) (t : Nat) (is : Nat → Bool) (ecc : SramEv) (hold : TileSt → Word64 → Bool)
    (act : Dev → TileSt → Word64 → Dev) : Dev :=
  let ts := d.tile t
  let w := d.instWord t ts.pc
  let bad := badEnc w t || badLoop w ts.pc ts.loops
  if !d.canDispatch t || !is (opOf w) then d
  else if !bad && (hold ts w || (readsIx w).any (fun r => ts.pendIx.contains r)) then d
  else match ecc with
    | .uncorrectable => (d.evict t).haltTile t 0x1011 (some ts.pc)
    | e =>
      let d := if e = .corrected then d.sramCe (tileLog t) else d
      if bad then d.haltTile t 0x1001 (some ts.pc) else (act d ts w).settle t

/-- A CT instruction other than LOOP, ENDLOOP, TICKWAIT and END: `f` gives the index registers it leaves, where its predicate
holds (R78, R88). -/
def Dev.ctRow (d : Dev) (t op : Nat) (ecc : SramEv) (f : Dev → TileSt → Word64 → List Word) : Dev :=
  d.dispatch t (fun o => decide (o = op)) ecc (fun _ _ => false) fun d ts w =>
    let d := if predHolds w ts.ix ts.p then d.updTile t (fun x => { x with ix := f d ts w }) else d
    d.advance t (ts.pc + 1)

/-- Whether the dispatch of an instruction breaks R120. -/
def accOrder (ts : TileSt) (w : Word64) : Bool :=
  let op := opOf w
  let acc := if op = 0x48 then fld w 38 1 else fld w 43 1
  ((op = 0x48 ∨ op = 0x49) && !(waitsOn w 0) && ts.mxw.getD acc false) ||
  ((op = 0x21 ∨ op = 0x22) && !(waitsOn w 1) && ts.vxr.getD acc false)

/-- The flags of R120 after the dispatch of an instruction. -/
def accFlags (ts : TileSt) (w : Word64) : List Bool × List Bool :=
  let op := opOf w
  let acc := if op = 0x48 then fld w 38 1 else fld w 43 1
  let mxw := if streamOf op = 1 ∧ waitsOn w 0 then [false, false] else ts.mxw
  let vxr := if streamOf op = 0 ∧ waitsOn w 1 then [false, false] else ts.vxr
  (if op = 0x21 ∨ op = 0x22 then setAt mxw acc true else mxw, if op = 0x48 ∨ op = 0x49 then setAt vxr acc true else vxr)

/-- The resolution of ACM FIRST at dispatch (R118): SET in no loop or in the first iteration of the innermost one. -/
def firstSet (ts : TileSt) : Bool :=
  match ts.loops with
  | f :: _ => decide ((ts.lc.getD f.lc 0).toNat = f.count)
  | [] => true

/-- For each stream how many of its instructions must be complete before an instruction starts (R81, R134). -/
def needOf (ts : TileSt) (w : Word64) : List Nat :=
  (List.range 4).map (fun k =>
    if k ≠ streamOf (opOf w) ∧ (waitsOn w k ∨ opOf w = 0x82) then ts.disp.getD k 0 else 0)

/-- Enter an instruction into its queue (R78, R85, R102, R120). -/
def Dev.enqueue (d : Dev) (t : Nat) (ts : TileSt) (w : Word64) : Dev :=
  let st := streamOf (opOf w)
  if accOrder ts w then d.haltTile t 0x1008 (some ts.pc)
  else
    let e : QEntry := { word := w, ix := ts.ix, first := firstSet ts, need := needOf ts w, pc := ts.pc }
    let fl := accFlags ts w
    let vis := opOf w = 0x84 ∨ opOf w = 0x85
    let d := d.updTile t (fun x =>
      { x with queues := setAt x.queues st (x.queues.getD st [] ++ [e]), disp := setAt x.disp st (x.disp.getD st 0 + 1),
               ix := postInc w x.ix, mxw := fl.1, vxr := fl.2,
               pendIx := if vis then x.pendIx ++ [fld w 40 4] else x.pendIx })
    let d := if vis then d.flagOutside t else d
    d.advance t (ts.pc + 1)

/-- Dispatch a queued instruction: held while its queue is full (R78); with a false predicate only its post-increments are applied
(R88). -/
def Dev.queueRow (d : Dev) (t op : Nat) (ecc : SramEv) : Dev :=
  d.dispatch t (fun o => decide (o = op)) ecc
    (fun ts w => predHolds w ts.ix ts.p && decide (16 ≤ (ts.queues.getD (streamOf op) []).length))
    fun d ts w =>
      if predHolds w ts.ix ts.p then d.enqueue t ts w
      else (d.updTile t (fun x => { x with ix := postInc w x.ix })).advance t (ts.pc + 1)

/-! ## Starting a queued instruction (R79, R81) -/

/-- Whether the instruction at the head of a stream may start: what its WAIT field names is complete (R81). -/
def TileSt.mayStart (ts : TileSt) (e : QEntry) : Bool :=
  (List.range 4).all (fun k => decide (e.need.getD k 0 ≤ ts.comp.getD k 0))

/-- An uncorrectable error of the counter that SC.WAIT or SC.READ reads leaves it poisoned (R485). -/
def Dev.poisonRead (d : Dev) (t : Nat) (ecc : SramEv) (w : Word64) : Dev :=
  if ecc = .uncorrectable ∧ (opOf w = 0x83 ∨ opOf w = 0x84) then
    let i := if opOf w = 0x83 then fld w 33 11 else fld w 29 11
    { d with mem := { d.mem with ctrBad := tabSet falseB d.mem.ctrBad (t * 2048 + i) true } }
  else d

/-- Start the instruction at the head of its stream when it has the opcode and nothing holds it; `ok` is the further condition of
its stream, `act` its checks and effect. -/
def Dev.start (d : Dev) (t op : Nat) (ecc : SramEv) (ok : Dev → QEntry → Bool) (act : Dev → QEntry → Dev) : Dev :=
  let ts := d.tile t
  let st := streamOf op
  match ts.queues.getD st [] with
  | [] => d
  | e :: rest =>
    if opOf e.word = op && d.inRun && ts.cur.isSome && ts.mayStart e && ok d e then
      let d := d.setTile t { ts with queues := setAt ts.queues st rest }
      ((d.poisonRead t ecc e.word).readEcc t e.pc ecc fun d => act d e).settle t
    else d

/-- A queued row: its dispatch or its start. -/
def Dev.queued (d : Dev) (t op : Nat) (ph : Phase) (ok : Dev → QEntry → Bool) (act : Dev → QEntry → Dev) : Dev :=
  match ph with
  | .dispatch ecc => d.queueRow t op ecc
  | .start ecc => d.start t op ecc ok act

/-! ## Start checks (R110, R133, R321) -/

/-- A scratchpad access: address and bytes. -/
abbrev Acc := Nat × Nat

/-- The first failing check of R110 over the accesses that move something (an access of no bytes is not checked: DEDUCED, notes/assumptions/102);
`al` is the alignment of the first access. -/
def spCheck (al : Nat) (as : List Acc) : Option Nat :=
  let live := as.filter (fun a => decide (0 < a.2))
  if live.any (fun a => decide (a.1 % 64 ≠ 0 ∨ a.2 % 64 ≠ 0)) || (match live with | a :: _ => decide (a.1 % al ≠ 0) | [] => false)
  then some 0x1004
  else if live.any (fun a => decide (524288 < a.1 + a.2)) then some 0x1005
  else none

/-- Whether a tile lies in the stand of another (R133). -/
def Dev.sameStand (d : Dev) (t u : Nat) : Bool := decide (d.tileTenant t = d.tileTenant u)

/-- Whether R321 refuses a window address in 64 B units. -/
def Dev.winBad (d : Dev) (a : Nat) (read : Bool) : Bool :=
  let w := d.lk.winUse.getD (a / 2 ^ 29 - 1) 0
  let chip := fld w 4 4
  !bit w 0 || decide (fld w 1 2 = 3) ||
  (if fld w 1 2 = 0 then decide (chip = d.chipId) || bit (d.reg Reg.HT_ROLES) chip else read)

/-- The checks of a DRAM access of `n` bytes at an address in 64 B units (R110, R133, R321), in the order of R110; an access of no bytes to local
DRAM is not checked, and one to the window is checked at its address (DEDUCED, notes/assumptions/102). -/
def Dev.dramCheck (d : Dev) (t a n : Nat) (read : Bool) : Option Nat :=
  if 0x20000000 ≤ a then
    if d.multi then some 0x8001
    else if d.winBad a read || d.winBad (a + ((n - 1) / 64)) read then some 0x6009
    else none
  else if n = 0 then none
  else if 8 * d.cch < a * 64 + n then some 0x1005
  else if d.inStand (d.tileTenant t) (a * 64) n then none
  else some 0x8001

/-- The node that a DRAM address of a tile is reached by: the west node of its channel, or the north node of its window's route
(R108, R318, R321). -/
def Dev.dramNode (d : Dev) (a : Nat) : Node :=
  if 0x20000000 ≤ a then
    let w := d.lk.winUse.getD (a / 2 ^ 29 - 1) 0
    let peer := if fld w 1 2 = 0 then fld w 4 4 else (d.mcMembers (fld w 1 2)).headD 0
    let p := d.routeTo peer
    portNode (if p < 4 then p else 0)
  else ⟨0, (d.dramPlace (a * 64)).1 + 1⟩

/-- Fail a start check, or go on. -/
def Dev.checked (d : Dev) (t pc : Nat) (c : Option Nat) (act : Dev → Dev) : Dev :=
  match c with
  | some code => d.haltTile t code (some pc)
  | none => act d

/-- The first failure of a list of checks. -/
def firstOf : List (Option Nat) → Option Nat
  | [] => none
  | some c :: _ => some c
  | none :: cs => firstOf cs

/-! ## Bank conflicts (R143, R145, R146, R148 to R151, R522) -/

/-- The tile-port accesses that an instruction makes, divided cycle by divided cycle from its start: requester ([0] MX-R, [1] VX-R, [2] VX-W,
[3] DM-R, [4] DM-W) and access (R522). -/
abbrev PortUse := List (List (Nat × Acc))

/-- The banks that an access touches: bank b holds the 32 KiB from b × 0x8000 (R143, R145). -/
def banksOf (a : Acc) : List Nat :=
  if a.2 = 0 then [] else (List.range ((a.1 + a.2 - 1) / 32768 + 1 - a.1 / 32768)).map (· + a.1 / 32768)

/-- One line in each cycle by one requester, in ascending address. -/
def lineUse (port a n : Nat) : PortUse := (List.range (n / 64)).map (fun i => [(port, (a + i * 64, 64))])

/-- A conflict: the cycle of the instruction, the bank, the requesters as a bitmap and the accesses delayed. -/
structure Hit where
  cycle   : Nat
  bank    : Nat
  ports   : Nat
  delayed : Nat
  deriving DecidableEq, Repr

/-- The bank that two accesses of one cycle of an instruction share, if any (R148). -/
def sharedBank : List (Nat × Acc) → Option Nat
  | [p, q] => ((banksOf p.2).filter (fun b => (banksOf q.2).contains b)).head?
  | _ => none

/-- The conflicts of an instruction with itself: its write waits a cycle, and its reads stop with it (R148, R149). -/
def selfHits (use : PortUse) : List Hit :=
  (use.zipIdx).filterMap (fun c => (sharedBank c.1).map (fun b =>
    { cycle := c.2, bank := b, ports := c.1.foldl (fun m p => m ||| 2 ^ p.1) 0, delayed := 1 }))

/-- The conflict with the requesters of other streams that an event names: in that cycle the instruction asks for the bank too; every requester
but the highest-ranked one is delayed. -/
def otherHit (use : PortUse) (c : Conflict) : Option Hit :=
  let own := ((use.getD c.cycle []).filter (fun p => (banksOf p.2).contains c.bank.val)).foldl (fun m p => m ||| 2 ^ p.1) 0
  let all := own ||| c.ports.toNat
  if own = 0 ∨ all = own then none
  else some { cycle := c.cycle, bank := c.bank.val, ports := all, delayed := popcountN 5 all - 1 + c.again }

/-- Of the conflicts of an instruction the first, that of another stream before its own in one cycle. -/
def firstHit (other : Option Hit) (own : List Hit) : Option Hit :=
  match other, own with
  | some o, h :: _ => some (if o.cycle ≤ h.cycle then o else h)
  | some o, [] => some o
  | none, h :: _ => some h
  | none, [] => none

/-- The first conflict of an instance on a tile is captured, with its divided cycle (R151). -/
def Dev.capHit (d : Dev) (t info cycle : Nat) : Dev :=
  let d := d.setReg (Reg.TL_CONFLICT_INFO t) (w32 info)
  let d := d.setReg (Reg.TL_CONFLICT_CYCLE t) (w32 (d.divCycles t + cycle))
  d.updTile t (fun x => { x with confSeen := true })

/-- An instruction makes its tile-port accesses `use`; `own` are its conflicts with itself and `cf` what other streams ask for meanwhile. Without
a conflict `act none` is its effect. Under DELAY the delayed accesses are counted, and the first conflict of the instance is logged and captured;
under HALT only what precedes the conflicting cycle takes effect (`act (some cycle)`) and the instance halts (R148 to R151). -/
def Dev.conflict (d : Dev) (t pc : Nat) (use : PortUse) (own : List Hit) (cf : Option Conflict) (act : Dev → Option Nat → Dev) : Dev :=
  let other := match cf with | some c => otherHit use c | none => none
  match firstHit other own with
  | none => act d none
  | some h =>
    let ts := d.tile t
    let frag := match d.instOf t with | some i => i.frag | none => 0
    let info := 0x80000000 + h.ports * 2 ^ 25 + h.bank * 2 ^ 21 + frag
    let halt := ts.confHalt
    let d := if halt then act d (some h.cycle) else d
    let d := if ts.confSeen then d else d.capHit t info h.cycle
    match ts.cur with
    | none => act d none
    | some i =>
      let at_ := instAt d i (tileLog t) info
      if halt then
        let d := if ts.confSeen then d.withdraw at_.tenant else d.logS 0x100A at_
        d.haltQuiet i 0x100A (some pc)
      else
        let d := d.incReg (Reg.TL_CONFLICT_CNT t) ((match other with | some o => o.delayed | none => 0) + own.length)
        act (if ts.confSeen then d else d.logSev 0x100A 0 at_) none

/-- The part of a list of accesses' effects, one for each cycle from `from_` on, that precedes a cycle. -/
def before {α : Type} (lim : Option Nat) (from_ step : Nat) (l : List α) : List α :=
  match lim with
  | none => l
  | some k => l.take (ceilDiv (k - from_) step)

end Sys2Proof.Machine
end

