-- ==== Sys2Proof/Machine/Plan.lean ====
section
/-! DEFINITION. The prefetch plan (R217 to R234): acceptance of steps, placement of units, increments and their order, failures. -/

namespace Sys2Proof.Machine

/-- A row's east node. -/
def rowEast (row : Nat) : Node := ⟨9, row + 1⟩

/-! ## Transfers of the east nodes (R172, R196) -/

/-- Whether a transfer is the codec's own, that is for a DM.CODEC (Table 10-4). -/
def ESend.codec (s : ESend) : Bool :=
  match s.work with
  | .blk b => (match b.owner with | .codec _ => true | .step _ _ => false)
  | .unit _ _ => false
  | .enc _ _ _ => true
  | .count step _ _ _ => step.isNone

/-- The lines of a transfer: destination line and data; the last line of a part is filled up with zeros that are not written. -/
def ESend.lines (s : ESend) : List (Nat × Line) :=
  s.parts.flatMap (fun p => (List.range ((p.2.length + 63) / 64)).map (fun i => (p.1 / 64 + i, bytesLine ((p.2.drop (64 * i)).take 64))))

/-- How many bytes of a line a transfer writes. -/
def ESend.bytesAt (s : ESend) (line : Nat) : Nat :=
  match s.parts.find? (fun p => decide (p.1 ≤ line * 64 ∧ line * 64 < p.1 + p.2.length)) with
  | some p => min 64 (p.1 + p.2.length - line * 64)
  | none => 64

/-- The lowest free TXID of an east node: 0x00 to 0x7F for plan steps, 0x80 to 0xFF for DM.CODEC (Table 10-4). -/
def Dev.eastId (d : Dev) (row : Nat) (codec : Bool) : Option Nat :=
  ((List.range 128).map (· + 128 * b2n codec)).find? (fun i => !(d.plan.etx.any (fun e => decide (e.1 = i ∧ e.2.row = row))))

/-- Send a transfer under a TXID: WR flits, LAST on the final one, or the CADD of a counter update. -/
def Dev.eastGo (d : Dev) (s : ESend) (id : Nat) : Dev :=
  let d := { d with plan := { d.plan with etx := d.plan.etx ++ [(id, s)] } }
  let tag := fun (ty : Nat) (last : Bool) (a : Nat) => mkTag (rowEast s.row) ⟨s.dx, s.dy⟩ ty s.tenant last id false 0 a
  match s.work with
  | .count _ t idx v => d.send (tag tyCADD true (t * 2048 + idx % 2048)) (BitVec.ofNat 512 v)
  | _ => (s.lines.zipIdx).foldl (fun d e => d.send (tag tyWR (decide (e.2 + 1 = s.lines.length)) e.1.1) e.1.2) d

/-- Send the transfers that wait for a TXID, in order, as far as TXIDs are free (R172). -/
def Dev.pumpEast (d : Dev) : Dev :=
  d.plan.sends.foldl (fun d s => match d.eastId s.row s.codec with
    | some id => d.eastGo s id
    | none => { d with plan := { d.plan with sends := d.plan.sends ++ [s] } }) { d with plan := { d.plan with sends := [] } }

/-- Hand a transfer to an east node. -/
def Dev.eastSend (d : Dev) (s : ESend) : Dev := ({ d with plan := { d.plan with sends := d.plan.sends ++ [s] } } : Dev).pumpEast

/-- Signal a counter of a tile from an east node, for a step or a DM.CODEC (R196). -/
def Dev.signal (d : Dev) (step : Option Nat) (row tenant t idx : Nat) (v : Nat) : Dev :=
  d.eastSend { row := row, tenant := tenant, dx := tileX t, dy := tileY t, parts := [], work := .count step t idx v }

/-- Every transfer of the east nodes, under way or waiting. -/
def Dev.eastAll (d : Dev) : List ESend := d.plan.etx.map (·.2) ++ d.plan.sends

/-! ## Failures (R234, R296) -/

/-- Where a failure of a row's work is logged. -/
def rowAt (row : Nat) (tenant : Nat) : ErrAt := { atNode (nodeOf 9 (row + 1)) with tenant := some tenant }

/-- The instances that a failed step halts: those of the tenant that run on a tile or would start there in this tick. -/
def Dev.stepVictims (d : Dev) (tenant t : Nat) : List Nat :=
  (d.tick.cur.zipIdx).filterMap (fun e =>
    if e.1.alive && decide (e.1.tenant = tenant) && e.1.mask.getLsbD t && !(e.1.done.getLsbD t) then some e.2 else none)

/-- Fail a block or unit of a step (R234): logged with its detail (unless the tier that found the error has logged it), counted,
captured, and the instances on DTILE halted. -/
def Dev.stepFail (d : Dev) (row tenant dtile code : Nat) (det : Option Nat) : Dev :=
  let vs := d.stepVictims tenant dtile
  let base := match vs with | i :: _ => instAt d i (nodeOf 9 (row + 1)) 0 | [] => rowAt row tenant
  let d := match det with | some n => d.logS code { base with tenant := some tenant, detail := n } | none => d
  let d := if bit (d.reg Reg.MT_STAT) 1 then d
    else d.setReg Reg.MT_FAIL_INFO (w32 (code * 65536 + 32768 + tenant * 4096 + dtile))
  let d := d.orReg Reg.MT_STAT 2
  vs.foldl (fun d i => d.haltQuiet i code) d

/-- The codec's own record of a failure (R296, Tables 12-7, 12-8). -/
def Dev.codecFail (d : Dev) (row tenant code : Nat) (enc : Bool) : Dev :=
  let b := if code = 0x5002 then 2 else if code = 0x5003 then 4 else if code = 0x5004 then 8 else if code = 0x5005 then 16 else 0
  let d := if b = 0 ∨ b = 16 ∨ fld (d.reg Reg.CD_STAT) 1 3 ≠ 0 then d
    else d.setReg Reg.CD_FAIL_INFO (w32 (code * 65536 + 32768 + tenant * 4096 + b2n enc * 2048 + row * 256))
  let d := if code = 0x5002 then d.incReg Reg.CD_CHECK_CNT 1 else d
  if b = 0 then d else d.orReg Reg.CD_STAT b

/-! ## Steps -/

/-- A step by its number. -/
def Dev.step? (d : Dev) (id : Nat) : Option PStep := d.plan.steps.find? (fun p => decide (p.id = id))

/-- Change a step. -/
def Dev.updStep (d : Dev) (id : Nat) (f : PStep → PStep) : Dev :=
  { d with plan := { d.plan with steps := d.plan.steps.map (fun p => if p.id = id then f p else p) } }

/-- A step's part in units. -/
def PStep.parts (p : PStep) : Nat := if p.src = 1 then (if p.count = 0 then 0 else 1) else p.count

/-- Whether a transfer is a counter update of a step. -/
def ESend.counts (s : ESend) (id : Nat) : Bool := match s.work with | .count (some i) _ _ _ => decide (i = id) | _ => false

/-- Whether a step has ended: every unit, every increment that ORDERED withholds, and every increment that is not acknowledged. -/
def Dev.stepEnded (d : Dev) (p : PStep) : Bool :=
  decide (p.parts ≤ p.doneUnits) && p.results.isEmpty && !(d.eastAll.any (fun s => s.counts p.id))

/-- Whether an earlier accepted step of the tenant that names the same counter has not ended (R228). -/
def earlierSame : List PStep → PStep → Bool
  | [], _ => false
  | q :: qs, p => if q.id = p.id then false
    else (decide (q.tenant = p.tenant ∧ q.dtile = p.dtile ∧ q.cidx = p.cidx)) || earlierSame qs p

/-- Send the increments of an ORDERED step whose turn has come, at most `n` (R228); a failure withholds every later one. -/
def Dev.sendOrdered (d : Dev) (id : Nat) : Nat → Dev
  | 0 => d
  | n + 1 =>
    match d.step? id with
    | none => d
    | some p =>
      if earlierSame d.plan.steps p then d
      else if (p.totals.find? (fun e => decide (e.1 = p.ordOff))).any (fun e => decide (e.2 ≤ p.ordBlk)) then
        (d.updStep id (fun p => { p with totals := p.totals.filter (fun e => decide (e.1 ≠ p.ordOff)),
                                         ordOff := p.ordOff + 1, ordBlk := 0 })).sendOrdered id n
      else match p.results.find? (fun e => decide (e.1 = p.ordOff ∧ e.2.1 = p.ordBlk)) with
        | some e =>
          let d := d.updStep id (fun p => { p with results := p.results.erase e, ordBlk := p.ordBlk + 1,
                                                   failed := p.failed || !e.2.2 })
          (if e.2.2 && !p.failed then d.signal (some p.id) p.row0 p.tenant p.dtile p.cidx 1 else d).sendOrdered id n
        | none => d

/-- How many turns a step's increments can take. -/
def PStep.turns (p : PStep) : Nat := p.results.length + p.totals.length + 1

/-- Let every ORDERED step send what it may. -/
def Dev.pumpOrdered (d : Dev) : Dev :=
  d.plan.steps.foldl (fun d p => if p.ordered then d.sendOrdered p.id p.turns else d) d

/-- Accept the steps that wait, each tenant's in order while it has fewer than 128 (R231): the last of a DM.PREF draws its WACK. A step of
count 0 adds 0 to its counter (R229). -/
def Dev.takeIn (d : Dev) : List PStep → Dev
  | [] => d
  | p :: ps =>
    if 128 ≤ (d.plan.steps.filter (fun q => decide (q.tenant = p.tenant))).length ||
        d.plan.wait.any (fun q => decide (q.tenant = p.tenant)) then
      ({ d with plan := { d.plan with wait := d.plan.wait ++ [p] } } : Dev).takeIn ps
    else
      let d := match p.ack with
        | some (t, x) => d.send (mkTag (rowEast (tileRow t)) (tileNode t) tyWACK p.tenant true x false 0 0) 0
        | none => d
      if p.parts = 0 then (d.signal (some p.id) p.row0 p.tenant p.dtile p.cidx 0).takeIn ps
      else
        let unit0 : List UnitSt := if p.src = 1 then
            [{ step := p.id, unit := 0, row := p.row0, ch := 0, page := 0, landed := true, data := [], pos := p.first * 64, num := 0,
               out := 0, scanned := false, held := false, left := 0, bad := false, outs := [], writing := false }]
          else []
        ({ d with plan := { d.plan with steps := d.plan.steps ++ [p], units := d.plan.units ++ unit0 } }).takeIn ps

/-- Remove the steps that have ended, let those that wait for them go on, and accept waiting ones. -/
def Dev.retireSteps (d : Dev) : Nat → Dev
  | 0 => d
  | n + 1 =>
    let d := d.pumpOrdered
    if d.plan.steps.any d.stepEnded then
      let wait := d.plan.wait
      let d := { d with plan := { d.plan with steps := d.plan.steps.filter (fun p => !d.stepEnded p), wait := [] } }
      (d.takeIn wait).retireSteps n
    else d

/-- After any event of a step. -/
def Dev.settlePlan (d : Dev) : Dev := d.retireSteps (d.plan.steps.length + d.plan.wait.length + 1)

/-- An increment of a step is due, or will never be sent (R228, R234). -/
def Dev.increment (d : Dev) (id off n : Nat) (ok : Bool) (row : Nat) : Dev :=
  match d.step? id with
  | none => d
  | some p =>
    if p.ordered then d.updStep id (fun p => { p with results := p.results ++ [(off, n, ok)] })
    else if ok then d.signal (some id) row p.tenant p.dtile p.cidx 1 else d

/-- A unit of a step ends with its number of increments. -/
def Dev.unitEnds (d : Dev) (id off total : Nat) : Dev :=
  (d.updStep id (fun p => { p with doneUnits := p.doneUnits + 1,
                                   totals := if p.ordered then p.totals ++ [(off, total)] else p.totals }))

/-- A unit or a chain in hand. -/
def Dev.unit? (d : Dev) (id off : Nat) : Option UnitSt :=
  d.plan.units.find? (fun u => decide (u.step = id ∧ u.unit = off))

/-- Change a unit. -/
def Dev.updUnit (d : Dev) (id off : Nat) (f : UnitSt → UnitSt) : Dev :=
  { d with plan := { d.plan with units := d.plan.units.map (fun u => if u.step = id ∧ u.unit = off then f u else u) } }

/-- Drop a unit and its blocks: its reservation is released (R226). -/
def Dev.dropUnit (d : Dev) (id off : Nat) : Dev :=
  { d with plan := { d.plan with
      units := d.plan.units.filter (fun u => !(decide (u.step = id ∧ u.unit = off))),
      blks := d.plan.blks.filter (fun b => decide (b.owner ≠ .step id off)) } }

/-- A whole unit fails (R234): nothing of it is written and it sends no further increment; under ORDERED its failure takes the place of the next
increment that it has not sent. -/
def Dev.unitFail (d : Dev) (id off row code : Nat) (det : Option Nat) : Dev :=
  match d.step? id with
  | none => d
  | some p =>
    let d := d.stepFail row p.tenant p.dtile code det
    let d := (d.dropUnit id off).updStep id (fun p => { p with results := p.results.filter (fun e => decide (e.1 ≠ off)) })
    let n := if p.ordOff = off then p.ordBlk else 0
    (d.increment id off n false row).unitEnds id off (n + 1)

/-! ## Acceptance (R223, R224) -/

/-- The image position of R221: D in bytes, stand of first row k and n rows. -/
def Dev.imagePos (d : Dev) (tenant dd : Nat) (neg : Bool) : Bool :=
  let (k, n) := d.standKN tenant
  let r := dd - k * d.cch
  !neg && decide (k * d.cch ≤ dd) && decide (r % 32768 = 0) && decide (r / 32768 % max n 1 = 0)

/-- Check one step and read its object's entry or its first header, in the order of Table 9-6: the failure and whether the read has logged it
already; and the step without its acknowledgement. A window address (R321) is judged where the table judges the stand (DEDUCED,
notes/assumptions/111). -/
def Dev.checkStep (d : Dev) (tenant id : Nat) (b : List Byte) (who : Option Nat) (ev : DramEv) : Option (Nat × Bool) × PStep × Dev :=
  let kind := leAt b 0 1
  let src := kind % 4
  let dst := kind / 4 % 4
  let dtile := leAt b 1 1
  let cidx := leAt b 2 2
  let obj := leAt b 4 2
  let first := leAt b 8 4
  let count := leAt b 12 4
  let dest := leAt b 16 8
  let ost := leAt b 24 4
  let (k, n) := d.standKN tenant
  let ea := d.plan.objBase.getD tenant 0 + obj * 16
  let e := d.dramBytes ea 16
  let p : PStep :=
    { id := id, tenant := tenant, src := src, dst := dst, ordered := kind.testBit 4, dtile := dtile % 64, cidx := cidx % 2048,
      first := first, count := count, dest := dest, ostride := ost, ubase := leAt e 0 4, row0 := k, nrows := max n 1,
      nextOff := List.replicate 8 0, doneUnits := 0, ordOff := 0, ordBlk := 0, results := [], totals := [], failed := false,
      ack := none }
  let zero := 2 ≤ src ∨ dst = 3 ∨ (src = 1 ∧ dst ≠ 0) ∨ 32 ≤ kind ∨ 64 ≤ dtile ∨ 2048 ≤ cidx ∨ (src = 1 ∧ obj ≠ 0)
    ∨ leAt b 6 2 ≠ 0 ∨ leAt b 28 4 ≠ 0 ∨ (¬(src = 0 ∧ dst = 0) ∧ ost ≠ 0) ∨ (dst = 0 ∧ (2 ^ 19 ≤ dest ∨ dest % 64 ≠ 0))
  let pre := firstOf [
    if zero then some 0x300C else none,
    if src = 0 ∧ d.plan.objCount.getD tenant 0 ≤ obj then some 0x300C else none,
    if src = 0 ∧ d.inStand tenant ea 16 = false then some 0x8001 else none]
  let post := firstOf [
    if src = 0 ∧ (leAt e 8 1 ≠ 1 ∨ leAt e 9 7 ≠ 0) then some 0x300C else none,
    if src = 0 ∧ leAt e 4 4 < first + count then some 0x300C else none,
    if src = 0 ∧ dst = 0 ∧ ((ost = 0 ∧ 1 < count) ∨ 524288 < dest + count * ost * 64) then some 0x300C else none,
    if (dst = 1 ∨ dst = 2) ∧ d.imagePos tenant (dest * 64 - first * 16384) (decide (dest * 64 < first * 16384)) = false
      then some 0x300C else none,
    if src = 1 ∧ 0x20000000 ≤ first then some (if d.multi then 0x8001 else 0x6009) else none,
    if (dst = 1 ∨ dst = 2) ∧ 0x20000000 ≤ dest then some (if d.multi then 0x8001 else 0x6009) else none,
    if d.rowTenant (tileRow (dtile % 64)) ≠ tenant then some 0x8001 else none,
    if (dst = 1 ∨ dst = 2) ∧ 0 < count ∧ d.inStand tenant (dest * 64) (count * 16384) = false then some 0x8001 else none,
    if src = 1 ∧ 0 < count ∧ d.inStand tenant (first * 64) 64 = false then some 0x8001 else none]
  let look := if src = 0 then [ea / 64] else if d.inStand tenant (first * 64) 64 ∧ 0 < count then [first] else []
  match pre with
  | some c => (some (c, false), p, d)
  | none => match d.readLines (d.eastPort 1) who ev look with
    | (some c, d) => (some (c, true), p, d)
    | (none, d) => (post.map (·, false), p, d)

/-- Check the steps of a DM.PREF in order: the first failure, or every step. -/
def Dev.checkSteps (d : Dev) (tenant planAddr : Nat) (who : Option Nat) (evs : List DramEv) :
    Nat → Nat → Nat → Option (Nat × Bool) × List PStep × Dev
  | 0, _, _ => (none, [], d)
  | n + 1, i, id =>
    match d.checkStep tenant id (d.dramBytes (planAddr + 32 * i) 32) who (evs.headD .ok) with
    | (some c, _, d) => (some c, [], d)
    | (none, p, d) => match d.checkSteps tenant planAddr who evs.tail n (i + 1) (id + 1) with
      | (some c, _, d) => (some c, [], d)
      | (none, ps, d) => (none, p :: ps, d)

/-- Halt the instance that issued a request to an east node, if it still runs. -/
def Dev.haltIssuer (d : Dev) (inst : Option Nat) (row tenant code : Nat) : Dev :=
  match inst with
  | some i => d.haltInst i code (nodeOf 9 (row + 1)) 0
  | none => d.logS code (rowAt row tenant)

/-- Give the last step the DM.PREF's acknowledgement. -/
def ackLast (a : Nat × Nat) : List PStep → List PStep
  | [] => []
  | [p] => [{ p with ack := some a }]
  | p :: ps => p :: ackLast a ps

/-- A plan that lies beyond the installed DRAM: TILE_ADDR_RANGE (R521; DESIGN CHOICE, notes/assumptions/104). -/
def Dev.refusePlan (d : Dev) (row : Nat) (inst : Option Nat) : Dev :=
  match inst with
  | some i => match d.tick.cur[i]? with
    | some x => if x.alive then d.logS 0x1005 (instAt d i (nodeOf 9 (row + 1)) 0) else d
    | none => d
  | none => d

/-- A DM.PREF reaches the prefetcher (R132, R224, R225): the plan is read, every step checked, and all of them accepted or none. -/
def Dev.acceptPref (d : Dev) (tile txid : Nat) (inst : Option Nat) (tenant planAddr first count : Nat) (ev : DramEv)
    (evs : List DramEv) : Dev :=
  let row := tileRow tile
  match (if d.outOfDram (planAddr + 32 * first) (32 * count) then (some 0x1005, d.refusePlan row inst) else
      d.readDram (planAddr + 32 * first) (32 * count) (d.eastPort 1) inst ev) with
  | (some c, d) => match inst with
    | some i => d.haltQuiet i c
    | none => d
  | (none, d) =>
    match d.checkSteps tenant planAddr inst evs count first d.plan.nextId with
    | (some (c, logged), _, d) =>
      (if logged then (match inst with | some i => d.haltQuiet i c | none => d) else d.haltIssuer inst row tenant c).orReg Reg.MT_STAT 1
    | (none, ps, d) =>
      let wait := d.plan.wait
      let d := { d with plan := { d.plan with nextId := d.plan.nextId + count, wait := [] } }
      (d.takeIn (wait ++ ackLast (tile, txid) ps)).settlePlan

/-! ## Units (R219, R226) -/

/-- The row and flash channel of a unit offset of a step. -/
def PStep.unitRow (p : PStep) (off : Nat) : Nat := p.row0 + (p.first + off) / 2 % p.nrows
def PStep.unitCh (p : PStep) (off : Nat) : Nat := 2 * p.row0 + (p.first + off) % (2 * p.nrows)

/-- The next unit offset of a row at or above `o`. -/
def PStep.nextFor (p : PStep) (row o : Nat) : Option Nat :=
  ((List.range (2 * p.nrows + 2)).map (· + o)).find? (fun i => decide (i < p.count) && decide (p.unitRow i = row))

/-- Whether a row's part of a step has ended (R225). -/
def Dev.partEnded (d : Dev) (p : PStep) (row : Nat) : Bool :=
  !(decide (p.row0 ≤ row ∧ row < p.row0 + p.nrows)) ||
  (if p.src = 1 then
     !(d.plan.units.any (fun u => decide (u.step = p.id) && (!u.scanned || d.plan.blks.any (fun b =>
        decide (b.owner = .step p.id 0) && decide (b.row = row)))))
   else (p.nextFor row (p.nextOff.getD row 0)).isNone
     && !(d.plan.units.any (fun u => decide (u.step = p.id ∧ u.row = row))))

/-- The first step in acceptance order whose part on a row has not ended. -/
def Dev.rowStep (d : Dev) (row : Nat) : Option PStep := d.plan.steps.find? (fun p => !(d.partEnded p row))

/-- The next 64 B boundary. -/
def up64 (n : Nat) : Nat := (n + 63) / 64 * 64

/-- Whether a stripe unit still holds its place in the read area: until every block of it has been decoded, or its DRAM writes are done (R226). -/
def Dev.holdsUnit (d : Dev) (u : UnitSt) : Bool :=
  !(u.data.isEmpty && u.landed) &&
  !(u.landed && u.scanned && !u.writing && (d.plan.blks.filter (fun b => decide (b.owner = .step u.step u.unit))).all
      (fun b => decide (b.phase = .writing)) && decide (0 < u.left))

/-- Bytes of a row's read area that are reserved: 16 KiB for each stripe unit, and the encoded length of each block of a SRC 1 step (R226). -/
def Dev.readUsed (d : Dev) (row : Nat) : Nat :=
  16384 * (d.plan.units.filter (fun u => decide (u.row = row) && d.holdsUnit u)).length +
  ((d.plan.blks.filter (fun b => decide (b.row = row) && b.page.isNone && decide (b.phase ≠ .writing) &&
      (match b.owner with | .step _ _ => true | .codec _ => false))).map (fun b => up64 b.bytes.length)).sum

/-- The size of a row's read area (R226). -/
def Dev.readArea (d : Dev) : Nat := (d.plan.lookUse + 1) * 65536

/-- Issue the flash read of a row's next unit once its read area has room (R226); a unit that no page holds fails (R268, R275). -/
def Dev.unitRead (d : Dev) (row : Nat) : Dev :=
  match d.rowStep row with
  | none => d
  | some p =>
    if p.src = 1 ∨ d.readArea < d.readUsed row + 16384 then d
    else match p.nextFor row (p.nextOff.getD row 0) with
      | none => d
      | some off =>
        let ch := p.unitCh off
        let d := d.updStep p.id (fun p => { p with nextOff := setAt p.nextOff row (off + 1) })
        if !d.flash.ready then (d.unitFail p.id off row 0x4001 (some 0)).settlePlan
        else match d.unitPage ch 0 (p.ubase + (p.first + off) / (2 * p.nrows)) with
          | none => (d.unitFail p.id off row 0x4004 (some 0)).settlePlan
          | some pg =>
            { d with plan := { d.plan with units := d.plan.units ++
                [{ step := p.id, unit := off, row := row, ch := ch, page := pg, landed := false, data := [], pos := 0, num := 0, out := 0,
                   scanned := false, held := false, left := 0, bad := false, outs := [], writing := false }] } }

end Sys2Proof.Machine
end

