-- ==== Sys2Proof/Machine/Codec.lean ====
section
/-! DEFINITION. The prefetcher's reads and the codec (R220, R222, R226 to R229, R270, R290 to R302, R523): how units and blocks
land, are checked, read again, decoded, placed and announced, and how blocks are encoded. -/

namespace Sys2Proof.Machine

/-! ## DM.CODEC operations (R131, R296) -/

/-- An operation by its number. -/
def Dev.op? (d : Dev) (id : Nat) : Option CodecOp := d.plan.ops.find? (fun o => decide (o.id = id))

/-- Change an operation. -/
def Dev.updOp (d : Dev) (id : Nat) (f : CodecOp → CodecOp) : Dev :=
  { d with plan := { d.plan with ops := d.plan.ops.map (fun o => if o.id = id then f o else o) } }

/-- Remove an operation. -/
def Dev.dropOp (d : Dev) (id : Nat) : Dev :=
  { d with plan := { d.plan with ops := d.plan.ops.filter (fun o => decide (o.id ≠ id)) } }

/-- A DM.CODEC reaches the codec (Table 5-3); a count of 0 signals both counters (R131). -/
def Dev.acceptCodec (d : Dev) (o : CodecOp) : Dev :=
  let row := tileRow o.tile
  let d := d.send (mkTag (rowEast row) (tileNode o.tile) tyWACK o.tenant true o.txid false 0 0) 0
  if o.count = 0 then
    (d.signal none row o.tenant (if o.enc then o.tile else o.dtile) o.ctrD 1).signal none row o.tenant o.tile o.ctrS 1
  else { d with plan := { d.plan with
    ops := d.plan.ops ++ [{ o with id := d.plan.nextId, seq := d.plan.nextSeq }], nextId := d.plan.nextId + 1,
    nextSeq := d.plan.nextSeq + 1 } }

/-- An operation ends: once every block has been read and none failed, the issuing tile's counter is signalled (R131, R296; for a decode DESIGN
CHOICE, notes/assumptions/55: the model waits until every block is decoded and placed, since a block that fails to decode withholds the signal). -/
def Dev.finishOp (d : Dev) (id row : Nat) : Dev :=
  match d.op? id with
  | none => d
  | some o =>
    if o.open_ ≠ 0 ∨ o.sent ≠ 0 then d
    else if o.failed then d.dropOp id
    else if (if o.enc then o.data.isEmpty else decide (o.num = o.count)) then
      (d.dropOp id).signal none row o.tenant o.tile o.ctrS 1
    else d

/-- A block of an operation fails (R296): no later block is processed and the issuing instance halts; `det` as in `stepFail`. -/
def Dev.opFail (d : Dev) (id num row code : Nat) (det : Option Nat) : Dev :=
  match d.op? id with
  | none => d
  | some o =>
    let live : Bool := match o.inst with | some i => (d.tick.cur[i]?).any (·.alive) | none => false
    let at_ := match o.inst with | some i => instAt d i (nodeOf 9 (row + 1)) 0 | none => rowAt row o.tenant
    let d := match det, o.inst with
      | some n, some i => if live then d.haltInst i code (nodeOf 9 (row + 1)) n else d.logS code { at_ with tenant := some o.tenant, detail := n }
      | some n, none => d.logS code { at_ with detail := n }
      | none, some i => d.haltQuiet i code
      | none, none => d
    let later := fun (b : Blk) => decide (b.owner = BlkOwner.codec id ∧ num < b.num ∧ b.phase ≠ .writing)
    let gone := d.plan.blks.filter later
    let d := { d with plan := { d.plan with blks := d.plan.blks.filter (fun b => !later b) } }
    (d.updOp id (fun o => { o with failed := true, held := false, open_ := o.open_ - gone.length })).finishOp id row

/-- The check of a DRAM access of a tenant by the codec (R110, R133, R222, R321). -/
def Dev.codecCheck (d : Dev) (tenant a n : Nat) : Option Nat :=
  if 2 ^ 35 ≤ a then some (if d.multi then 0x8001 else 0x6009)
  else if 8 * d.cch < a + n then some 0x1005
  else if d.inStand tenant a n then none
  else some 0x8001

/-- Whether a range lies in one granule (R222). -/
def oneGranule (a n : Nat) : Bool := decide (a / 32768 = (a + n - 1) / 32768)

/-! ## rANS tables (R290, R291) -/

/-- Where a row reads a table. -/
def Dev.tableAddr (d : Dev) (row tenant i : Nat) : Nat :=
  let (k, n) := d.standKN tenant
  d.plan.tblBase.getD tenant 0 + (i / 8 * n + (row - k)) * 32768 + i % 8 * 4096

/-- Whether a table may be fetched: its number and its address (R291). -/
def Dev.tableOk (d : Dev) (row tenant i : Nat) : Bool :=
  let a := d.tableAddr row tenant i
  decide (i < d.plan.tblCount.getD tenant 0) && d.inStand tenant a 4096 && decide ((d.dramPlace a).1 = row)

/-- A row's cached copy of a table. -/
def Dev.cached (d : Dev) (row tenant i : Nat) : Option (List Byte) :=
  (d.plan.caches.find? (fun c => decide (c.row = row ∧ c.tenant = tenant ∧ c.id = i))).map (·.bytes)

/-- Drop a row's cached copy of a table. -/
def Dev.dropTable (d : Dev) (row tenant i : Nat) : Dev :=
  { d with plan := { d.plan with caches := d.plan.caches.filter (fun c => !(decide (c.row = row ∧ c.tenant = tenant ∧ c.id = i))) } }

/-- Fetch a table into the row's cache of 16: the failure, or its bytes. The first part tells whether the error has been logged. -/
def Dev.fetchTable (d : Dev) (row tenant i : Nat) (who : Option Nat) (ev : DramEv) : (Option (Nat × Bool) × List Byte) × Dev :=
  if !(d.tableOk row tenant i) then ((some (0x5004, false), []), d)
  else
    let a := d.tableAddr row tenant i
    let d := d.incReg (Reg.CD_TBL_MISS row) 1
    match d.readDram a 4096 (d.eastPort 2) who ev with
    | (some c, d) => ((some (c, true), []), d)
    | (none, d) =>
      let bs := d.dramBytes a 4096
      if mbfRises bs then
        let mine := d.plan.caches.filter (fun c => decide (c.row = row))
        let keep := if 16 ≤ mine.length then
            (match mine with | c :: _ => d.plan.caches.erase c | [] => d.plan.caches)
          else d.plan.caches
        ((none, bs), { d with plan := { d.plan with caches := keep ++ [{ row := row, tenant := tenant, id := i, bytes := bs }] } })
      else ((some (0x5004, false), []), d)

/-! ## The end of a block and of a chain -/

/-- Remove a block. -/
def Dev.dropBlk (d : Dev) (b : Blk) : Dev := { d with plan := { d.plan with blks := d.plan.blks.erase b } }

/-- A unit of DST 1 or 2 ends: its increment is due, or will never be sent. -/
def Dev.endUnit (d : Dev) (id off row : Nat) (ok : Bool) : Dev := ((d.dropUnit id off).increment id off 0 ok row).unitEnds id off 1

/-- A chain ends once every block of it is found and settled: the unit of DST 1 or 2 is written if none failed, to its row's channel (R13, R227,
R228). -/
def Dev.finishUnit (d : Dev) (id off row : Nat) : Dev :=
  match d.step? id, d.unit? id off with
  | some p, some u =>
    if !u.scanned || decide (u.left ≠ 0) || u.writing then d
    else
      let base := p.dest * 64 + off * 16384
      let parts := if p.dst = 1 then [(base, u.data)] else u.outs.map (fun o => (base + o.1, o.2))
      if p.dst = 0 then (d.dropUnit id off).unitEnds id off u.num
      else if u.bad then d.endUnit id off row false
      else if parts.all (·.2.isEmpty) then d.endUnit id off row true
      else (d.updUnit id off (fun u => { u with writing := true })).eastSend
        { row := row, tenant := p.tenant, dx := 0, dy := (d.dramPlace base).1 + 1, parts := parts, work := .unit id off }
  | _, _ => d

/-- One block of a chain is settled. -/
def Dev.settleBlk (d : Dev) (id off num row : Nat) (ok : Bool) : Dev :=
  let d := d.updUnit id off (fun u => { u with left := u.left - 1, bad := u.bad || !ok })
  let d := match d.step? id with
    | some p => if p.dst = 0 then d.increment id off num ok row else d
    | none => d
  d.finishUnit id off row

/-- A block fails (R234, R296); `det` as in `stepFail`. -/
def Dev.blkFail (d : Dev) (b : Blk) (code : Nat) (det : Option Nat) : Dev :=
  let d := (d.dropBlk b).codecFail b.row b.tenant code false
  match b.owner with
  | .step id off =>
    let d := match d.step? id with | some p => d.stepFail b.row p.tenant p.dtile code det | none => d
    d.settleBlk id off b.num b.row false
  | .codec id => (d.updOp id (fun o => { o with open_ := o.open_ - 1 })).opFail id b.num b.row code det

/-! ## Finding blocks (R220, R227, R294, R523) -/

/-- Whether a chain may find a further block. -/
def unitMore (p : PStep) (u : UnitSt) : Bool :=
  if p.src = 1 then decide (u.num < p.count) else decide (u.pos < 16384) && mbfMagic (u.data.drop u.pos)

/-- No further block of a chain is found: its packed output must fit (R227). -/
def Dev.chainEnd (d : Dev) (id off row : Nat) : Dev :=
  match d.step? id, d.unit? id off with
  | some p, some u =>
    let lim := if p.dst = 0 then p.ostride * 64 else 16384
    if p.src = 0 ∧ p.dst ≠ 1 ∧ lim < u.out then d.unitFail id off row 0x300D (some 0)
    else (d.updUnit id off (fun u => { u with scanned := true, held := false })).finishUnit id off row
  | _, _ => d

/-- The chain has moved on; it ends where no block follows. -/
def Dev.scanned (d : Dev) (id off row : Nat) : Dev :=
  match d.step? id, d.unit? id off with
  | some p, some u => if unitMore p u then d else d.chainEnd id off row
  | _, _ => d

/-- The blocks of a SRC 1 step after one whose header gives no extent fail with it, each by itself (R234, R523). -/
def Dev.failRest (d : Dev) (id num row : Nat) : Dev :=
  match d.step? id with
  | some p => if p.src = 1 then (List.range (p.count - (num + 1))).foldl (fun d _ => d.stepFail row p.tenant p.dtile 0x5002 (some 0)) d else d
  | none => d

/-- Give a block that has passed its check its table (R291): at hand, to be fetched, or none needed. -/
def Dev.giveTable (d : Dev) (b : Blk) (parity : Bool) : Dev × Option Blk :=
  let h := mbfHdr b.bytes
  if !h.coded then (d, some { b with phase := .checked })
  else if !(d.tableOk b.row b.tenant h.table) then (d, none)
  else match d.cached b.row b.tenant h.table with
    | some t => if parity then ((d.sramCe (nodeOf 9 (b.row + 1))).dropTable b.row b.tenant h.table, some { b with phase := .needTable })
                else (d, some { b with phase := .checked, table := t })
    | none => (d, some { b with phase := .needTable })

/-- A block of a DM.CODEC is done: its counter is signalled (R131). -/
def Dev.opBlkDone (d : Dev) (id row : Nat) : Dev :=
  match d.op? id with
  | none => d
  | some o => ((d.updOp id (fun o => { o with open_ := o.open_ - 1 })).signal none row o.tenant o.dtile o.ctrD 1).finishOp id row

/-- A block takes its place in the row's order, and its table (R291, R298). -/
def Dev.enlist (d : Dev) (b b' : Blk) : Dev :=
  { d with plan := { d.plan with blks := d.plan.blks.erase b ++ [{ b' with seq := d.plan.nextSeq }], nextSeq := d.plan.nextSeq + 1 } }

/-- A block has passed its check: the chain moves past it, and it waits for its decoding; a unit of DST 1 is not decoded, and an empty block is done
(R297). -/
def Dev.blkPass (d : Dev) (b : Blk) (parity : Bool) : Dev :=
  let h := mbfHdr b.bytes
  let ext := h.extent
  match b.owner with
  | .step id off =>
    let d := d.updUnit id off (fun u => { u with pos := up64 (b.addr + ext), num := b.num + 1, out := u.out + up64 h.dlen,
                                                 held := false })
    match d.step? id with
    | none => d
    | some p =>
      if p.dst = 1 ∨ h.dlen = 0 then ((d.dropBlk b).settleBlk id off b.num b.row true).scanned id off b.row
      else match d.giveTable b parity with
        | (d, some b') => (d.enlist b b').scanned id off b.row
        | (d, none) => (d.scanned id off b.row).blkFail b 0x5004 (some 0)
  | .codec id =>
    let d := d.updOp id (fun o => { o with nextA := up64 (b.addr + ext), num := b.num + 1, nextO := o.nextO + up64 h.dlen,
                                           held := false })
    if h.dlen = 0 then (d.dropBlk b).opBlkDone id b.row
    else match d.giveTable b parity with
    | (d, some b') => d.enlist b b'
    | (d, none) => d.blkFail b 0x5004 (some 0)

/-- A block's check fails for good: the chain goes on past it where its header is valid, and is broken where it is not (R523). -/
def Dev.blkBad (d : Dev) (b : Blk) (code : Nat) (det : Option Nat) : Dev :=
  let h := mbfHdr b.bytes
  match b.owner with
  | .step id off =>
    if mbfValid b.bytes then
      let d := d.updUnit id off (fun u => { u with pos := up64 (b.addr + h.extent), num := b.num + 1,
                                                   out := u.out + up64 h.dlen, held := false })
      (d.blkFail b code det).scanned id off b.row
    else
      let d := d.updUnit id off (fun u => { u with num := b.num + 1 })
      ((d.blkFail b code det).failRest id b.num b.row).chainEnd id off b.row
  | .codec _ => d.blkFail b code det

/-- Apply damage to bytes. -/
def flipBytes (bs : List Byte) : Option (Nat × Byte) → List Byte
  | none => bs
  | some (o, x) => if o < bs.length then setAt bs o (bs.getD o 0 ^^^ x) else bs

/-- The Glade's word on a block: a corrected error is counted, an uncorrectable one fails the block's check (Table 21-3). -/
def Dev.gladeEv (d : Dev) (row : Nat) (ev : BlkEv) : Bool × Dev :=
  (decide (ev.glade ≠ .uncorrectable), if ev.glade = .corrected then d.sramCe (nodeOf 9 (row + 1)) else d)

/-- Read a block of DRAM (R222, R227): the failure and whether it is logged, or the block's bytes; a header that is not valid comes
alone. -/
def Dev.readBlk (d : Dev) (tenant a : Nat) (who : Option Nat) (port : Nat) (step : Bool) (ev : DramEv) :
    (Option (Nat × Bool) × List Byte) × Dev :=
  let chk := fun (n : Nat) => (d.codecCheck tenant a n).map (fun c => if step then 0x8001 else c)
  match chk 64 with
  | some c => ((some (c, false), []), d)
  | none =>
    match d.readDram a 64 (d.eastPort port) who ev with
    | (some c, d) => ((some (c, true), []), d)
    | (none, d) =>
      let hb := d.dramBytes a 64
      let n := if mbfValid hb then (mbfHdr hb).extent else 64
      match chk n with
      | some c => ((some (c, false), hb), d)
      | none =>
        if !(oneGranule a n) then ((some (0x300F, false), hb), d)
        else match d.readDram (a + 64) (n - 64) (d.eastPort port) who (ev.from_ 1) with
          | (some c, d) => ((some (c, true), hb), d)
          | (none, d) => ((none, d.dramBytes a n), d)

/-- A first read of a block, judged (R294). -/
def Dev.judge (d : Dev) (b : Blk) (ev : BlkEv) : Dev :=
  let (clean, d) := d.gladeEv b.row ev
  let d := { d with plan := { d.plan with blks := d.plan.blks ++ [b] } }
  if clean && mbfOk b.bytes then d.blkPass b ev.parity
  else
    let d := { d with plan := { d.plan with blks := d.plan.blks.erase b ++ [{ b with phase := .reread }] } }
    match b.owner with
    | .step id off => d.updUnit id off (fun u => { u with held := true })
    | .codec id => d.updOp id (fun o => { o with held := true })

/-- The next block of the row's oldest stripe unit, once that is in the Glade and no earlier block of it waits for its second read (R225). -/
def Dev.landUnit (d : Dev) (row : Nat) (ev : BlkEv) : Dev :=
  match (d.plan.units.find? (fun u => decide (u.row = row) && !(u.data.isEmpty && u.landed) && !u.scanned)).filter
      (fun u => u.landed && !u.held) with
  | none => d
  | some u =>
    match d.step? u.step with
    | none => d
    | some p =>
      let raw := flipBytes (u.data.drop u.pos) (ev.flip)
      let n := if mbfValid raw then (mbfHdr raw).extent else 64
      if 16384 < u.pos + n then (d.unitFail u.step u.unit row 0x300E (some 0))
      else
        let d := d.updUnit u.step u.unit (fun u => { u with left := u.left + 1 })
        d.judge { owner := .step u.step u.unit, num := u.num, row := row, tenant := p.tenant, page := some u.page, addr := u.pos,
                  out := u.out, bytes := raw.take n, phase := .checked, table := [], seq := 0, res := none } ev

/-- Whether a row may take a block of a SRC 1 step (R225). -/
def Dev.stepTurn (d : Dev) (id row : Nat) : Bool :=
  (d.plan.steps.takeWhile (fun p => decide (p.id ≠ id))).all (fun p => d.partEnded p row)

/-- The encoded extent of the block at a DRAM address as its header gives it; 64 where that is not valid. -/
def Dev.extentAt (d : Dev) (a : Nat) : Nat :=
  let hb := d.dramBytes a 64
  if mbfValid hb then (mbfHdr hb).extent else 64

/-- The next block of a SRC 1 step whose channel is the row's, once the read area has room for it (R225 to R227). -/
def Dev.landStep (d : Dev) (row : Nat) (ev : BlkEv) : Dev :=
  match d.plan.units.find? (fun u => u.landed && u.data.isEmpty && !u.scanned && !u.held && d.stepTurn u.step row
      && (if d.codecCheck (d.rowTenant row) u.pos 64 = none then decide ((d.dramPlace u.pos).1 = row) else decide (u.row = row))) with
  | none => d
  | some u =>
    match d.step? u.step with
    | none => d
    | some p =>
      let blk : Blk := { owner := .step u.step 0, num := u.num, row := row, tenant := p.tenant, page := none, addr := u.pos,
                         out := u.out, bytes := [], phase := .checked, table := [], seq := 0, res := none }
      if d.readArea < d.readUsed row + up64 (d.extentAt u.pos) then d
      else
      let d := d.updUnit u.step 0 (fun u => { u with left := u.left + 1 })
      match d.readBlk p.tenant u.pos none 1 true ev.dram with
      | ((some (c, l), hb), d) =>
        let b := { blk with bytes := hb }
        ({ d with plan := { d.plan with blks := d.plan.blks ++ [b] } } : Dev).blkBad b c (if l then none else some 0)
      | ((none, bs), d) => d.judge { blk with bytes := flipBytes bs ev.flip } ev

/-- The DRAM address of the next block of a DM.CODEC (R131). -/
def CodecOp.at_ (o : CodecOp) : Nat := if o.stride = 0 then o.nextA else (o.addr + o.num * o.stride) % 2 ^ 32 * 64

/-- The row that takes the next block of a decode: its channel's, or the issuing tile's where the address is refused (R13). -/
def Dev.opRow (d : Dev) (o : CodecOp) : Nat :=
  if o.enc then tileRow o.tile
  else if d.codecCheck o.tenant o.at_ 64 = none then (d.dramPlace o.at_).1 else tileRow o.tile

/-- The next block of a DM.CODEC that decodes (R131). -/
def Dev.landCodec (d : Dev) (row : Nat) (ev : BlkEv) : Dev :=
  match d.plan.ops.find? (fun o => !o.enc && !o.failed && !o.held && decide (o.num < o.count) && decide (d.opRow o = row)) with
  | none => d
  | some o =>
    let blk : Blk := { owner := .codec o.id, num := o.num, row := row, tenant := o.tenant, page := none, addr := o.at_, out := o.nextO,
                       bytes := [], phase := .checked, table := [], seq := 0, res := none }
    let d := d.updOp o.id (fun o => { o with open_ := o.open_ + 1 })
    match d.readBlk o.tenant o.at_ o.inst 2 false ev.dram with
    | ((some (c, l), _), d) =>
      ({ d with plan := { d.plan with blks := d.plan.blks ++ [blk] } } : Dev).blkFail blk c (if l then none else some 0)
    | ((none, bs), d) => d.judge { blk with bytes := flipBytes bs ev.flip } ev

/-! ## The order of a row and its codec area (R298, R299) -/

/-- The blocks of a row that wait for their decoding, in the order in which their checks were completed (R298). -/
def Dev.rowBlks (d : Dev) (row : Nat) : List Blk :=
  d.plan.blks.filter (fun b => decide (b.row = row) && decide (b.phase = .needTable ∨ b.phase = .checked))

/-- The operation that comes first in its row's order. -/
def earlierOp (m : Option CodecOp) (o : CodecOp) : Option CodecOp :=
  match m with | some x => if o.seq < x.seq then some o else m | none => some o

/-- The encode whose next block a row takes first. -/
def Dev.rowEnc (d : Dev) (row : Nat) : Option CodecOp :=
  (d.plan.ops.filter (fun o => o.enc && !o.failed && !o.data.isEmpty && decide (tileRow o.tile = row))).foldl earlierOp none

/-- Bytes of a row's codec area that are reserved (R299). -/
def Dev.codecUsed (d : Dev) (row : Nat) : Nat :=
  ((d.plan.blks.filter (fun b => decide (b.row = row))).map (fun b => b.res.getD 0)).sum +
  ((d.plan.units.filter (fun u => decide (u.row = row))).map (fun u => (u.outs.map (fun o => up64 o.2.length)).sum)).sum +
  ((d.eastAll.filter (fun s => decide (s.row = row))).map (fun s => match s.work with | .enc _ _ n => n | _ => 0)).sum

/-- The size of a row's codec area: what its read area leaves of the slice of 1 MiB (R226, R299). -/
def Dev.codecArea (d : Dev) : Nat := 1048576 - d.readArea

/-- Reserve the output space of blocks in their order, as far as it goes (R44, R294, R299). -/
def Dev.reserve (d : Dev) : List Blk → Dev
  | [] => d
  | b :: bs =>
    let n := up64 (mbfHdr b.bytes).dlen
    if b.res.isSome then d.reserve bs
    else if d.codecUsed b.row + n ≤ d.codecArea then
      ({ d with plan := { d.plan with blks := d.plan.blks.map (fun x => if x = b then { b with res := some n } else x) } } : Dev).reserve bs
    else d

/-- After any event of the codec: reservations go on, and steps end. -/
def Dev.settleCodec (d : Dev) : Dev :=
  ((List.range 8).foldl (fun d row => d.reserve (d.rowBlks row)) d).settlePlan

/-! ## The rows -/

/-- UNIT_READ: a row issues the read of its next stripe unit (R226). -/
def execUnitRead (row : Fin 8) (s : State) : Answer := s.runDev fun d => d.unitRead row

/-- A page read for a stripe unit ends: the whole unit enters the Glade, or the unit fails (R270, R272). The first of the channel in acceptance order
whose LUN is not held by the host's command (R281). -/
def Dev.unitPageRead (d : Dev) (ch : Nat) (ev : PageEv) : Dev :=
  match d.plan.units.find? (fun u => !u.landed && decide (u.ch = ch) && !(d.lunHeld (d.lunOf u.page))) with
  | none => d
  | some u =>
    (match d.readPage u.page false ev with
     | (some bs, d) => ((d.updUnit u.step u.unit (fun u => { u with landed := true, data := bs })).scanned u.step u.unit u.row)
     | (none, d) => d.unitFail u.step u.unit u.row 0x4007 (some (d.regN (Reg.FL_CH_UE_ADDR ch)))).cmdNext

/-- PAGE_READ: a page read of a channel ends, the host's or a unit's (R270, R272, R278). -/
def execPageRead (ch : Fin 16) (host : Bool) (ev : PageEv) (s : State) : Answer :=
  s.runDev fun d =>
    if host then
      match d.flash.cmd with
      | some c => if pgCh c.addr = ch then d.hostRead ev else d
      | none => d
    else (d.unitPageRead ch ev).settleCodec

/-- BLOCK_LANDED: a block's extent has reached the row's slice and is checked (R294). -/
def execBlockLanded (row : Fin 8) (src : BlkSrc) (ev : BlkEv) (s : State) : Answer :=
  s.runDev fun d => (match src with
    | .unit => d.landUnit row ev
    | .step => d.landStep row ev
    | .codec => d.landCodec row ev).settleCodec

/-- The second read of a block passes or fails its check (R295). -/
def Dev.rejudge (d : Dev) (b : Blk) (bs : List Byte) (ev : BlkEv) : Dev :=
  let (clean, d) := d.gladeEv b.row ev
  let b' := { b with bytes := bs }
  let d := { d with plan := { d.plan with blks := d.plan.blks.erase b ++ [b'] } }
  if clean && mbfOk bs then
    (((d.incReg Reg.CD_REREAD_CNT 1).orReg Reg.CD_STAT 1).logT 0x5001 (nodeOf 9 (b.row + 1)) b.tenant).blkPass b' ev.parity
  else
    let b2 := if mbfValid bs || !(mbfValid b.bytes) then b' else b
    (({ d with plan := { d.plan with blks := d.plan.blks.erase b' ++ [b2] } } : Dev)).blkBad b2 0x5002 (some 0)

/-- The second read of a row's block arrives. -/
def Dev.rereadBlk (d : Dev) (row : Nat) (ev : BlkEv) : Dev :=
  match d.plan.blks.find? (fun b => decide (b.row = row) && decide (b.phase = .reread)) with
    | none => d
    | some b =>
      match b.page with
      | some pg =>
        match d.readPage pg false ev.page with
        | (some data, d) =>
          let raw := flipBytes (data.drop b.addr) ev.flip
          let n := if mbfValid raw then (mbfHdr raw).extent else 64
          (match b.owner with
            | .step id off => if 16384 < b.addr + n then d.unitFail id off row 0x300E (some 0) else d.rejudge b (raw.take n) ev
            | .codec _ => d)
        | (none, d) => d.blkBad b 0x4007 (some (d.regN (Reg.FL_CH_UE_ADDR (pgCh pg))))
      | none =>
        let (who, port, st) : Option Nat × Nat × Bool := match b.owner with
          | .step _ _ => (none, 1, true)
          | .codec id => ((d.op? id).bind (·.inst), 2, false)
        match d.readBlk b.tenant b.addr who port st ev.dram with
        | ((some (c, l), _), d) => d.blkBad b c (if l then none else some 0)
        | ((none, bs), d) => d.rejudge b (flipBytes bs ev.flip) ev

/-- BLOCK_REREAD: the second read of a block arrives (R295). -/
def execBlockReread (row : Fin 8) (ev : BlkEv) (s : State) : Answer := s.runDev fun d => (d.rereadBlk row ev).settleCodec

/-- A row's table fetch returns; a block whose table another fetch has brought in the meantime takes that copy. -/
def Dev.tableFetched (d : Dev) (row : Nat) (dr : DramEv) : Dev :=
  match d.plan.blks.find? (fun b => decide (b.row = row) && decide (b.phase = .needTable)) with
    | none => d
    | some b =>
      let who := match b.owner with | .step _ _ => none | .codec id => (d.op? id).bind (·.inst)
      let i := (mbfHdr b.bytes).table
      let got := match d.cached row b.tenant i with
        | some t => if d.tableOk row b.tenant i then ((none, t), d) else ((some (0x5004, false), []), d)
        | none => d.fetchTable row b.tenant i who dr
      match got with
      | ((some (c, l), _), d) => d.blkFail b c (if l then none else some 0)
      | ((none, t), d) =>
        { d with plan := { d.plan with blks := d.plan.blks.map (fun x => if x = b then { b with phase := .checked, table := t } else x) } }

/-- TABLE_FETCH: a row's table fetch returns (R291). -/
def execTableFetch (row : Fin 8) (dr : DramEv) (s : State) : Answer := s.runDev fun d => (d.tableFetched row dr).settleCodec

/-- Send the output of a block to a tile: its place in the codec area is free once it has been written out (R299). -/
def Dev.sendBlk (d : Dev) (b : Blk) (tile a : Nat) (bs : List Byte) : Dev :=
  let b' := { b with phase := .writing }
  ({ d with plan := { d.plan with blks := d.plan.blks.map (fun x => if x = b then b' else x) } } : Dev).eastSend
    { row := b.row, tenant := b.tenant, dx := tileX tile, dy := tileY tile, parts := [(a, bs)], work := .blk b' }

/-- Place the output of a block (R227, R131). -/
def Dev.placeBlk (d : Dev) (b : Blk) (bs : List Byte) : Dev :=
  match b.owner with
  | .step id off =>
    match d.step? id with
    | none => d.dropBlk b
    | some p =>
      if p.dst = 2 then
        ((d.dropBlk b).updUnit id off (fun u => { u with outs := u.outs ++ [(b.out, bs)] })).settleBlk id off b.num b.row true
      else
        let a := p.dest + off * p.ostride * 64 + b.out
        if 524288 < a + bs.length then d.blkFail b 0x300D (some 0)
        else d.sendBlk b p.dtile a bs
  | .codec id =>
    match d.op? id with
    | none => d.dropBlk b
    | some o =>
      if 524288 < b.out + bs.length then d.blkFail b 0x1005 (some 0)
      else d.sendBlk b o.dtile b.out bs

/-- Whether a checked block may be decoded: a unit's lengths are all known before any block of it is written
(R227), and a DM.CODEC decodes in order (R296). -/
def Dev.mayDecode (d : Dev) (b : Blk) : Bool :=
  decide (b.phase = .checked) && b.res.isSome && (match b.owner, b.page with
    | .step id off, some _ => (d.unit? id off).any (·.scanned)
    | .codec id, _ => !(d.plan.blks.any (fun c => decide (c.owner = .codec id ∧ c.num < b.num ∧ c.phase ≠ .writing)))
    | _, _ => true)

/-- Decoding of the row's block ends: the first in its order (R298). -/
def Dev.decodeBlk (d : Dev) (row : Nat) : Dev :=
  match (d.rowBlks row).head?.filter (fun b => d.mayDecode b && !((d.rowEnc row).any (fun o => decide (o.seq < b.seq)))) with
    | none => d
    | some b =>
      match mbfDecode b.table b.bytes with
      | none => d.blkFail b 0x5003 (some 0)
      | some bs => (d.incReg (Reg.CD_DEC_BLOCKS row) 1).placeBlk b bs

/-- BLOCK_DECODED: decoding of a block ends (R228, R293). -/
def execBlockDecoded (row : Fin 8) (s : State) : Answer := s.runDev fun d => (d.decodeBlk row).settleCodec

/-- The candidate tables of a profile (R300), fetched where the row does not hold them; `evs` is what the fetch of each candidate meets. -/
def Dev.candidates (d : Dev) (row tenant : Nat) (who : Option Nat) (evs : List DramEv) :
    List Nat → (Option (Nat × Bool) × List (Nat × List Byte)) × Dev
  | [] => ((none, []), d)
  | i :: is =>
    let got := match d.cached row tenant i with
      | some t => if d.tableOk row tenant i then ((none, t), d) else ((some (0x5004, false), []), d)
      | none => d.fetchTable row tenant i who (evs.headD .ok)
    match got with
    | ((some f, _), d) => ((some f, []), d)
    | ((none, t), d) => match d.candidates row tenant who evs.tail is with
      | ((some f, _), d) => ((some f, []), d)
      | ((none, ts), d) => ((none, (i, t) :: ts), d)

/-- The encoder codes the row's next block of a DM.CODEC, in its order and once its space is reserved, and sends it to DRAM (R131, R222, R298 to
R301). -/
def Dev.encodeBlk (d : Dev) (row : Nat) (drs : List DramEv) : Dev :=
    match (d.rowEnc row).filter (fun o => !((d.rowBlks row).any (fun b => decide (b.seq < o.seq)))) with
    | none => d
    | some o =>
      let part := o.data.take 16384
      let room := 2 * part.length + 64
      if d.codecArea < d.codecUsed row + room then d
      else
      let ids := (List.range (min (fld o.prof 2 3) 4)).map (fun j => fld o.cand (8 * j) 8)
      let fail := fun (d : Dev) (c : Nat) (l : Bool) =>
        (d.codecFail row o.tenant c true).opFail o.id o.num row c (if l then none else some 0)
      match d.candidates row o.tenant o.inst drs ids with
      | ((some (c, l), _), d) => fail d c l
      | ((none, ts), d) =>
        let x := fld o.prof 0 2
        let blk := mbfEncode x (ransChoose (mbfFwd x part) ts) part
        let a := o.at_
        if o.stride ≠ 0 ∧ o.stride * 64 < blk.length then fail d 0x5005 false
        else match d.codecCheck o.tenant a blk.length with
          | some c => fail d c false
          | none =>
            if !(oneGranule a blk.length) || decide ((d.dramPlace a).1 ≠ row) then fail d 0x300F false
            else
              let q := d.plan.nextSeq
              let d := { d.incReg (Reg.CD_ENC_BLOCKS row) 1 with plan := { d.plan with nextSeq := q + 1 } }
              (d.updOp o.id (fun o => { o with num := o.num + 1, nextA := up64 (a + blk.length), data := o.data.drop 16384, seq := q,
                                               sent := o.sent + 1 })).eastSend
                { row := row, tenant := o.tenant, dx := 0, dy := row + 1, parts := [(a, blk)], work := .enc o.id o.num room }

/-- BLOCK_ENCODE: the encoder codes a block (R300, R301); `drs` is what the fetch of each candidate table meets. -/
def execBlockEncode (row : Fin 8) (drs : List DramEv) (s : State) : Answer := s.runDev fun d => (d.encodeBlk row drs).settleCodec

/-! ## The end of a transfer of an east node (R172, R183, R184, R228) -/

/-- A counter update for a step was refused: its block or unit has failed, its data stands (R228, R234). -/
def Dev.countFail (d : Dev) (s : ESend) (step : Option Nat) (tile code : Nat) (det : Option Nat) : Dev :=
  match step with
  | some id =>
    let d := d.stepFail s.row s.tenant tile code det
    d.updStep id (fun p => { p with failed := true })
  | none => match det with
    | some n => d.logS code { rowAt s.row s.tenant with detail := n }
    | none => d

/-- A transfer of an east node has ended: what it served has taken effect, or it was refused with a code; an error that a router has logged is not
logged again. -/
def Dev.eastEnd (d : Dev) (row id : Nat) (refused : Option Nat) : Dev :=
  match d.plan.etx.find? (fun e => decide (e.1 = id ∧ e.2.row = row)) with
  | none => d
  | some e =>
    let d := ({ d with plan := { d.plan with etx := d.plan.etx.erase e } } : Dev).pumpEast
    let det : Option Nat := if refused = some 0x2002 then none else some 0
    (match e.2.work, refused with
      | .blk b, some c => d.blkFail b c det
      | .blk b, none => (match b.owner with
        | .step id off => (d.dropBlk b).settleBlk id off b.num b.row true
        | .codec id => (d.dropBlk b).opBlkDone id b.row)
      | .unit id off, some c => d.unitFail id off row c det
      | .unit id off, none => d.endUnit id off row true
      | .enc id num _, some c => (d.updOp id (fun o => { o with sent := o.sent - 1 })).opFail id num row c det
      | .enc id _ _, none => (match d.op? id with
        | none => d
        | some o => ((d.updOp id (fun o => { o with sent := o.sent - 1 })).signal none row o.tenant o.tile o.ctrD 1).finishOp id row)
      | .count step tile _ _, some c => d.countFail e.2 step tile c det
      | .count _ _ _ _, none => d).settleCodec

/-- A write of CD_TBL_COMMIT (R292). -/
def Dev.tblCommit (d : Dev) (v : Word) : Dev := { d with plan := { d.plan with tblPend := d.plan.tblPend ||| fld v 0 8 } }

/-- CD_TBL_COMMIT: at the next edge the cached tables of the tenants named are invalidated (R292). -/
def execCdTblCommit (v : Word) (s : State) : Answer := s.runDev fun d => d.tblCommit v

/-- At an edge a block of a committed tenant whose decoding has not begun gives its table back; the first of its row that holds its table and its
space has begun (R292). -/
def Dev.dropStale (d : Dev) (b : Blk) : Blk :=
  if d.plan.tblPend.testBit b.tenant && decide (b.phase = .checked) && (mbfHdr b.bytes).coded &&
      !(decide ((d.rowBlks b.row).head? = some b) && b.res.isSome) then { b with phase := .needTable, table := [] }
  else b

/-- The edge's part: register values come into use and committed tables leave the caches (R218, R226, R292). -/
def Dev.planEdge (d : Dev) : Dev :=
  let eight := fun (f : Nat → Nat) => (List.range 8).map f
  { d with plan := { d.plan with
      caches := d.plan.caches.filter (fun c => !(d.plan.tblPend.testBit c.tenant)), tblPend := 0,
      blks := d.plan.blks.map d.dropStale,
      lookUse := min (fld (d.reg Reg.MT_GLADE_SPLIT) 0 4) 14,
      objBase := eight (fun t => d.reg64 (Reg.MT_OBJ_BASE_LO t) (Reg.MT_OBJ_BASE_HI t)),
      objCount := eight (fun t => min (d.regN (Reg.MT_OBJ_COUNT t)) 65536),
      tblBase := eight (fun t => d.reg64 (Reg.CD_TBL_BASE_LO t) (Reg.CD_TBL_BASE_HI t)),
      tblCount := eight (fun t => min (d.regN (Reg.CD_TBL_COUNT t)) 256),
      encCfg := (List.range 8).map (fun t => d.reg (Reg.CD_ENC_CFG t)),
      encCand := (List.range 8).map (fun t => d.reg (Reg.CD_ENC_CAND t)),
      ops := d.plan.ops.map (fun o => { o with inst := none }),
      descs := d.plan.descs.map (fun x => match x with
        | .pref t i _ n a f c => .pref t i none n a f c
        | .codec o => .codec { o with inst := none }) } }

/-- MT_PEND of a tenant (Table 9-11). -/
def Dev.mtPend (d : Dev) (t : Nat) : Nat := (d.plan.steps.filter (fun p => decide (p.tenant = t))).length

end Sys2Proof.Machine
end

