-- ==== Sys2Proof/Machine/Wake.lean ====
section
/-! DEFINITION. When edges fall due (R47 to R51, R330, R357), and the events that wake the part or end an entry (R353, R357). -/

namespace Sys2Proof.Machine

/-! ## Timing of the tick -/

/-- P in ns. -/
def Dev.perNs (d : Dev) : Nat := d.tick.periodUse * 1000

/-- The tick source in use (Table 3-2). -/
def Dev.source (d : Dev) : Nat := fld d.tick.ctrlUse 0 2

/-- Whether the tick runs on the local timer: INTERNAL, or a source that has failed (R51, R333). -/
def Dev.timed (d : Dev) : Bool := decide (d.source = 0) || d.tick.fallback

/-- Whether the chip is the tick master of its system (R330). -/
def Dev.isMaster (d : Dev) : Bool := bit (d.reg Reg.HT_TICK) 0

/-- Time since the last edge, in ns. -/
def Dev.sinceEdge (d : Dev) : Nat := d.nowNs - d.tick.edgeNs

/-- Whether an instance of the present table has not ended (R74). -/
def Dev.tableRunning (d : Dev) : Bool := d.tick.cur.any (·.alive)

/-- Whether a boot is in progress. -/
def Dev.booting (d : Dev) : Bool := bit (d.reg Reg.RB_STAT) 0

/-- Whether the tick unit runs: the period is not 0, and a boot has ended or began at an exit from S5 (R49, R472); a relay makes no edge (R325). -/
def Dev.tickOn (d : Dev) : Bool :=
  decide (d.tick.periodUse ≠ 0) && !d.relay && (!d.booting || d.tick.started || d.pwr.firstEdge.isSome)

/-- Whether an edge is due that needs no further request: a slipped or held one, the first after an exit, the timer's, or the one a TICK
flit or the master itself scheduled (R50, R51, R75, R330, R357). -/
def Dev.edgeDue (d : Dev) : Bool :=
  if !d.tickOn then false
  else
    d.tick.slipDue.isSome ||
    (match d.pwr.firstEdge with
     | some t => decide (t ≤ d.nowNs) && (d.timed || decide (d.source = 2) || d.pwr.wakeTick)
     | none =>
       (d.tick.held && decide (d.perNs * 17 / 20 ≤ d.sinceEdge)) ||
       (d.timed && decide (d.tick.timerNs + d.perNs ≤ d.nowNs)) ||
       (match d.lk.due with | some t => decide (t ≤ d.nowNs * 16) | none => false))

/-- Whether no edge can be expected (R352). -/
def Dev.noEdge (d : Dev) : Bool :=
  decide (d.tick.periodUse = 0) || decide (1 ≤ d.pstate) ||
  (!d.edgeDue && (decide (d.source = 2) ||
    (decide (d.perNs * 3 / 2 ≤ d.sinceEdge) && !d.tick.fallback &&
      (decide (d.source = 3) || (decide (d.source = 1) && !bit d.tick.ctrlUse 2)))))

/-! ## Wake events (Table 15-4) -/

/-- Whether an entry, or an exit, is in progress (Table 15-8). -/
def Dev.entering (d : Dev) : Bool := bit (d.reg Reg.PW_STAT) 8
def Dev.exiting (d : Dev) : Bool := bit (d.reg Reg.PW_STAT) 9

/-- Whether the part is in a state up to `top`, or enters one, so that a wake event counts. -/
def Dev.asleep (d : Dev) (top : Nat) : Bool := d.entering || (decide (1 ≤ d.pstate) && decide (d.pstate ≤ top))

/-- A wake event of PW_WAKE_SRC bit `b`: recorded; during an entry it abandons it at the next step boundary (R353), in a state it begins
the exit (R357). `tickReq` tells that it was the tick source's own request. -/
def Dev.wake (d : Dev) (b : Nat) (tickReq : Bool) : Dev :=
  let d := d.orReg Reg.PW_WAKE_SRC (2 ^ b)
  if d.exiting then d
  else
    let d := { d with pwr := { d.pwr with wakeNs := if d.pwr.wakeSeen then d.pwr.wakeNs else d.nowNs, wakeSeen := true,
                                          wakeTick := d.pwr.wakeTick || tickReq } }
    if d.entering then d else d.orReg Reg.PW_STAT 0x200

/-- A wake event that an enable bit of PW_WAKE_EN gates, detected in the states up to `top`. -/
def Dev.wakeBy (d : Dev) (b top : Nat) (tickReq : Bool) : Dev :=
  if d.asleep top && bit (d.reg Reg.PW_WAKE_EN) b then d.wake b tickReq else d

end Sys2Proof.Machine
end

