-- ==== Sys2Proof/Machine/Link.lean ====
section
/-! DEFINITION. Hertia links (chapter 13): training, the link layer, channels, routes, the tick tree and the loss of chips. -/

namespace Sys2Proof.Machine

/-! ## Training (R304 to R306) -/

/-- Whether the link domain is powered and ports may train: S0 to S3, one stand, no fatal state (R305, R306, R482). -/
def Dev.linkOk (d : Dev) : Bool := decide (d.pstate ≤ 3) && !d.multi && !d.fatal

/-- Whether a port waits out the 100 ms after a failed training: some step has failed 3 times (R305). -/
def LPort.trainWait (x : LPort) : Bool := x.fails.any (fun n => decide (3 ≤ n))

/-- Whether a port is in training (R305): enabled, with a link domain that may train, and neither up nor waiting. -/
def Dev.training (d : Dev) (p : Nat) : Bool :=
  d.linkOk && bit (d.reg (Reg.HT_PORT_CFG p)) 0 && !(d.port p).up && !(d.port p).trainWait

/-- The end of one training of a port: a step fails, for the third time with LINK_TRAIN_FAIL, or the port comes up (Table 13-2). -/
def Dev.trainPort (d : Dev) (p : Nat) (ev : TrainEv) : Dev :=
  let x := d.port p
  match ev with
  | .fails step =>
    let n := x.fails.getD step 0 + 1
    let d := d.setPort p { x with fails := setAt x.fails step n, trainNs := if 3 ≤ n then d.nowNs else x.trainNs }
    if 3 ≤ n then (d.orReg Reg.HT_STAT 4).logC 0x6001 (nodeOf (portNode p).x 0) else d
  | .up c r pp rtts =>
    d.setPort p
      { LPort.reset with
        up := true, peer := c.toNat, relay := r, peerPort := pp.toNat, lat := rtts / 128,
        credits := [64, 64, 64, 64, 64, 64], goodNs := d.nowNs, sent := x.sent }

/-- PORT_TRAINING: a port with EN set ends a training attempt (R305). -/
def execPortTraining (p : Fin 4) (ev : TrainEv) (s : State) : Answer :=
  s.runDev fun d => if d.training p then d.trainPort p ev else d

/-- LINK_TRAIN_RETRY: 100 ms after a failed training the port starts again from step 1 (R305). -/
def execLinkTrainRetry (p : Fin 4) (s : State) : Answer :=
  s.runDev fun d =>
    let x := d.port p
    if d.linkOk && bit (d.reg (Reg.HT_PORT_CFG p)) 0 && !x.up && x.trainWait && decide (x.trainNs + 100000000 ≤ d.nowNs) then
      d.setPort p { x with fails := LPort.reset.fails, trainNs := d.nowNs }
    else d

/-! ## Losing a port (R309, R310, R327, R328) -/

/-- A port that is up takes a TICK or NOTICE for its next slot (R308). -/
def Dev.ctlSend (d : Dev) (p : Nat) (c : LCtl) : Dev := (d.setPort p { d.port p with ctl := (d.port p).ctl ++ [c] }).pump p

/-- Send a NOTICE for a chip on every port that is up, but the one it came by (R328). -/
def Dev.noticeOut (d : Dev) (chip except : Nat) : Dev :=
  (List.range 4).foldl (fun d p =>
    if (d.port p).up && decide (p ≠ except) then d.ctlSend p (.notice chip d.chipId) else d) d

/-- Set a chip's bit in HT_LOST: SYSTEM barriers break and the tick is withdrawn (R328, R483). -/
def Dev.chipLost (d : Dev) (chip : Nat) : Dev :=
  let d := (d.orReg Reg.HT_LOST (2 ^ (chip % 16))).orReg Reg.HT_STAT 0x200
  let d := { d with tick := { d.tick with withdrawnAll := true } }
  d.breakSystem

/-- Declare a port down (R310): LINK_PORT_DOWN, then the losses of R327 and the NOTICE of R328. -/
def Dev.portDown (d : Dev) (p : Nat) : Dev :=
  let peer := (d.port p).peer
  let d := (d.orReg Reg.HT_STAT 1).logC 0x6002 (nodeOf (portNode p).x 0)
  ((d.losePorts [p]).chipLost peer).noticeOut peer 4

/-- PORT_DOWN: no flit with a good CRC for 200 ns (R310). -/
def execPortDown (p : Fin 4) (s : State) : Answer :=
  s.runDev fun d => if (d.port p).up && decide ((d.port p).goodNs + 200 ≤ d.nowNs) then d.portDown p else d

/-- Use a VC or replay buffer of a port (R485): an uncorrectable error logs LINK_SRAM_UE and takes the port down. -/
def Dev.linkSram (d : Dev) (p : Nat) (ev : SramEv) (act : Dev → Dev) : Dev :=
  match ev with
  | .clean => act d
  | .corrected => act (d.sramCe (nodeOf (portNode p).x 0))
  | .uncorrectable => (d.logC 0x600E (nodeOf (portNode p).x 0)).portDown p

/-! ## The link layer (R307 to R309) -/

/-- Drop from the replay buffer the flits up to an acknowledged LSEQ. -/
def dropAcked : List LFlit → Nat → List LFlit
  | [], _ => []
  | f :: fs, a => if f.lseq = a then fs else dropAcked fs a

/-- Take the ACK and the credits of a received flit. -/
def takeAck (x : LPort) (now : Nat) (f : LFlit) : LPort :=
  let x := if x.replay.any (fun e => decide (e.lseq = f.ack)) then
      { x with replay := dropAcked x.replay f.ack, ackd := f.ack, tries := 0, ackNs := now }
    else x
  { x with credits := setAt x.credits f.cvc (x.credits.getD f.cvc 0 + f.cred) }

/-- A flit as it is resent: with the last ACK, and for a TICK the REMAIN of its new departure (R309). -/
def LFlit.again (f : LFlit) (ack now : Nat) : LFlit :=
  let f := { f with ack := ack }
  if f.ty = 2 then { f with pay := f.pay.take 4 ++ leBytes 3 (f.due - now * 16) ++ f.pay.drop 7 } else f

/-- Resend every unacknowledged flit in order (R309); the 16th replay of one flit takes the port down. -/
def Dev.replay (d : Dev) (p : Nat) : Dev :=
  let x := d.port p
  let d := d.incReg (Reg.HT_P_REPLAY p) 1
  if 16 ≤ x.tries + 1 then ((d.orReg Reg.HT_STAT 2).logC 0x6003 (nodeOf (portNode p).x 0)).portDown p
  else
    let again := x.replay.map (fun f => f.again ((x.rxSeq + 4095) % 4096) d.nowNs)
    d.setPort p { x with tries := x.tries + 1, replay := again, sent := x.sent ++ again, ackOut := false, ackNs := d.nowNs }

/-- Discard what a port receives, with one NAK for the gap (R309). -/
def Dev.nak (d : Dev) (p : Nat) : Dev :=
  let x := d.port p
  if x.nakOut then d else d.setPort p (portSend { x with nakOut := true } d.nowNs 4 0 0 0 (List.replicate 116 0))

/-- A port once a flit is accepted: its ACK and credits are taken and its LSEQ, where it uses one, is counted (R309). -/
def LPort.accept (x : LPort) (now : Nat) (f : LFlit) : LPort :=
  let x := takeAck { x with goodNs := now, nakOut := false } now f
  if usesSeq f.ty then { x with rxSeq := (x.rxSeq + 1) % 4096, ackOut := true } else x

/-- Receive the bytes of a flit of a type: discarded with one NAK unless its CRC is good and its LSEQ the one expected; else accepted, `act` acts on it,
and the port sends what it now can (R309). -/
def Dev.rx (d : Dev) (p ty : Nat) (bs : List Byte) (act : Dev → LFlit → Dev) : Dev :=
  let x := d.port p
  if !x.up then d
  else match flitOf bs with
    | none => d.nak p
    | some f =>
      if f.ty ≠ ty then d
      else if f.lseq = x.rxSeq then (act (d.setPort p (x.accept d.nowNs f)) f).pump p
      else (d.setPort p { x with goodNs := d.nowNs }).nak p

/-- IDLE: an IDLE flit arrives, its header and what follows it (R309, R310). -/
def execIdleFlit (p : Fin 4) (hd : BitVec 64) (bs : List Byte) (s : State) : Answer :=
  s.runDev fun d => d.rx p 0 (leBytes 8 hd.toNat ++ bs) (fun d _ => d)

/-- NAK: the sender replays from the flit after ACK (R309). -/
def execNakFlit (p : Fin 4) (bs : List Byte) (ev : SramEv) (s : State) : Answer :=
  s.runDev fun d => d.rx p 4 bs fun d _ =>
    if (d.port p).replay.isEmpty then d else d.linkSram p ev (fun d => d.replay p)

/-- REPLAY_TIMEOUT: 2 µs without ACK advancing past a flit sent (R309). -/
def execReplayTimeout (p : PortEv) (s : State) : Answer :=
  s.runDev fun d =>
    let x := d.port p.port
    if x.up && !x.replay.isEmpty && decide (x.ackNs + 2000 ≤ d.nowNs) then d.linkSram p.port p.sram (fun d => d.replay p.port) else d

/-- NOTICE: a chip not yet in HT_LOST is set there and the NOTICE passed on (R328). -/
def execNoticeFlit (p : Fin 4) (hd : BitVec 64) (bs : List Byte) (s : State) : Answer :=
  s.runDev fun d => d.rx p 3 (leBytes 8 hd.toNat ++ bs) fun d f =>
    let c := (f.pay.headD 0).toNat % 16
    if bit (d.reg Reg.HT_LOST) c then d else (d.chipLost c).noticeOut c p

/-! ## DATA flits and packets in transit (R307, R311, R318, R324) -/

/-- A packet from its bytes, and what is left. -/
def parsePkt (bs : List Byte) : Option (Pkt × List Byte) :=
  if bs.length < 8 then none
  else
    let h := leNat (bs.take 8)
    let ty := fldN (leNat ((bs.drop 8).take 12)) 74 4
    let kind := fldN h 8 3
    let n := pktBodyLen kind (fldN h 22 4) ty
    if bs.length < 8 + (if kind = 0 then max n 12 else n) then none
    else some ({ dchip := fldN h 0 4, schip := fldN h 4 4, kind := kind, cls := fldN h 11 2, mc := fldN h 14 2,
                 epoch := fldN h 18 4, nlines := fldN h 22 4, seq := fldN h 32 16, body := (bs.drop 8).take n },
               bs.drop (8 + n))

/-- Every whole packet of some bytes, and the bytes of one that is not whole. No packet begins with a zero byte, since none goes from a chip to itself:
such bytes fill a flit that has nothing more to carry (DESIGN CHOICE, notes/assumptions/111). -/
def parsePkts : Nat → List Byte → List Pkt × List Byte
  | 0, bs => ([], bs)
  | n + 1, bs => if bs.headD 0 = 0 then ([], []) else match parsePkt bs with
    | none => ([], bs)
    | some (k, rest) => let (ks, r) := parsePkts n rest; (k :: ks, r)

/-- The packets that a DATA flit completes, after the bytes `old` of one begun before, and the bytes of one that it begins or continues (R307). -/
def flitPkts (old : List Byte) (f : LFlit) : List Pkt × List Byte :=
  let whole := fun (bs : List Byte) => if old.isEmpty then [] else match parsePkt bs with | some (k, _) => [k] | none => []
  if f.start < 116 then
    let c := parsePkts 15 (f.pay.drop f.start)
    (whole (old ++ f.pay.take f.start) ++ c.1, c.2)
  else
    let ks := whole (old ++ f.pay)
    (ks, if old.isEmpty || !ks.isEmpty then [] else old ++ f.pay)

/-- Whether a packet is a chip multicast (Table 13-4): of LINES packets, MC tells; in the answers to them it names the channel (R314). -/
def Pkt.multi (k : Pkt) : Bool := decide (k.kind = 0 ∧ k.mc ≠ 0)

/-- Whether this chip is in the row (mc 1) or column (mc 2) of another. -/
def Dev.inLine (d : Dev) (mc c : Nat) : Bool :=
  if mc = 1 then decide (c / d.topoW = d.chipId / d.topoW) else decide (c % d.topoW = d.chipId % d.topoW)

/-- Whether a packet is for this chip: it is its destination, or a member of its row or column (R322). -/
def Dev.forMe (d : Dev) (k : Pkt) : Bool :=
  if k.multi then d.inLine k.mc k.schip && decide (k.schip ≠ d.chipId) && !(bit (d.reg Reg.HT_ROLES) d.chipId)
  else decide (k.dchip = d.chipId)

/-- Whether a packet's KIND, CLASS and MC are assigned (Table 13-4). -/
def Pkt.known (k : Pkt) : Bool := decide (k.kind < 4 ∧ k.cls < 3 ∧ k.mc < 3)

/-- Take a packet that has arrived by port `q` on a VC with places to free: for this chip's endpoint, onwards, or back (R318, R322, R325, R327). -/
def Dev.takePkt (d : Dev) (q vc : Nat) (k : Pkt) (free : Nat) : Dev :=
  if !k.known then d.giveBack q vc free
  else
    let own := d.forMe k
    let here := own && !d.relay
    let d := if own && d.relay then d.incReg Reg.HT_DROP_CNT 1 else d
    let d := if here then { d with lk := { d.lk with inbox := d.lk.inbox ++ [{ pkt := k, port := q, vc := vc, free := free }] } } else d
    if k.multi then d.queueMc k q vc (if here then 0 else free)
    else if own then (if here then d else d.giveBack q vc free)
    else d.queuePktTo k k.dchip q vc free

/-- Take the payload of a DATA flit (R307). The places of a VC's input go with the last packet that a flit completes, less that of a flit which begins
another (R308). -/
def Dev.takeData (d : Dev) (p : Nat) (f : LFlit) : Dev :=
  let x := d.port p
  let (ks, rest) := flitPkts (x.asm.getD f.vc []) f
  let n := x.held.getD f.vc 0 + 1
  let free := if rest.isEmpty then n else if ks.isEmpty then 0 else n - 1
  let d := d.setPort p { x with asm := setAt x.asm f.vc rest, held := setAt x.held f.vc (n - free) }
  if ks.isEmpty then d.giveBack p f.vc free
  else (ks.zipIdx).foldl (fun d e => d.takePkt p f.vc e.1 (if e.2 + 1 = ks.length then free else 0)) d

/-- DATA: a DATA flit arrives (R309). -/
def execDataFlit (p : Fin 4) (bs : List Byte) (ev : SramEv) (s : State) : Answer :=
  s.runDev fun d => d.rx p 1 bs fun d f => if f.vc < 6 then d.linkSram p ev (fun d => d.takeData p f) else d

/-! ## Requests that leave by a north node (R312, R315, R321, R322) -/

/-- Send the lines packed for a transfer as one LINES packet (R312): LAST, CEN and CIDX are the final line's. -/
def Dev.flushPack (d : Dev) (k : Packing) : Dev :=
  let t := BitVec.ofNat 96 (k.first.toNat - fld k.first 70 1 * 2 ^ 70 - fld k.first 44 12 * 2 ^ 44
    + fld k.last 70 1 * 2 ^ 70 + fld k.last 44 12 * 2 ^ 44)
  let n := if k.kind = 0 then 1 else (d.mcMembers k.kind).length
  let reqs := if tagLast k.last ∧ tagTy k.last = tyWR then List.replicate n t else []
  d.chanSend k.kind (tagCls t) k.peer (leBytes 12 t.toNat ++ (k.lines.map lineBytes).flatten) (k.lines.length - 1) reqs

/-- Whether a flit belongs to a transfer that is being packed: the same channel, source, destination, TXID and type (R312). -/
def packOf (k : Packing) (kind peer : Nat) (t : Tag) : Bool :=
  decide (k.kind = kind ∧ k.peer = peer ∧ tagSx k.last = tagSx t ∧ tagSy k.last = tagSy t ∧ tagDx k.last = tagDx t ∧
    tagDy k.last = tagDy t ∧ tagTxid k.last = tagTxid t ∧ tagTy k.last = tagTy t)

/-- The core without a packing of a transfer. -/
def Dev.dropPack (d : Dev) (kind peer : Nat) (t : Tag) : Dev :=
  { d with lk := { d.lk with packs := d.lk.packs.filter (fun k => !packOf k kind peer t) } }

/-- The core with a packing. -/
def Dev.keepPack (d : Dev) (k : Packing) : Dev := { d with lk := { d.lk with packs := d.lk.packs ++ [k] } }

/-- A line of a transfer that its channel refuses, or of which a part is lost: the rest is dropped, up to its LAST flit (R315). -/
def Dev.losePack (d : Dev) (kind peer : Nat) (t : Tag) : Dev :=
  let d := d.dropPack kind peer t
  if tagLast t then d else d.keepPack { kind := kind, peer := peer, first := t, last := t, lines := [], lost := true }

/-- Pack a WR or RDATA flit into its transfer's packet, and send the packet when it ends, is full, or does not continue (R312). A transfer of which a
part is lost with its channel is refused at its LAST flit. -/
def Dev.packLine (d : Dev) (kind peer : Nat) (at_ : Node) (t : Tag) (pay : Line) : Dev :=
  let fresh : Packing := { kind := kind, peer := peer, first := t, last := t, lines := [pay], lost := false }
  let mine := (d.lk.packs.find? (fun k => packOf k kind peer t)).getD { fresh with lines := [] }
  let d := d.dropPack kind peer t
  if mine.lost then
    let d := d.losePack kind peer t
    if tagLast t ∧ tagTy t = tyWR then d.errTo at_ t 0x6007 else d
  else
    let (d, k) := if mine.lines.isEmpty then (d, fresh)
      else if tagAddr mine.last + 1 = tagAddr t then (d, { mine with last := t, lines := mine.lines ++ [pay] })
      else (d.flushPack mine, fresh)
    if tagLast t then d.flushPack k
    else if 16 ≤ k.lines.length then (d.flushPack k).keepPack { k with lines := [] }
    else d.keepPack k

/-- Where a request at a north node goes: channel kind and peer chip, by its window or its counter's chip (R171, R321). -/
def Dev.northTarget (d : Dev) (t : Tag) : Nat × Nat :=
  if tagCls t = 1 then (0, tagAddr t / 2 ^ 17 % 16)
  else
    let w := d.lk.winUse.getD (tagAddr t / 2 ^ 29 - 1) 0
    (fld w 1 2 % 3, fld w 4 4)

/-- A request flit reaches a north node: refused by R315, or sent on its channel. -/
def Dev.northRequest (d : Dev) (at_ : Node) (t : Tag) (pay : Line) : Dev :=
  let (kind, peer) := d.northTarget t
  match d.judge315 kind (tagCls t) peer with
  | (some code, d) =>
    let d := if tagTy t = tyWR then d.losePack kind peer t else d
    if tagLast t || decide (tagTy t ≠ tyWR) then d.errTo at_ t code else d
  | (none, d) =>
    if tagTy t = tyWR then d.packLine kind peer at_ t pay
    else
      let n := if kind = 0 then 1 else (d.mcMembers kind).length
      d.chanSend kind (tagCls t) peer (leBytes 12 t.toNat ++ leBytes 16 pay.toNat) 0 (List.replicate n t)

/-- An answer for another chip reaches a north node: it returns on the RSP channel of the requester's chip, unless that is refused. -/
def Dev.northAnswer (d : Dev) (t : Tag) (pay : Line) : Dev :=
  match d.lk.rtxns.find? (fun r => decide (r.id = tagTxid t)) with
  | none => d
  | some r =>
    let back := fun (ty : Nat) => mkTag ⟨tagSx t, tagSy t⟩ ⟨r.x, r.y⟩ ty (tagTenant t) (tagLast t) r.txid false 0 (tagAddr t)
    let line := decide (tagTy t = tyRDATA)
    let fin := tagLast t || !line
    let left := d.lk.rtxns.filter (fun e => decide (e.id ≠ r.id))
    let d := if fin then { d with lk := { d.lk with rtxns := left } } else d
    let d := if line then d else d.dropPack 0 r.chip (back tyRDATA)
    match d.judge315 0 0 r.chip with
    | (some _, d) => if line then d.losePack 0 r.chip (back tyRDATA) else d
    | (none, d) => if line then d.packLine 0 r.chip ⟨tagDx t, tagDy t⟩ (back tyRDATA) pay
        else d.chanSend 0 0 r.chip (leBytes 12 (back (tagTy t)).toNat ++ leBytes 16 pay.toNat) 0 []

/-! ## Packets at their destination (R313 to R316) -/

/-- The local TXID under which another chip's request is served: the one it has, or the lowest that is free. -/
def Dev.rtxId (d : Dev) (chip : Nat) (t : Tag) : Option Nat :=
  match d.lk.rtxns.find? (fun r => decide (r.chip = chip ∧ r.x = tagSx t ∧ r.y = tagSy t ∧ r.txid = tagTxid t)) with
  | some r => some r.id
  | none => (List.range 256).find? (fun i => !(d.lk.rtxns.any (fun r => decide (r.id = i))))

/-- Hold the entry under which a request is answered. -/
def Dev.rtxHold (d : Dev) (id chip : Nat) (t : Tag) : Dev :=
  if d.lk.rtxns.any (fun r => decide (r.id = id)) then d
  else { d with lk := { d.lk with rtxns := d.lk.rtxns ++
    [{ id := id, left := 1, chip := chip, x := tagSx t, y := tagSy t, txid := tagTxid t }] } }

/-- Whether a tag is an answer: RDATA, WACK or ERR. -/
def isAnswer (t : Tag) : Bool := decide (tagTy t = tyRDATA ∨ tagTy t = tyWACK ∨ tagTy t = tyERR)

/-- Whether a tag is a barrier flit. -/
def isBarrier (t : Tag) : Bool := decide (tagTy t = tyBARR ∨ tagTy t = tyBREL)

/-- Whether a request of this chip that an answer ends or continues is outstanding. -/
def answers (t r : Tag) : Bool := decide (tagSx r = tagDx t ∧ tagSy r = tagDy t ∧ tagTxid r = tagTxid t)

/-- An answer of another chip goes to its requester; one to a request that has already been completed as failed does not (R315). -/
def Dev.expandAnswer (d : Dev) (src : Node) (t : Tag) (lines : List Line) : Dev :=
  if !(d.lk.chans.any (fun e => e.2.reqs.any (answers t))) then d
  else
    let d := if tagTy t ≠ tyRDATA ∨ tagLast t then
        { d with lk := { d.lk with chans := d.lk.chans.map (fun e => (e.1, { e.2 with reqs := e.2.reqs.eraseP (answers t) })) } }
      else d
    (lines.zipIdx).foldl (fun d e =>
      d.send (mkTag src ⟨tagDx t, tagDy t⟩ (tagTy t) (tagTenant t) (tagLast t && decide (e.2 + 1 = lines.length)) (tagTxid t) false 0
        (tagAddr t + e.2)) e.1) d

/-- Put the flits of a delivered LINES packet on Canopy, in line order; LAST and CEN are the final line's (R312). A request travels under the TXID `id`
of this chip; the west node of its address judges the address (R321). -/
def Dev.expand (d : Dev) (k : Pkt) (id : Nat) : Dev :=
  let t : Tag := BitVec.ofNat 96 (leNat (k.body.take 12))
  let p := d.routeTo k.schip
  let src := portNode (if p < 4 then p else 0)
  let ty := tagTy t
  let lines : List Line := if ty = tyWR ∨ ty = tyRDATA then
      (List.range (k.nlines + 1)).map (fun i => bytesLine (((k.body.drop 12).drop (64 * i)).take 64))
    else [BitVec.ofNat 512 (leNat (k.body.drop 12))]
  if isAnswer t then d.expandAnswer src t lines
  else if isBarrier t then d.send (mkTag src nTick ty (tagTenant t) true 0 false 0 (tagAddr t)) (lines.headD 0)
  else if ty = tyCADD ∨ ty = tyCSET then
    let a := tagAddr t % 2 ^ 17
    (d.rtxHold id k.schip t).send (mkTag src (tileNode (a / 2048)) ty (tagTenant t) true id false 0 a) (lines.headD 0)
  else
    (lines.zipIdx).foldl (fun d e =>
      let a := tagAddr t % 2 ^ 29 + e.2
      let fin := decide (e.2 + 1 = lines.length)
      d.send (mkTag src ⟨0, min (d.dramPlace (a * 64)).1 7 + 1⟩ ty (tagTenant t) (tagLast t && fin) id (tagCen t && fin)
        (if fin then tagCidx t else 0) a) e.1) (d.rtxHold id k.schip t)

/-- Send the EACK of a channel for what it has delivered (R314); it names the channel by its class and kind. -/
def Dev.sendEack (d : Dev) (kind cls peer : Nat) : Dev :=
  let key := chanKey kind 1 cls peer
  let c := d.chan key
  let d := d.setChan key { c with since := 0 }
  d.queuePkt { dchip := peer, schip := d.chipId, kind := 1, cls := cls, mc := kind, epoch := 0, nlines := 0,
               seq := (c.seq + 65535) % 65536, body := [] }

/-- The TXID that the request of a LINES packet needs here: none where it needs none, `some none` while all 256 are in use. -/
def Dev.rtxNeed (d : Dev) (k : Pkt) : Option (Option Nat) :=
  let t : Tag := BitVec.ofNat 96 (leNat (k.body.take 12))
  if isAnswer t || isBarrier t then none else some (d.rtxId k.schip t)

/-- Take a LINES packet at its destination (R313): discarded, delivered, or the channel is fenced. A request that finds no TXID free waits (R44). -/
def Dev.takeLines (d : Dev) (k : Pkt) : Option Dev :=
  let key := chanKey k.mc 1 k.cls k.schip
  let c := d.chan key
  if k.epoch ≠ c.epoch then some (d.incReg Reg.HT_STALE_CNT 1)
  else if !c.opened || c.fenced then some (d.incReg Reg.HT_DROP_CNT 1)
  else if k.seq = c.seq then
    if d.rtxNeed k = some none then none
    else
      let d := (d.setChan key { c with seq := (c.seq + 1) % 65536, since := c.since + 1,
                                       oldest := if c.since = 0 then d.nowNs else c.oldest }).expand k (((d.rtxNeed k).getD none).getD 0)
      some (if 16 ≤ c.since + 1 then d.sendEack k.mc k.cls k.schip else d)
  else
    let d := (d.setChan key { c with fenced := true }).orReg Reg.HT_STAT 0x20
    some (d.logS 0x6004 { atNode (nodeOf 2 0) with tenant := some (d.rowTenant 0) })

/-- Whether a waiting packet goes before or is another: of the same source, class, kind of channel and KIND. -/
def Pkt.same (k e : Pkt) : Bool := decide (e.schip = k.schip ∧ e.cls = k.cls ∧ e.mc = k.mc ∧ e.kind = k.kind)

/-- Take one packet for this chip from the endpoint's inbox, where it waits, and free its places; a packet not there arrives directly when none like it
waits before it. A relay discards it (R325). -/
def Dev.fromInbox (d : Dev) (k : Pkt) (act : Dev → Option Dev) : Dev :=
  let act := fun (d : Dev) => if d.relay then some (d.incReg Reg.HT_DROP_CNT 1) else act d
  if !(d.forMe k) || !k.known then d
  else match d.lk.inbox.find? (fun e => k.same e.pkt) with
    | some e =>
      if e.pkt = k then
        match act { d with lk := { d.lk with inbox := d.lk.inbox.erase e } } with
        | some d => (d.giveBack e.port e.vc e.free).tellAll
        | none => d
      else d
    | none => (act d).getD d

/-- LINES: a LINES packet is taken by the destination endpoint (R313). -/
def execLinesPkt (k : Pkt) (s : State) : Answer :=
  s.runDev fun d => if k.kind = 0 then d.fromInbox k (fun d => d.takeLines k) else d

/-- Retire the packets up to SEQ that a member acknowledges. -/
def eackUpTo : List LUnack → Nat → Nat → List LUnack
  | [], _, _ => []
  | u :: us, q, m => if u.seq = q then { u with owed := u.owed.erase m } :: us
    else { u with owed := u.owed.erase m } :: eackUpTo us q m

/-- Take an EACK at the channel's source; what waited for its room goes on (R313, R314). -/
def Dev.takeEack (d : Dev) (k : Pkt) : Dev :=
  let key := chanKey k.mc 0 k.cls (if k.mc = 0 then k.schip else 0)
  let c := d.chan key
  if c.unack.any (fun u => decide (u.seq = k.seq)) then
    (d.setChan key { c with unack := (eackUpTo c.unack k.seq k.schip).filter (fun u => !u.owed.isEmpty) }).chanDrain k.mc k.cls k.schip
      c.wait.length
  else d

/-- EACK: the source retires what a destination acknowledges; a multicast waits for its slowest member (R314). -/
def execEack (k : Pkt) (s : State) : Answer :=
  s.runDev fun d => if k.kind = 1 then d.fromInbox k (fun d => some (d.takeEack k)) else d

/-- EACK_DUE: 1 µs after the oldest delivered packet that is not acknowledged (R314). -/
def execEackDue (kind cls : Fin 3) (peer : Fin 16) (s : State) : Answer :=
  s.runDev fun d =>
    let c := d.chan (chanKey kind 1 cls peer)
    if c.opened && !c.fenced && decide (0 < c.since ∧ c.oldest + 1000 ≤ d.nowNs) then d.sendEack kind cls peer else d

/-- The channel of this chip that sent a returned packet: its class is its tag's, and it holds a packet of that SEQ and tag that is not acknowledged
(DEDUCED, notes/assumptions/111). -/
def Dev.returned (d : Dev) (k : Pkt) : Option (Nat × Nat × Nat) :=
  let t : Tag := BitVec.ofNat 96 (leNat k.body)
  (srcEnds d).find? (fun e => decide (e.2.1 = tagCls t) &&
    (d.chan (chanKey e.1 0 e.2.1 e.2.2)).unack.any (fun u => decide (u.seq = k.seq ∧ u.tag = t)))

/-- UNDELIV: a returned packet fences its channel at the source and fails its requests (R315, R327). -/
def execUndeliv (k : Pkt) (s : State) : Answer :=
  s.runDev fun d =>
    if k.kind = 2 then d.fromInbox k (fun d =>
      some ((match d.returned k with | some (kind, cls, peer) => d.fenceSrc kind cls peer 0x6006 | none => d).orReg Reg.HT_STAT 0x10))
    else d

/-- FINISH: the master records that a chip's table has finished (R332). -/
def execFinishPkt (k : Pkt) (s : State) : Answer :=
  s.runDev fun d =>
    if k.kind = 3 then d.fromInbox k (fun d =>
      some (if bit (d.reg Reg.HT_TICK) 0 ∧ k.seq = d.tick.count % 65536 then
        { d with lk := { d.lk with finish := d.lk.finish ||| BitVec.ofNat 16 (2 ^ k.schip) } }
      else d))
    else d

/-- E2E_TIMEOUT: the oldest unacknowledged packet of a channel is older than HT_E2E_TO (R314). -/
def execE2eTimeout (kind cls : Fin 3) (peer : Fin 16) (s : State) : Answer :=
  s.runDev fun d =>
    let key := chanKey kind 0 cls (if kind.val = 0 then peer.val else 0)
    let c := d.chan key
    match c.unack with
    | u :: _ =>
      if c.opened && !c.fenced && decide (u.ns + max (d.regN Reg.HT_E2E_TO) 5 * 1000 < d.nowNs) then
        let d := (d.fenceSrc kind cls peer 0x6005).orReg Reg.HT_STAT 8
        d.logS 0x6005 { atNode (nodeOf 2 0) with tenant := some (d.rowTenant 0) }
      else d
    | [] => d

/-! ## Commands (R316 to R318, R326) -/

/-- The channel ends that an HT_CHAN_CMD word names: kind, end, classes, peer. -/
def chanCmd (v : Word) : Nat × Nat × List Nat × Nat :=
  let kind := fld v 6 2 % 3
  let end_ := fld v 8 1
  let cls := if kind ≠ 0 then [2] else if fld v 4 2 = 3 then [0, 1, 2] else [fld v 4 2]
  (kind, end_, cls, if kind ≠ 0 ∧ end_ = 0 then 0 else fld v 0 4)

/-- A write of HT_CHAN_CMD with OP 1: set the epoch, clear the fence, restart the sequence at 0 (R316). At a source, requests and packets that wait go
on in the new epoch. -/
def Dev.chanOpen (d : Dev) (v : Word) : Dev :=
  if fld v 16 2 = 1 then
    let (kind, e, cls, peer) := chanCmd v
    cls.foldl (fun d c =>
      let x := d.chan (chanKey kind e c peer)
      let d := d.setChan (chanKey kind e c peer)
        { Chan.closed with opened := true, epoch := fld v 12 4, wait := x.wait, reqs := x.reqs }
      if e = 0 then d.chanDrain kind c peer x.wait.length else d) d
  else d

/-- A write of HT_CHAN_CMD with OP 2: discard the end's state; the channel is closed (R316). A request that its peer has taken still ends with its
answer (DESIGN CHOICE, notes/assumptions/111). -/
def Dev.chanClose (d : Dev) (v : Word) : Dev :=
  if fld v 16 2 = 2 then
    let (kind, e, cls, peer) := chanCmd v
    cls.foldl (fun d c =>
      let d := d.setChan (chanKey kind e c peer) { Chan.closed with reqs := (d.chan (chanKey kind e c peer)).reqs }
      if e = 0 then d.losePacks kind c peer else d) d
  else d

/-- OPEN: a channel end opens (R316). -/
def execChOpen (v : Word) (s : State) : Answer := s.runDev fun d => d.chanOpen v

/-- CLOSE: a channel end closes (R316). -/
def execChClose (v : Word) (s : State) : Answer := s.runDev fun d => d.chanClose v

/-- A write of HT_ROUTE_COMMIT (R318). -/
def Dev.routeCommit (d : Dev) (v : Word) : Dev := if bit v 0 then { d with lk := { d.lk with routePend := true } } else d

/-- HT_ROUTE_COMMIT: the shadow route table becomes active at the next edge (R318). -/
def execHtRouteCommit (v : Word) (s : State) : Answer := s.runDev fun d => d.routeCommit v

/-- A write of HT_CHIP, or of HT_TOPO, is dropped while any port is up (R317). -/
def Dev.chipWrite (d : Dev) (topo : Bool) (v : Word) : Dev :=
  if d.anyUp then d.logC 0x600A (nodeOf 2 0)
  else if topo then d.setReg Reg.HT_TOPO (v &&& 0x3F) else d.setReg Reg.HT_CHIP (v &&& 0x1F)

/-- HT_CHIP_WRITE (R317). -/
def execHtChipWrite (topo : Bool) (v : Word) (s : State) : Answer := s.runDev fun d => d.chipWrite topo v

/-- HT_FENCED as it reads: a chip with a fenced channel end, or with an open end and one that is not. -/
def Dev.htFenced (d : Dev) : Nat :=
  (List.range 16).foldl (fun n c =>
    let es := (d.lk.chans.filter (fun e => decide (e.1 % 16 = c ∧ e.1 < 128))).map (·.2)
    n + b2n (es.any (·.fenced) || (es.any (·.opened) && decide ((es.filter (·.opened)).length < 6))) * 2 ^ c) 0

/-- HT_STAT.QUIET: no packet of this chip is in flight or queued. -/
def Dev.htQuiet (d : Dev) : Bool :=
  d.lk.packs.isEmpty && d.lk.chans.all (fun e => e.2.unack.isEmpty && e.2.wait.isEmpty) &&
  d.lk.ports.all (fun p => p.outq.all (fun k => decide (k.pkt.schip ≠ d.chipId)))

/-- HT_PORT_STAT of a port as it reads (Table 13-7). -/
def Dev.portStat (d : Dev) (i : Nat) : Nat :=
  let p := d.port i
  b2n p.up + 2 * b2n (d.training i) + 16 * (p.peer % 16) + 256 * b2n p.relay + 512 * (p.peerPort % 4) + 65536 * (p.lat % 65536)

/-- The link domain's registers at their reset values (R326, Table 13-7). -/
def Dev.resetDom (d : Dev) (p : Dom → Bool) : Dev :=
  { d with regs := d.regs.filter (fun e => match regAt e.1 with | some r => !(p r.dom) | none => true) }

/-- Every port goes down as in a link-domain reset: its peer is lost (R306, R310, R327). -/
def Dev.dropPorts (d : Dev) : Dev :=
  let peers := ((List.range 4).filter (fun p => (d.port p).up)).map (fun p => (d.port p).peer)
  peers.foldl (fun d c => d.chipLost c) d.silence

/-- LINK_RST_N: the link domain resets; channels routed through a lost port are fenced (R326, R327). -/
def execLinkRstN (s : State) : Answer :=
  s.runDev fun d =>
    let d := d.dropPorts.resetDom (fun m => decide (m = .link))
    { d with lk := { d.lk with ports := List.replicate 4 LPort.reset, route := List.replicate 16 7, routePend := false, due := none } }

/-! ## The tick tree (R330 to R333) -/

/-- Forward a TICK flit on the ports of HT_TICK.FWD with the time that remains to the edge (R330). -/
def Dev.fwdTick (d : Dev) (num due : Nat) (pol : Bool) (per pct : Nat) : Dev :=
  (List.range 4).foldl (fun d p =>
    if bit (d.reg Reg.HT_TICK) (4 + p) && (d.port p).up then
      d.ctlSend p (.tick num due pol per pct)
    else d) d

/-- TICK: a TICK flit on the UP port (R330, R333): schedules the chip's edge at t − LAT + REMAIN and is forwarded; while
free-running it resumes synchronised running when at least 0.5 P have passed. In S1 to S3 it is a wake event (Table 15-4),
kept in `wake`. -/
def execTickFlit (p : Fin 4) (hd : BitVec 64) (bs : List Byte) (s : State) : Answer :=
  s.runDev fun d => d.rx p 2 (leBytes 8 hd.toNat ++ bs) fun d f =>
      let cfg := d.reg Reg.HT_TICK
      if bit cfg 0 || !bit cfg 1 || decide (fld cfg 2 2 ≠ p.val) then d
      else
        let num := leNat (f.pay.take 4)
        let rem := leNat ((f.pay.drop 4).take 3)
        let pol := ((f.pay.drop 7).headD 0).getLsbD 0
        let per := leNat ((f.pay.drop 8).take 2)
        let pct := ((f.pay.drop 10).headD 0).toNat
        let early := d.tick.unsync && decide (d.nowNs < d.tick.edgeNs + d.tick.periodUse * 500)
        let lat := (d.port p).lat
        let due := d.nowNs * 16 + rem - lat
        if early then d
        else
          let d := if d.relay then d
            else { d with lk := { d.lk with due := some (max due (d.nowNs * 16)), polRx := pol, perRx := per,
                                            pctRx := pct },
                          tick := { d.tick with unsync := false, fallback := false } }
          let d := if rem ≤ lat ∧ !d.relay then (d.orReg Reg.HT_STAT 0x100).logC 0x600C (nodeOf (portNode p).x 0) else d
          let d := d.fwdTick num (max due (d.nowNs * 16)) pol per pct
          d.wakeBy 2 3 true

/-- MASTER_LOST: a chip of SOURCE HERTIA that is not the master sees it lost, or no TICK flit by 1.5 P (R333); no test runs in S1
to S3 (R349). -/
def execMasterLost (s : State) : Answer :=
  s.runDev fun d =>
    if fld d.tick.ctrlUse 0 2 = 3 ∧ !bit (d.reg Reg.HT_TICK) 0 ∧ !d.relay ∧ !d.tick.unsync ∧ d.pstate = 0 ∧
       0 < d.tick.periodUse ∧
       (bit (d.reg Reg.HT_LOST) (Config.tickMaster % 16) ∨ d.tick.edgeNs + d.tick.periodUse * 1500 ≤ d.nowNs) then
      ({ d with tick := { d.tick with unsync := true, fallback := true, timerNs := d.tick.edgeNs },
                lk := { d.lk with due := none } }).logC 0x0003 nodeTick
    else d

/-- What an edge does to the links: the route table, the windows, the scheduled edge, the FINISH set (R318, R330, R332). -/
def Dev.linkEdge (d : Dev) : Dev :=
  let route := if d.lk.routePend then (List.range 16).map (fun i => fld (d.reg (Reg.HT_ROUTE i)) 0 3) else d.lk.route
  { d with lk := { d.lk with route := route, routePend := false, due := none, finish := 0,
                             winUse := (List.range 7).map (fun w => d.reg (Reg.HT_WIN w)) } }

end Sys2Proof.Machine
end

