-- ==== Sys2Proof/Machine/Canopy.lean ====
section
/-! DEFINITION. The Canopy fabric (R168 to R186): a flit on its way, the checks of its links and routers, and what its destination
does with it. A command names a flit and the destination it reaches; a flit that no unit of the chip has sent comes from outside the
tiles (R182). -/

namespace Sys2Proof.Machine

/-! ## The passage of a flit (R175 to R177) -/

/-- Count a flit's passage, and let the output that it left by grant in the usual order again (R175). -/
def Dev.passed (d : Dev) (t : Tag) (dst : Node) (ws : List Node) (arrives : Bool) : Dev :=
  let d := d.countWay t dst ws arrives 1
  if tagCls t = 2 ∧ arrives then { d with fab := { d.fab with reqNext := d.fab.reqNext.filter (fun o => decide (o ≠ (dst.x, dst.y, 4))) } } else d

/-! ## What routers and links do to a flit (R171, R183, R184) -/

/-- The tenant of the stand of a flit's source: that of its row (R183). -/
def Dev.srcTenant (d : Dev) (t : Tag) : Option Nat :=
  if 1 ≤ tagSy t ∧ tagSy t ≤ 8 then some (d.rowTenant (tagSy t - 1)) else none

/-- The DETAIL of a fabric error: the captured tag's low 64 bits (Table 21-4). -/
def Dev.capDetail (d : Dev) : Nat := d.regN Reg.CN_CAP_TAG2 + d.regN Reg.CN_CAP_TAG1 * 2 ^ 32

/-- The refused transfer that a flit belongs to, if any (R183). -/
def Dev.refusalOf (d : Dev) (t : Tag) : Option Refusal183 :=
  d.fab.refused.find? (fun r => decide (r.sx = tagSx t ∧ r.sy = tagSy t ∧ r.txid = tagTxid t))

/-- The router that refuses a flit: one that has refused an earlier flit of its transfer, or the first that R183 names. -/
def Dev.refusedAt (d : Dev) (t : Tag) (dst : Node) : Option Node :=
  match (d.refusalOf t).filter (fun r => (wayOf ⟨tagSx t, tagSy t⟩ dst).contains ⟨r.x, r.y⟩) with
  | some r => some ⟨r.x, r.y⟩
  | none => flitRefused d t dst

/-- A router refuses a flit (R183): counted; for the first of a transfer logged, captured, and for REQ and SYNC answered with an
ERR. The transfer ends with its LAST flit, of which `more` copies are still to come. -/
def Dev.refuseFlit (d : Dev) (t : Tag) (n : Node) (more : Bool) : Dev :=
  let d := d.incReg Reg.CN_FB_CNT 1
  let again := (d.refusalOf t).isSome
  let rest := d.fab.refused.filter (fun r => !(decide (r.sx = tagSx t ∧ r.sy = tagSy t ∧ r.txid = tagTxid t)))
  let d := { d with fab := { d.fab with refused := if tagLast t && !more then rest
    else rest ++ [{ sx := tagSx t, sy := tagSy t, txid := tagTxid t, x := n.x, y := n.y }] } }
  if again then d
  else
    let d := (d.capTag t n).orReg Reg.CN_STAT 8
    let d := d.logS 0x2002 { atNode (nodeOf n.x n.y) with tenant := d.srcTenant t, detail := d.capDetail }
    if tagCls t = 0 then d
    else
      let src : Node := ⟨tagSx t, tagSy t⟩
      d.send (mkTag src src tyERR ((d.srcTenant t).getD 0) true (tagTxid t) false 0 0) (errPay 0x2002 t)

/-- A router discards a flit whose tag breaks R171. -/
def Dev.badFlit (d : Dev) (t : Tag) : Dev :=
  let n := (route ⟨tagSx t, tagSy t⟩ ⟨tagDx t, tagDy t⟩).headD ⟨tagSx t, tagSy t⟩
  let d := (d.capTag t n).orReg Reg.CN_STAT 16
  d.raise 0x2001 { atNode (nodeOf n.x n.y) with detail := d.capDetail }

/-- The copy that an event names: as a unit sent it, or a flit from outside. -/
def Dev.copyOf (d : Dev) (f : FlitEv) : InFlit :=
  match d.fab.inflight.find? (fun e => decide (e.tag = f.tag ∧ e.pay = f.pay ∧ e.dx = f.x.val ∧ e.dy = f.y.val)) with
  | some e => e
  | none => { tag := f.tag, pay := f.pay, dx := f.x.val, dy := f.y.val, why := 0, fid := d.fab.nextFid, here := none, way := [], peer := 0 }

/-- Whether a type code is assigned to a flit of Table 7-4. -/
def tyKnown (ty : Nat) : Bool := decide (ty < 7 ∨ (8 ≤ ty ∧ ty < 12))

/-- A flit whose tag obeys R171 passes the routers of its way or is refused; `act` is what its destination does. -/
def Dev.through (d : Dev) (e : InFlit) (act : Dev → InFlit → Dev) : Dev :=
  let dst : Node := ⟨e.dx, e.dy⟩
  let src : Node := ⟨tagSx e.tag, tagSy e.tag⟩
  match d.refusedAt e.tag dst with
  | some n => (d.passed e.tag dst (upTo n (wayOf src dst)) false).refuseFlit e.tag n (d.fab.inflight.any (fun g => decide (g.fid = e.fid)))
  | none => act (d.passed e.tag dst (wayOf src dst) true) e

/-- A copy leaves its last buffer: the flits behind it move up (R173), and a tile's SY stream that waits for the fabric goes on. -/
def Dev.leave (d : Dev) (e : InFlit) : Dev :=
  (List.range 64).foldl (fun d t => d.pumpHeld t)
    ({ d with fab := { d.fab with inflight := d.fab.inflight.erase e } } : Dev).flow

/-- A flit of a row's type arrives: once it is first in the last buffer of its way (R34, R173); its links check it (R184), its routers check its
tag (R171) and its tenant (R183). South units do not reach one another (R176), and below S2 the fabric stands still (R185). -/
def Dev.arrive (d : Dev) (ty : Nat) (f : FlitEv) (act : Dev → InFlit → Dev) : Dev :=
  let e := d.copyOf f
  let bad := tagBad e.tag
  if !(mayLand d.fab.inflight e) || decide (3 ≤ d.pstate) || decide (tagSy e.tag = 9 ∧ e.dy = 9) then d
  else if tyKnown (tagTy e.tag) && decide (tagTy e.tag ≠ ty) then d
  else if !bad && !((tagDests e.tag).contains ⟨e.dx, e.dy⟩) then d
  else
    let d := d.leave e
    match f.ecc with
    | .tag => (d.orReg Reg.CN_STAT 4).raise 0x2004 (atNode (nodeOf e.dx e.dy))
    | .clean => if bad then d.badFlit e.tag else d.through e act
    | .corrected =>
      let d := (d.incReg Reg.CN_ECC_CNT 1).orReg Reg.CN_STAT 1
      if bad then d.badFlit e.tag else d.through e act
    | .payload =>
      let d := d.orReg Reg.CN_STAT 2
      let e := { e with tag := tagSetPoison e.tag }
      if bad then d.badFlit e.tag else d.through e act

/-! ## Requests at their destination (R172, R174, R184) -/

/-- The tile of a destination that is one. -/
def InFlit.tile (e : InFlit) : Nat := tileAt e.dx e.dy

/-- The node a copy has reached. -/
def InFlit.node (e : InFlit) : Node := ⟨e.dx, e.dy⟩

/-- The poisoned transfer that a flit belongs to. -/
def taintOf (e : InFlit) : Taint :=
  { sx := tagSx e.tag, sy := tagSy e.tag, txid := tagTxid e.tag, dx := e.dx, dy := e.dy }

/-- Note a poisoned line of a transfer, and forget it with the transfer's LAST flit: whether the transfer is refused (R184). -/
def Dev.taint (d : Dev) (e : InFlit) : Bool × Dev :=
  let k := taintOf e
  let bad := tagPoison e.tag || d.fab.tainted.contains k
  let rest := d.fab.tainted.filter (fun x => decide (x ≠ k))
  (bad, { d with fab := { d.fab with tainted := if bad && !(tagLast e.tag) then rest ++ [k] else rest } })

/-- The end of a write transfer at a tile or a west node: its counter and its WACK (R172, R180). -/
def Dev.endWrite (d : Dev) (e : InFlit) (bad : Bool) : Dev :=
  if !(tagLast e.tag) then d
  else if bad then d.wack e.node e.tag true 0x2003
  else
    let d := if tagCen e.tag ∧ isTile e.dx e.dy then d.addCtr e.tile (tagCidx e.tag) 1 else d
    d.wack e.node e.tag false 0

/-- A line of a tile's own multicast has reached its own scratchpad (R80, R129). -/
def Dev.ownLine (d : Dev) (t : Nat) (e : InFlit) : Dev :=
  if (⟨tagSx e.tag, tagSy e.tag⟩ : Node) = tileNode t then
    match (d.tile t).txns.find? (fun x => decide (x.id = tagTxid e.tag)) with
    | some x => d.updTile t (fun ts => { ts with dmOps := ts.dmOps.map (fun o => if x.op = some o.ord then { o with own := o.own - 1 } else o) })
    | none => d
  else d

/-- How many bytes of a line a flit writes: those of an east node's transfer that its line holds, or all (R172). -/
def Dev.lineLen (d : Dev) (e : InFlit) : Nat :=
  if tagSx e.tag = 9 then
    match d.plan.etx.find? (fun x => decide (x.1 = tagTxid e.tag ∧ x.2.row + 1 = tagSy e.tag)) with
    | some x => x.2.bytesAt (tagAddr e.tag)
    | none => 64
  else 64

/-- A line or a marker of a write transfer at a tile: the line is written unless poisoned, and a multicast one sets its arrival bit
(R130). -/
def Dev.writeTile (d : Dev) (e : InFlit) (line : Bool) : Dev :=
  let t := e.tile
  let a := tagAddr e.tag
  let (bad, d) := d.taint e
  let d := if line && !(tagPoison e.tag) && decide (a < 8192) then
      let d := (d.setSpad t (a * 64) ((lineBytes e.pay).take (d.lineLen e))).ownLine t e
      if tagMc e.tag ≠ 0 then d.updTile t (fun ts => { ts with arrived := tabSet falseB ts.arrived a true }) else d
    else d
  (d.endWrite e bad).settle t

/-- The code that refuses units of DRAM at a west node: beyond the capacity or another channel's (R214, R321). -/
def Dev.westRefusal (d : Dev) (e : InFlit) (n : Nat) : Option Nat :=
  let a := tagAddr e.tag
  if d.outOfDram (a * 64) (n * 64) || decide ((d.dramPlace (a * 64)).1 + 1 ≠ e.dy) then some 0x6009 else none

/-- The port of a request at a west node (Table 10-4). -/
def Dev.westPort (d : Dev) (e : InFlit) (write : Bool) : Nat :=
  if tagSx e.tag = 9 ∧ tagSy e.tag ≠ 9 then d.eastPort (if tagTxid e.tag < 128 then 1 else 2)
  else if tagSy e.tag = 9 then 0 else if write then 4 else 3

/-- A line or a marker of a write transfer at a west node. -/
def Dev.writeWest (d : Dev) (e : InFlit) (line : Bool) (ev : DramEv) : Dev :=
  let (bad, d) := d.taint e
  match (if line then d.westRefusal e 1 else none) with
  | some c => if tagLast e.tag then d.wack e.node e.tag true c else d
  | none =>
    let d := if line && !(tagPoison e.tag) then
        d.writeDram (tagAddr e.tag * 64) (d.westPort e true) ((lineBytes e.pay).take (d.lineLen e)) ev (tagLast e.tag)
      else d
    d.endWrite e bad

/-- A write transfer at a north node: its lines go on to the window's chip, unless one was poisoned. -/
def Dev.writeNorth (d : Dev) (e : InFlit) : Dev :=
  let (bad, d') := d.taint e
  if bad then (if tagLast e.tag then d'.wack e.node e.tag true 0x2003 else d')
  else d'.northRequest e.node e.tag e.pay

/-- The channel kind and the chip that a request at a north node goes to. -/
def Dev.northPeer (d : Dev) (e : InFlit) : Nat × Nat :=
  if tagTy e.tag = tyBARR ∨ tagTy e.tag = tyBREL then (0, e.peer) else d.northTarget e.tag

/-- Whether a flit waits at a north node, its channel holding 1,024 unacknowledged packets (R313). -/
def Dev.northWaits (d : Dev) (e : InFlit) : Bool :=
  decide (e.dy = 0) && !(tagBad e.tag) && decide (tagCls e.tag ≠ 0) &&
  (let (kind, peer) := d.northPeer e; !(d.chanRoom kind (tagCls e.tag) peer))

/-- Whether a flit waits at a west node: a write while the channel's queue of 64 is full, a read while the channel drains its queue (R250). -/
def Dev.westWaits (d : Dev) (t : Tag) (dst : Node) : Bool :=
  decide (dst.x = 0 ∧ 1 ≤ dst.y ∧ dst.y ≤ 8) &&
  (let c := d.chNow (dst.y - 1)
   (decide (tagTy t = tyWR) && decide (64 ≤ c.wq.length)) || (decide (tagTy t = tyRD) && c.drain))

/-- Read requests that a tile's responder holds: those whose lines have not all left the tile (R174). -/
def Dev.responds (d : Dev) (t : Nat) : Nat :=
  ((d.fab.inflight.filter (fun e => decide (e.here = none ∧ tagTy e.tag = tyRDATA ∧ tagSx e.tag = tileX t ∧ tagSy e.tag = tileY t))).map
    (fun e => (e.dx, e.dy, tagTxid e.tag))).eraseDups.length

/-- Whether a read request waits at a tile, whose responder holds 16 (R174). -/
def Dev.tileWaits (d : Dev) (t : Tag) (dst : Node) : Bool :=
  isTile dst.x dst.y && decide (tagTy t = tyRD) && decide (16 ≤ d.responds (tileAt dst.x dst.y))

/-- An arriving request flit; one for a north node waits for its channel's room, one for a west node or a tile's responder for theirs. -/
def Dev.request (d : Dev) (ty : Nat) (f : FlitEv) (act : Dev → InFlit → Dev) : Dev :=
  let dst : Node := ⟨f.x.val, f.y.val⟩
  if d.northWaits (d.copyOf f) || d.westWaits f.tag dst || d.tileWaits f.tag dst then d else d.arrive ty f act

/-- Where a write transfer's flit is used. -/
def Dev.takeWrite (d : Dev) (e : InFlit) (line : Bool) (ev : DramEv) : Dev :=
  if isTile e.dx e.dy then d.writeTile e line
  else if e.dx = 0 ∧ e.dy ≠ 9 then d.writeWest e line ev
  else if e.dy = 0 then d.writeNorth e
  else d

/-- WR: a line of a write transfer is delivered (R172). -/
def execWrFlit (f : FlitEv) (s : State) : Answer :=
  s.runDev fun d => d.request tyWR f fun d e => d.takeWrite e true f.dram

/-- WRZ: the marker of a zero-length transfer (R180). -/
def execWrz (f : FlitEv) (s : State) : Answer :=
  s.runDev fun d => d.request tyWRZ f fun d e => d.takeWrite e false f.dram

/-- The tag of a returned line (R172). -/
def rdataTag (e : InFlit) (ret : Nat) (last : Bool) : Tag :=
  mkTag e.node ⟨tagSx e.tag, tagSy e.tag⟩ tyRDATA (tagTenant e.tag) last (tagTxid e.tag) false 0 ret

/-- The lines that a read request asks for, and where they return (Table 7-4). -/
def rdCount (pay : Line) : Nat := max (fld pay 0 7) 1
def rdReturn (pay : Line) : Nat := fld pay 32 32

/-- A read request at a tile: its responder returns the lines; an uncorrectable array error is logged here and poisons the first
(R174, R485). -/
def Dev.readTile (d : Dev) (e : InFlit) (ev : SramEv) : Dev :=
  let t := e.tile
  let n := rdCount e.pay
  let ret := rdReturn e.pay
  let d := match ev with
    | .clean => d
    | .corrected => d.sramCe (tileLog t)
    | .uncorrectable => d.logS 0x1011 { atNode (tileLog t) with tenant := some (tagTenant e.tag) }
  (List.range n).foldl (fun d i =>
    let tag := rdataTag e (ret + i) (decide (i + 1 = n))
    if i = 0 ∧ ev = .uncorrectable then d.injectBad tag 0x1011
    else d.send tag (bytesLine (d.spadBytes t ((tagAddr e.tag + i) % 8192 * 64) 64))) d

/-- The instance that a request comes from, if a tile of the chip sent it. -/
def Dev.askedBy (d : Dev) (t : Tag) : Option Nat :=
  if isTile (tagSx t) (tagSy t) then (d.tile (tileAt (tagSx t) (tagSy t))).cur else none

/-- A read request at a west node: each unit is read; one that is withheld returns as poison (R257, R258). -/
def Dev.readWest (d : Dev) (e : InFlit) (ev : DramEv) : Dev :=
  let n := rdCount e.pay
  let ret := rdReturn e.pay
  let port := d.westPort e false
  match d.westRefusal e n with
  | some c => d.errTo e.node e.tag c
  | none =>
    (List.range n).foldl (fun d i =>
      let a := (tagAddr e.tag + i) * 64
      let tag := rdataTag e (ret + i) (decide (i + 1 = n))
      match d.readUnit a port (d.askedBy e.tag) (ev.at_ i) with
      | (some c, d) => d.injectBad tag c
      | (none, d) => d.send tag (bytesLine (d.dramBytes a 64))) (d.qosRequest (e.dy - 1) port ev.late)

/-- RD: a read request is accepted and answered (R174); one whose payload is poisoned draws an ERR. -/
def execRdFlit (f : FlitEv) (s : State) : Answer :=
  s.runDev fun d => d.request tyRD f fun d e =>
    if tagPoison e.tag then d.errTo e.node e.tag 0x2003
    else if isTile e.dx e.dy then d.readTile e f.dram.array
    else if e.dx = 0 ∧ e.dy ≠ 9 then d.readWest e f.dram
    else if e.dy = 0 then d.northRequest e.node e.tag e.pay
    else d

/-- CMD: a descriptor reaches its row's east node: the prefetcher or the codec takes it (R131, R225). -/
def execCmd (f : FlitEv) (s : State) : Answer :=
  s.runDev fun d => d.request tyCMD f fun d e =>
    let mine := fun (x : Desc) => match x with
      | .pref tile txid _ _ _ _ _ => decide (tileNode tile = ⟨tagSx e.tag, tagSy e.tag⟩ ∧ txid = tagTxid e.tag)
      | .codec o => decide (tileNode o.tile = ⟨tagSx e.tag, tagSy e.tag⟩ ∧ o.txid = tagTxid e.tag)
    if e.dx ≠ 9 then d
    else match d.plan.descs.find? mine with
      | none => d
      | some x =>
        let d := { d with plan := { d.plan with descs := d.plan.descs.erase x } }
        if tagPoison e.tag then d.wack e.node e.tag true 0x2003
        else match x with
          | .pref tile txid inst tenant planAddr first count => d.acceptPref tile txid inst tenant planAddr first count f.dram f.looks
          | .codec o => d.acceptCodec o

/-! ## Answers at their requester (R172, R183, R184) -/

/-- A transaction of a tile. -/
def Dev.txn (d : Dev) (t id : Nat) : Option Txn := (d.tile t).txns.find? (fun x => decide (x.id = id))

/-- A SY instruction no longer waits for a write. -/
def uncover (id : Nat) : SyOp → SyOp
  | .hold pc tag pay cov => .hold pc tag pay (cov.erase id)
  | .fence pc cov => .fence pc (cov.erase id)
  | o => o

/-- A transaction ends: its TXID is free, the releases and fences it held back go on, and a read no longer holds its DM
instruction (R172, R192). -/
def Dev.endTxn (d : Dev) (t : Nat) (x : Txn) : Dev :=
  d.updTile t (fun ts => { ts with
    txns := ts.txns.filter (fun y => decide (y.id ≠ x.id)),
    syOps := if x.write then ts.syOps.map (uncover x.id) else ts.syOps,
    dmOps := if x.write || x.sync then ts.dmOps
      else ts.dmOps.map (fun o => if x.op = some o.ord then { o with reads := o.reads - 1 } else o) })

/-- The instance that issued a transaction halts, if it still runs; `logged` where the error has been logged. An error of a counter update whose
instance has ended is still logged, contained to the stand (R315, R483). -/
def Dev.txnFail (d : Dev) (t : Nat) (x : Txn) (code : Nat) (logged : Bool) : Dev :=
  match x.op, (d.tile t).cur with
  | some o, some i =>
    let pc := ((d.tile t).dmOps.find? (fun e => decide (e.ord = o) && !x.sync)).map (·.pc)
    if logged then d.haltQuiet i code pc else d.haltTile t code pc
  | _, _ => if x.sync && !logged then d.logS code { atNode (tileLog t) with tenant := some (d.tileTenant t) } else d

/-- The instance that a tile runs halts for a flit that it sent without a transaction, a barrier arrival (R99, R183, R184). -/
def Dev.haltSender (d : Dev) (t code : Nat) (logged : Bool) : Dev :=
  match (d.tile t).cur with
  | some i => if logged then d.haltQuiet i code none else d.haltTile t code
  | none => d

/-- A returned line at a tile is written, or discarded when poisoned (R172, R184). -/
def Dev.takeRdata (d : Dev) (e : InFlit) : Dev :=
  let t := e.tile
  match d.txn t (tagTxid e.tag) with
  | none => d
  | some x =>
    let d := if tagPoison e.tag then d.txnFail t x (if e.why = 0 then 0x2003 else e.why) (decide (e.why ≠ 0))
      else if tagAddr e.tag < 8192 then d.setSpad t (tagAddr e.tag * 64) (lineBytes e.pay)
      else d
    (if tagLast e.tag then d.endTxn t x else d).settle t

/-- A poisoned answer for another chip returns as an ERR, and the lines of its packet are dropped (R184). -/
def Dev.badAnswer (d : Dev) (e : InFlit) : Dev :=
  let code := if e.why = 0 then 0x2003 else e.why
  d.northAnswer (mkTag ⟨tagSx e.tag, tagSy e.tag⟩ e.node tyERR (tagTenant e.tag) true (tagTxid e.tag) false 0 0) (errPay code e.tag)

/-- RDATA: a line of a read returns (R172). -/
def execRdata (f : FlitEv) (s : State) : Answer :=
  s.runDev fun d => d.arrive tyRDATA f fun d e =>
    if isTile e.dx e.dy then d.takeRdata e
    else if e.dy = 0 then (if tagPoison e.tag then d.badAnswer e else d.northAnswer e.tag e.pay)
    else d

/-- WACK: a write, counter update or descriptor is acknowledged, or refused with a code (R172, R195). -/
def execWack (f : FlitEv) (s : State) : Answer :=
  s.runDev fun d => d.arrive tyWACK f fun d e =>
    let code : Option Nat := if tagPoison e.tag then some 0x2003 else if bit e.pay 0 then some (fld e.pay 16 16) else none
    if e.node = nTick ∨ (⟨tagSx e.tag, tagSy e.tag⟩ : Node) = nTick then
      (match code with
        | some c => if isTile e.dx e.dy then d.haltSender e.tile c false
            else d.logS c { atNode (nodeOf e.dx e.dy) with tenant := some (tagTenant e.tag) }
        | none => d)
    else if isTile e.dx e.dy then
      let t := e.tile
      match d.txn t (tagTxid e.tag) with
      | none => d
      | some x =>
        let y := { x with left := x.left - 1 }
        let d := d.updTile t (fun ts => { ts with txns := ts.txns.map (fun z => if z.id = x.id then y else z) })
        let d := match code with | some c => d.txnFail t x c false | none => d
        (if y.left = 0 then d.endTxn t y else d).settle t
    else if e.dx = 9 then
      d.eastEnd (e.dy - 1) (tagTxid e.tag) code
    else if e.dy = 0 then d.northAnswer e.tag e.pay
    else d

/-- ERR: a request fails at its source (R183): the issuing instance halts, or the edge unit fails its step. -/
def execErrFlit (f : FlitEv) (s : State) : Answer :=
  s.runDev fun d => d.arrive tyERR f fun d e =>
    let code := if tagPoison e.tag then 0x2003 else fld e.pay 16 16
    let was : Tag := BitVec.ofNat 96 (fld e.pay 32 96)
    if isTile e.dx e.dy ∧ tagTy was = tyBARR then d.haltSender e.tile code (decide (code = 0x2002))
    else if isTile e.dx e.dy then
      let t := e.tile
      match d.txn t (tagTxid e.tag) with
      | none => d
      | some x => (((d.txnFail t x code (decide (code = 0x2002))).endTxn t { x with op := none })).settle t
    else if e.node = nTick then d.logS code { atNode (nodeOf e.dx e.dy) with tenant := some (tagTenant e.tag) }
    else if e.dx = 9 then d.eastEnd (e.dy - 1) (tagTxid e.tag) (some code)
    else if e.dy = 0 then d.northAnswer e.tag e.pay
    else d

/-! ## Counter updates and barrier flits (R134, R135, R205 to R209) -/

/-- A counter update at a tile's counter unit: refused when poisoned, else applied and acknowledged (R135, R184, R195). -/
def Dev.ctrFlit (d : Dev) (e : InFlit) (act : Dev → Nat → Nat → Dev) : Dev :=
  if isTile e.dx e.dy then
    if tagPoison e.tag then d.wack e.node e.tag true 0x2003
    else (act d e.tile (tagAddr e.tag % 2048)).wack e.node e.tag false 0
  else if e.dy = 0 then
    (if tagPoison e.tag then d.wack e.node e.tag true 0x2003 else d.northRequest e.node e.tag e.pay)
  else d

/-- CADD: add to a counter (R135). The update reads the counter: an uncorrectable error leaves it poisoned (R485). Waits see the value at the end of
the cycle (R202). -/
def execCadd (f : FlitEv) (s : State) : Answer :=
  s.runDev fun d => d.request tyCADD f fun d e => d.ctrFlit e fun d t i =>
    let d := match f.dram.array with
      | .clean => d
      | .corrected => d.sramCe (tileLog t)
      | .uncorrectable => { d with mem := { d.mem with ctrBad := tabSet falseB d.mem.ctrBad (t * 2048 + i) true } }
    let v := w32 (fld e.pay 0 32)
    if f.same then d.addCtr t i v else d.bump t i v

/-- CSET: write a counter (R135). -/
def execCset (f : FlitEv) (s : State) : Answer :=
  s.runDev fun d => d.request tyCSET f fun d e => d.ctrFlit e fun d t i =>
    let v := w32 (fld e.pay 0 32)
    if f.same then d.setCtr t i v else d.assign t i v

/-- BARR: an arrival of a tile, or of a chip at the root, reaches the tick unit (R205, R206), or a chip's arrival the north node by which it leaves; a
poisoned one is refused (R184). -/
def execBarr (f : FlitEv) (s : State) : Answer :=
  s.runDev fun d => d.request tyBARR f fun d e =>
    let a := tagAddr e.tag
    let gen := fld e.pay 0 16
    let who := fld e.pay 16 8
    if e.dy = 0 then (if tagPoison e.tag then d.wack e.node e.tag true 0x2003 else d.syncOut e.peer e.node e.tag e.pay)
    else if e.node ≠ nTick then d
    else if tagPoison e.tag then d.wack e.node e.tag true 0x2003
    else if a.testBit 6 then d.chipArrive (tagTenant e.tag) (a % 64) gen (who % 16)
    else d.barArrive (tagTenant e.tag) (a % 64) gen (who % 64)

/-- A release from the root chip reaches this chip's tick unit (R206): broken where the slot's generations complete so (R207, R328). -/
def Dev.rootRelease (d : Dev) (tenant slot gen : Nat) (broken : Bool) : Dev :=
  let k := barKey tenant slot
  let b := d.bar k
  (d.setBar k { b with released := max b.released (gen + 1) }).brel tenant slot gen (broken || d.barBroken tenant slot)

/-- BREL: a release reaches a row's tiles, or from another chip the tick unit (R206, R209). -/
def execBrel (f : FlitEv) (s : State) : Answer :=
  s.runDev fun d => d.request tyBREL f fun d e =>
    let slot := tagAddr e.tag % 64
    let gen := fld e.pay 0 16
    let broken := bit e.pay 16
    if tagPoison e.tag then d.wack e.node e.tag true 0x2003
    else if e.dy = 0 then d.syncOut e.peer e.node e.tag e.pay
    else if e.node = nTick then d.rootRelease (tagTenant e.tag) slot gen broken
    else if e.dx = 0 then
      let row := e.dy - 1
      (List.range 8).foldl (fun d i => d.settle (row * 8 + i)) (d.barSeen (tagTenant e.tag) slot gen row broken)
    else d

/-- REQ_AFTER_GRANT: an output that has left a REQ flit waiting for REQ_AFTER + 1 cycles grants it next (R175). -/
def execReqAfterGrant (x : Fin 10) (y : Fin 9) (port : Fin 5) (waited : Nat) (s : State) : Answer :=
  s.runDev fun d =>
    let o := (x.val, y.val, port.val)
    if nodeExists x y && decide (fld (d.reg Reg.CN_CTRL) 0 4 + 1 ≤ waited) && !(d.fab.reqNext.contains o) then
      { d with fab := { d.fab with reqNext := d.fab.reqNext ++ [o] } }
    else d

/-- A write of CN_PERF_SEL: a change restarts CN_PERF_CNT (Table 7-11). -/
def Dev.cnPerfSel (d : Dev) (v : Word) : Dev :=
  let v := v &&& 0x77FF
  let d' := d.setReg Reg.CN_PERF_SEL v
  if v = d.reg Reg.CN_PERF_SEL then d' else d'.setReg Reg.CN_PERF_CNT 0

/-- CN_PERF_SEL_WRITE. -/
def execCnPerfSelWrite (v : Word) (s : State) : Answer := s.runDev fun d => d.cnPerfSel v

end Sys2Proof.Machine
end

