-- ==== Sys2Proof/Machine/Bar2.lean ====
section
/-! DEFINITION. Host accesses through BAR2 (R400, R415, R418a, R423, R424). -/

namespace Sys2Proof.Machine

/-- Whether a BAR2 access of a function behaves as unmapped (R397, R423). -/
def Dev.bar2Bad (d : Dev) (fn off n : Nat) : Bool :=
  !d.dramReady || d.booting || d.outOfDram off n ||
  (decide (fn ≠ 0) && (!d.inStand (fn - 1) off n || decide (d.sec.clear.getD (fn - 1) .idle ≠ .idle)))

/-- The stand of a DRAM access, for the log. -/
def Dev.hostAt (d : Dev) (off : Nat) : ErrAt := { atNode nodeHost with tenant := d.addrTenant off }

/-- A BAR2 read: the bytes, or zeros where it is unmapped (R423). An uncorrectable error withholds the bytes: what returns in their place
is free (notes/assumptions/34). -/
def Dev.bar2Load (d : Dev) (fn off n : Nat) (ev : DramEv) : List Byte × Dev :=
  if d.bar2Bad fn off n then (List.replicate n 0, d.badAccess)
  else match d.readDram off n 0 none ev with
    | (some _, d) => let (k, d) := d.draw; ((List.range n).map (Config.heldByte k), d)
    | (none, d) => (d.dramBytes off n, d)

/-- The units that a write covers in part: they are read and merged (R400). -/
def partUnits (off n : Nat) : List Nat :=
  (unitsOf off n).filter (fun u => decide (u * 64 < off ∨ off + n < u * 64 + 64))

/-- A BAR2 write (R400, R418a): dropped whole when it leaves the range, is poisoned, or its merge meets an uncorrectable error. -/
def Dev.bar2Store (d : Dev) (fn off : Nat) (bs : List Byte) (poisoned : Bool) (ev : DramEv) : Dev :=
  if d.bar2Bad fn off bs.length then d.badAccess
  else if poisoned then (d.orReg Reg.HI_STAT 2).logS 0x9002 (d.hostAt off)
  else match d.readLines 0 none ev (partUnits off bs.length) with
    | (some _, d) => d
    | (none, d) => d.writeDram off 0 bs (if (partUnits off bs.length).isEmpty then ev else .ok)

/-- A BAR2 access takes effect. -/
def Dev.bar2Do (d : Dev) (w : Bar2Wait) : Dev :=
  match w.acc with
  | .resize k => if 28 ≤ k ∧ k ≤ 35 then { d with host := { d.host with bar2Log := setAt d.host.bar2Log w.fn k } } else d
  | .read n => let (bs, d) := d.bar2Load w.fn w.off n w.ev; { d with host := { d.host with rdData := bs } }
  | .write bs poisoned => d.bar2Store w.fn w.off bs poisoned w.ev

/-- The accesses that S3 held back take effect in their order (Table 10-7, R424). -/
def Dev.bar2Flush (d : Dev) : Dev := d.host.bar2Wait.foldl Dev.bar2Do { d with host := { d.host with bar2Wait := [] } }

/-- BAR2_READ: a host access through BAR2, below the programmed size (R415, R423), and what the port's buffers report (R485). In S3, where the DRAM
serves no traffic (Table 10-7), it waits at the host port for the exit (DEDUCED, notes/assumptions/109). -/
def execBar2Read (fn : Fin 9) (off : BitVec 35) (acc : Bar2Acc) (ev : DramEv) (ecc : SramEv) (s : State) : Answer :=
  s.runDev fun d =>
    let n := match acc with | .read n => n | .write bs _ => bs.length | .resize _ => 0
    if 4 ≤ d.pstate ∨ 2 ^ (d.host.bar2Log.getD fn 0) < off.toNat + n then d
    else
      match d.portBuf ecc with
      | .error d => d
      | .ok d =>
        let w : Bar2Wait := { fn := fn, off := off.toNat, acc := acc, ev := ev }
        if d.pstate = 3 ∧ n ≠ 0 then { d with host := { d.host with bar2Wait := d.host.bar2Wait ++ [w] } } else d.bar2Do w

end Sys2Proof.Machine
end

