-- ==== Sys2Proof/Machine/Dram.lean ====
section
/-! DEFINITION. The DRAM controllers (chapter 10): bring-up, configuration, refresh, polls and pages. -/

namespace Sys2Proof.Machine

/-! ## Bring-up (R243 to R245, R260 to R262) -/

/-- A channel fails (R245). -/
def Dev.trainFail (d : Dev) (ch : Nat) : Dev :=
  ({ d with dram := { d.dram with failMask := d.dram.failMask ||| 2 ^ ch, training := false } }).raise 0x3003
    (atNode (nodeOf 0 (ch + 1)))

/-- A write of DR_GCTRL: START begins the bring-up once (R243); RATE 7 fails every channel (R245). -/
def Dev.dramStart (d : Dev) (v : Word) : Dev :=
  if !bit v 0 || d.dram.started then d
  else
    let d := { d with dram := { d.dram with started := true, training := true, startNs := d.nowNs },
                      pins := { d.pins with dramRstN := true } }
    if fld (d.reg Reg.DR_GCFG) 0 3 = 7 then (List.range 8).foldl (fun d k => d.trainFail k) d else d

/-- DRAM_START: a write of DR_GCTRL (R243). -/
def execDramStart (v : Word) (s : State) : Answer := s.runDev fun d => d.dramStart v

/-- The page of the training record: slot 2 of the boot region (R261, R474). -/
def trainPage : Nat := pageAt 0 0 2 0

/-- The densities that Table 10-2 supports, in Gb. -/
def densities : List Nat := [4, 6, 8, 12, 16, 24, 32]

/-- Whether a channel passes the steps of Table 10-5, each within 3 attempts (R260). -/
def TrainCh.trained (c : TrainCh) : Bool := (c.tries.take 6).all (fun n => decide (n < 3))

/-- Whether a channel comes up with supported devices (R245). -/
def TrainCh.ok (c : TrainCh) : Bool := c.trained && c.fits && densities.contains c.gb

/-- DR_CH_INFO of a channel: MR8 and MR5. -/
def TrainCh.info (c : TrainCh) : Nat := c.mr8.toNat + c.mr5.toNat * 256

/-- Usable capacity of a channel in MiB (R244). -/
def TrainCh.mib (c : TrainCh) (inl : Bool) : Nat := if inl then c.gb * 128 * 15 / 16 else c.gb * 128

/-- The PHY settings of a channel, 256 bytes. -/
def TrainCh.phyBytes (c : TrainCh) : List Byte := c.phy.take 256 ++ List.replicate (256 - min 256 c.phy.length) 0

/-- What step 6 of Table 10-5 reads: DR_CH_INFO, and the multiple of MR4 (R244, R260). -/
def Dev.modeRead (d : Dev) (k : Nat) (c : TrainCh) : Dev :=
  if c.trained then
    ((d.setReg (Reg.DR_CH_INFO k) (w32 c.info)).setReg (Reg.DR_TEMP k) (w32 c.mr4.toNat)).updCh k (fun x => { x with mult := c.mr4.toNat })
  else d

/-- The die temperature in °C as TEMP_C holds it; θ is kept in quarters. -/
def dieTemp (theta : Int) : Int := clampI (-128) 127 (theta / 4)

/-- Whether the stored record may be used (R261). -/
def Dev.recordOk (d : Dev) (bs : List Byte) (theta : Int) (cs : List TrainCh) : Bool :=
  decide (leAt bs 0 4 = 0x4E525444 ∧ leAt bs 4 2 = 1 ∧ leAt bs 0x3C 4 = crc32c (bs.take 0x3C ++ (bs.take 4096).drop 0x40)) &&
  decide (leAt bs 6 1 = fld (d.reg Reg.DR_GCFG) 0 3) &&
  (cs.zipIdx).all (fun c => decide (leAt bs (0x10 + 2 * c.2) 2 = c.1.info)) &&
  decide ((sgn (leAt bs 7 1) 8 - dieTemp theta).natAbs ≤ 30)

/-- The record of a full training (Table 10-6). -/
def Dev.recordOf (d : Dev) (theta : Int) (cs : List TrainCh) : List Byte :=
  let head := leBytes 4 0x4E525444 ++ leBytes 2 1 ++ leBytes 1 (fld (d.reg Reg.DR_GCFG) 0 3) ++
    leBytes 1 (dieTemp theta % 256).toNat ++ leBytes 8 0 ++ cs.flatMap (fun c => leBytes 2 c.info) ++ leBytes 28 0
  let tail := cs.flatMap TrainCh.phyBytes ++ leBytes 1984 0
  head ++ leBytes 4 (crc32c (head ++ tail)) ++ tail

/-- Write the record after full training (R261); a write that fails leaves the page undefined. -/
def Dev.storeRecord (d : Dev) (theta : Int) (cs : List TrainCh) (ok : Bool) : Dev :=
  let d' := d.eraseBlock trainPage
  if ok then d'.programPage trainPage (d'.recordOf theta cs ++ List.replicate 12288 0xFF)
  else (d'.undefPage trainPage).logC 0x3004 (nodeOf 0 1)

/-- The first point of a grid at or after a moment (R253). -/
def gridNext (grid ivl now : Nat) : Nat := if now ≤ grid then grid else grid + ceilDiv (now - grid) (max ivl 1) * ivl

/-- Every channel is up: the record has been used or a full training is done, C_ch is known and the DRAM serves (R244, R261, R262). -/
def Dev.dramUp (d : Dev) (theta : Int) (ev : DramUp) : Dev :=
  let (page, d) := if bit (d.reg Reg.DR_GCFG) 9 then (none, d) else d.readPage trainPage true ev.slot
  let restored := page.any (fun bs => d.recordOk bs theta ev.chans)
  let d := if restored then d
    else
      let d := if d.dram.fromS4 then d.logC 0x3005 (nodeOf 0 1) else d
      if bit (d.reg Reg.DR_GCFG) 8 then d.storeRecord theta ev.chans ev.store else d
  let d := (ev.chans.zipIdx).foldl (fun d c => d.modeRead c.2 c.1) d
  let sizes := (ev.chans.zipIdx).map (fun c => c.1.mib (bit (d.reg (Reg.DR_CH_CFG c.2)) 0))
  let d := d.setReg Reg.DR_TRAIN_US (w32 (min ((d.nowNs - d.dram.startNs) / 1000) 0xFFFFFFFF))
  { d with dram := { d.dram with
      training := false, ready := true, restored := restored, fromS4 := false, cchMib := sizes.foldl min (sizes.headD 0),
      chans := d.dram.chans.map (fun c => { c with mr4Ns := d.nowNs, trackNs := d.nowNs, lastRef := d.nowNs, bankNs := [],
                                                   nextRef := gridNext c.gridNs c.ivlNs d.nowNs, open_ := [] }) } }

/-- DRAM_TRAINING_DONE: the bring-up that START or an exit from S4 began ends (R245, R260, R262). -/
def execDramTrainingDone (ev : DramUp) (s : State) : Answer :=
  s.runDev fun d =>
    if !d.dram.training ∨ ev.chans.length ≠ 8 ∨ d.sec.unkeyed.any (fun k => decide (k < 8)) = true then d
    else if ev.chans.all (·.ok) then d.dramUp s.th.theta ev
    else
      let d := d.setReg Reg.DR_TRAIN_US (w32 (min ((d.nowNs - d.dram.startNs) / 1000) 0xFFFFFFFF))
      let d := { d with dram := { d.dram with fromS4 := false } }
      (ev.chans.zipIdx).foldl (fun d c => let d := d.modeRead c.2 c.1; if c.1.ok then d else d.trainFail c.2) d

/-- Write DR_GCFG (`k` 8) or DR_CH_CFG of channel `k`: after START the locked fields keep their values (R243). -/
def Dev.drCfgWrite (d : Dev) (k : Nat) (v : Word) : Dev :=
  let off := if k = 8 then Reg.DR_GCFG else Reg.DR_CH_CFG k
  let mask : Word := if k = 8 then 0x307 else 0x13
  let lock : Word := if k = 8 then 7 else 3
  let old := d.reg off
  if !d.dram.started then d.setReg off (v &&& mask)
  else
    let d' := d.setReg off ((v &&& mask &&& ~~~lock) ||| (old &&& lock))
    if v &&& lock = old &&& lock then d' else d'.logC 0x3002 (if k = 8 then nodeOf 0 1 else nodeOf 0 (k + 1))

/-- DR_CFG_WRITE: a write of DR_GCFG or a DR_CH_CFG (R243). -/
def execDrCfgWrite (k : Fin 9) (v : Word) (s : State) : Answer := s.runDev fun d => d.drCfgWrite k v

/-! ## Refresh, polls and pages (R251 to R256, R263) -/

/-- Count refresh commands and their place in the ZQ cycle (Table 10-2). -/
def Dev.refreshed (d : Dev) (k : Nat) (n : Nat := 1) : Dev :=
  (d.incReg (Reg.DR_REF_CNT k) n).updCh k (fun c => { c with zq := (c.zq + n) % 256 })

/-- Every bank of a channel is refreshed once (R255, R263). -/
def Dev.refreshAll (d : Dev) (k : Nat) : Dev :=
  (d.refreshed k 16).updCh k (fun c => { c with open_ := [], bankNs := [], lastRef := d.nowNs })

/-- The interval in ns that an MR4 multiple in eighths requires (R254): 3.906 µs / m rounded down to 10 ns. -/
def mr4Ivl (m : Nat) : Nat := 3906 * 8 / max m 1 / 10 * 10

/-- The interval that MR4 asks for, at 2 × m while m exceeds THRESH (R252, Table 10-7). -/
def DramCh.tempIvl (c : DramCh) : Nat := mr4Ivl (if fld c.refUse 24 6 < c.mult then 2 * c.mult else c.mult)

/-- When a bank of a channel in TEMP mode is next refreshed (R252; DEDUCED, notes/assumptions/106). -/
def DramCh.bankDue (c : DramCh) (bank : Nat) : Nat := max (tabGet (fun _ => 0) c.bankNs bank) c.lastRef + c.tempIvl

/-- REFRESH_TEMP: a bank's refresh falls due in TEMP mode: only the bank stalls, and its page closes (R251, R252). -/
def execRefreshTemp (ch : Fin 8) (bank : Fin 16) (s : State) : Answer :=
  s.runDev fun d =>
    if d.dram.ready && decide (d.pstate ≤ 2) && !(d.ch ch).fixed && decide ((d.ch ch).bankDue bank ≤ d.nowNs) then
      (d.refreshed ch).updCh ch (fun c => { c with
        open_ := tabSet noPage c.open_ bank none, bankNs := tabSet (fun _ => 0) c.bankNs bank d.nowNs })
    else d

/-- The interval of a channel's all-bank refreshes: the grid's, before its first point that of the previous grid (R253), or in S3 the MR4 rate,
doubled above THRESH (Table 10-7). -/
def Dev.refIvl (d : Dev) (k : Nat) : Nat :=
  let c := d.ch k
  if d.pstate = 3 then c.tempIvl else if c.nextRef < c.gridNs then c.oldIvl else c.ivlNs

/-- Whether 8 ms have passed since the last WCK2DQ tracking (R256). -/
def Dev.trackDue (d : Dev) (k : Nat) : Bool := decide ((d.ch k).trackNs + 8000000 ≤ d.nowNs)

/-- REFRESH_FIXED: an all-bank refresh falls due on the grid, or in S3: the channel stalls for tRFCab, given by the device, and every page
closes; the next refresh is one interval later, or where a new grid starts (R253); tracking runs within the stall (R256). -/
def execRefreshFixed (ch : Fin 8) (rfcNs : Nat) (s : State) : Answer :=
  s.runDev fun d =>
    let c := d.ch ch
    if d.dram.ready && decide (d.pstate ≤ 3) && (c.fixed || decide (d.pstate = 3)) && decide (c.nextRef ≤ d.nowNs) then
      let due := c.nextRef
      let n := due + max (d.refIvl ch) 10
      let cyc := rfcNs * d.ckTenths + c.stallRem
      let track := d.trackDue ch
      let d := (d.refreshed ch).incReg (Reg.DR_REF_STALL ch) (cyc / 10000)
      d.updCh ch (fun c => { c with
        lastRef := due, nextRef := if due < c.gridNs ∧ c.gridNs ≤ n then c.gridNs else n, stallRem := cyc % 10000, open_ := [], bankNs := [],
        trackNs := if track then d.nowNs else c.trackNs })
    else d

/-- Take the interval that the settings in use and MR4 ask for in FIXED mode (R254). -/
def Dev.setIvl (d : Dev) (k : Nat) : Dev :=
  let c := d.ch k
  let i := (fld c.refUse 0 10 + 1) * 10
  let need := mr4Ivl c.mult
  let forced := c.fixed && decide (need < i)
  let use_ := if forced then need else i
  let d := if forced ∧ ¬(c.forced ∧ c.ivlNs = need) then (d.orReg (Reg.DR_STAT k) 16).logC 0x3007 (nodeOf 0 (k + 1)) else d
  d.updCh k (fun c => { c with forced := forced, ivlNs := use_, oldIvl := if forced then min c.oldIvl need else c.oldIvl })

/-- MR4_POLL: MR4 is read every 250 µs (R252); in FIXED mode the interval follows it (R254), and a write that the device found damaged
is noticed (R257). -/
def execMr4Poll (ch : Fin 8) (m : BitVec 6) (s : State) : Answer :=
  s.runDev fun d =>
    let c := d.ch ch
    if d.dram.ready && decide (d.pstate ≤ 3) && decide (c.mr4Ns + 250000 ≤ d.nowNs) then
      let d := (d.setReg (Reg.DR_TEMP ch) (w32 m.toNat)).updCh ch (fun c => { c with mr4Ns := d.nowNs, mult := m.toNat, linkWr := false })
      let d := if c.linkWr then (d.orReg (Reg.DR_STAT ch) 64).logS 0x3009 (chanAt d ch none 0) else d
      let d := d.setIvl ch
      d.updCh ch (fun c => if c.fixed then { c with nextRef := min c.nextRef (max d.nowNs (c.lastRef + c.ivlNs)) } else c)
    else d

/-- WCK2DQ_TRACKING: every 8 ms; in FIXED mode it runs within a refresh (R256). -/
def execWck2dqTracking (ch : Fin 8) (s : State) : Answer :=
  s.runDev fun d =>
    if d.dram.ready && decide (d.pstate ≤ 2) && !(d.ch ch).fixed && d.trackDue ch then d.updCh ch (fun c => { c with trackNs := d.nowNs })
    else d

/-- PAGE_IDLE_CLOSE: under TIMER an open page closes when IDLE CK cycles have passed since its last access (R251). -/
def execPageIdleClose (ch : Fin 8) (bank : Fin 16) (s : State) : Answer :=
  s.runDev fun d =>
    match tabGet noPage (d.ch ch).open_ bank with
    | some (_, t, timer) =>
      if timer && decide (fld (d.ch ch).pageUse 16 10 * 10000 ≤ (d.nowNs - t) * d.ckTenths) then
        d.updCh ch (fun c => { c with open_ := tabSet noPage c.open_ bank none })
      else d
    | none => d

/-! ## Edges and resets (R253, R255, R263, R264) -/

/-- The settings of a channel come in force and its grid restarts; a channel that leaves FIXED is refreshed in every bank once
(R253, R255). -/
def Dev.chEdge (d : Dev) (k : Nat) : Dev :=
  let was := (d.ch k).fixed
  let fixed := bit (d.reg (Reg.DR_CH_CFG k)) 4
  let ref := d.reg (Reg.DR_REF k)
  let grid := d.nowNs + fld ref 10 10 * 10
  let d := d.updCh k (fun c => { c with
    fixed := fixed, refUse := ref, pageUse := d.reg (Reg.DR_PAGE k), oldIvl := c.ivlNs,
    qosUse := (List.range 6).map (fun p => (d.reg (Reg.DR_QOS k p)).toNat % 65536) })
  let d := d.setIvl k
  let d := d.updCh k (fun c => if fixed then { c with gridNs := grid, nextRef := if was then min c.nextRef grid else grid } else c)
  if was && !fixed && d.dram.ready then d.refreshAll k else d

/-- What an edge does to the DRAM controllers (R255). -/
def Dev.dramEdge (d : Dev) : Dev := (List.range 8).foldl (fun d k => d.chEdge k) d

/-- Before S3 every queued read is served and every accepted write retired; from then on all-bank refreshes follow MR4 (R263). -/
def Dev.dramDoze (d : Dev) : Dev :=
  (List.range 8).foldl (fun d k => d.updCh k (fun c => { c with open_ := [], nextRef := d.nowNs + c.tempIvl })) d.wqFlush

/-- After S3 every bank of every channel is refreshed once (R263). -/
def Dev.dramWake (d : Dev) : Dev :=
  (List.range 8).foldl (fun d k => ((if d.dram.ready then d.refreshAll k else d)).updCh k (fun c => { c with nextRef := d.nowNs + c.ivlNs })) d

/-- A core reset of the controllers (R264): the accepted writes are retired and REF_MODE returns to TEMP, which like the other settings' reset values
comes into use at the next edge (R255); bring-up, capacity and contents stay. -/
def Dev.dramReset (d : Dev) : Dev :=
  (List.range 8).foldl (fun d k => d.setReg (Reg.DR_CH_CFG k) (d.reg (Reg.DR_CH_CFG k) &&& 3)) d.wqFlush

end Sys2Proof.Machine
end

