-- ==== Sys2Proof/Machine/Mapping.lean ====
section
/-! DEFINITION. Mapping tables (chapter 14): the commit, the fetch and its checks, and when a mapping comes in force. -/

namespace Sys2Proof.Machine

/-- A little-endian field of a table. -/
def fieldAt (b : List Byte) (o n : Nat) : Nat := leNat ((b.drop o).take n)

/-- One site of a mapping table (Table 14-3). -/
structure Site where
  fmt    : Nat
  zero1  : Nat
  nleaf  : Nat
  bound  : Nat
  ktotal : Nat
  zero2  : Nat
  deriving DecidableEq, Repr

/-- Site `i` of a table. -/
def siteAt (b : List Byte) (i : Nat) : Site :=
  let o := fieldAt b 0x14 4 + 16 * i
  { fmt := fieldAt b o 1, zero1 := fieldAt b (o + 1) 1, nleaf := fieldAt b (o + 2) 2, bound := fieldAt b (o + 4) 4,
    ktotal := fieldAt b (o + 8) 4, zero2 := fieldAt b (o + 12) 4 }

/-- Every site of a table. -/
def sitesOf (b : List Byte) : List Site := (List.range (fieldAt b 0xA 2)).map (siteAt b)

/-- The areas of a table as (offset, bytes) (R346), with the sites' boundary lists. -/
def areasOf (b : List Byte) : List (Nat × Nat) :=
  let ss := sitesOf b
  [(fieldAt b 0x14 4, 16 * fieldAt b 0xA 2), (fieldAt b 0x18 4, 2 * fieldAt b 0xC 2),
   (fieldAt b 0x1C 4, 2 * (ss.map (·.nleaf)).sum)] ++ ss.map (fun s => (s.bound, 4 * (s.nleaf + 1)))

/-- Whether each area meets the conditions of R346 and none overlaps a later one. -/
def areasOk (len : Nat) : List (Nat × Nat) → Bool
  | [] => true
  | a :: as =>
    (decide (a.2 = 0) || (decide (a.1 % 4 = 0 ∧ 0x440 ≤ a.1 ∧ a.1 + a.2 ≤ len) &&
      as.all (fun c => decide (c.2 = 0 ∨ a.1 + a.2 ≤ c.1 ∨ c.1 + c.2 ≤ a.1)))) && areasOk len as

/-- The bytes that LOGICAL_CRC covers (Table 14-2). -/
def logicalBytes (b : List Byte) : List Byte :=
  ((sitesOf b).zipIdx).flatMap (fun e =>
    let o := fieldAt b 0x14 4 + 16 * e.2
    (b.drop o).take 4 ++ (b.drop (o + 8)).take 4 ++ (b.drop e.1.bound).take (4 * (e.1.nleaf + 1)))

/-- Whether a list never falls. -/
def rising : List Nat → Bool
  | a :: c :: rest => decide (a ≤ c) && rising (c :: rest)
  | _ => true

/-- Whether a site meets R345. -/
def siteOk (b : List Byte) (s : Site) : Bool :=
  let bs := (List.range (s.nleaf + 1)).map (fun i => fieldAt b (s.bound + 4 * i) 4)
  decide (1 ≤ s.nleaf ∧ s.nleaf ≤ 1024) && rising bs && decide (bs.head? = some 0) && decide (bs.getLast? = some s.ktotal)

/-- Whether a head or leaf entry names a chip of the mask and a tile of the stand (Table 14-4). -/
def Dev.entryOk (d : Dev) (tenant mask e : Nat) : Bool :=
  mask.testBit (e % 16) && decide (d.rowTenant (tileRow (e / 16 % 64)) = tenant)

/-- Check a whole table in the order of Table 14-4. -/
def Dev.mapOk (d : Dev) (tenant : Nat) (b : List Byte) : Bool :=
  let len := b.length
  let ss := sitesOf b
  let mask := fieldAt b 8 2
  let heads := (List.range (fieldAt b 0xC 2)).map (fun i => fieldAt b (fieldAt b 0x18 4 + 2 * i) 2)
  let leaves := (List.range (ss.map (·.nleaf)).sum).map (fun i => fieldAt b (fieldAt b 0x1C 4 + 2 * i) 2)
  decide (fieldAt b 0 4 = 0x50414D4E ∧ fieldAt b 4 2 = 1 ∧ fieldAt b 0xA 2 ≤ 256 ∧ fieldAt b 0xC 2 ≤ 1024) &&
  decide (fieldAt b 0xE 2 = 0 ∧ fieldAt b 0x24 24 = 0 ∧ len % 4 = 0) &&
  areasOk len (areasOf b) &&
  ss.all (fun s => decide (s.fmt < 2 ∧ s.zero1 = 0 ∧ s.zero2 = 0)) && (heads ++ leaves).all (fun e => decide (e < 1024)) &&
  decide (fieldAt b 0x3C 4 = crc32c (b.take 0x3C ++ b.drop 0x40)) &&
  decide (fieldAt b 0x20 4 = crc32c (logicalBytes b)) &&
  mask.testBit d.chipId && decide (mask &&& (d.regN Reg.HT_ROLES % 65536) = 0) && (d.anyUp || decide (mask = 2 ^ d.chipId)) &&
  ss.all (siteOk b) && (heads ++ leaves).all (d.entryOk tenant mask)

/-- The mapping that a checked table gives (R203, R347). -/
def mapOf (b : List Byte) : MapTab :=
  { bars := (List.range 64).map (fun i =>
      let o := 0x40 + 16 * i
      { tileMask := BitVec.ofNat 64 (fieldAt b o 8), chipMask := fieldAt b (o + 8) 2, flags := fieldAt b (o + 10) 1,
        rest := fieldAt b (o + 11) 5 }),
    id := fieldAt b 6 2, lcrc := fieldAt b 0x20 4, crc := fieldAt b 0x3C 4 }

/-- Fetch and check a tenant's table (R347): the header, then the rest, from DRAM of the stand alone; refused without DRAM (R245). -/
def Dev.fetchMap (d : Dev) (tenant : Nat) (ev : DramEv) : Option MapTab × Dev :=
  let base := d.reg64 (Reg.MP_BASE_LO tenant) (Reg.MP_BASE_HI tenant)
  if !d.dramReady then (none, d.logT 0x3001 nodeTick tenant)
  else if !d.inStand tenant base 64 then (none, d)
  else match d.readDram base 64 0 none ev with
    | (some _, d) => (none, d)
    | (none, d) =>
      let len := d.dramN (base + 0x10) 4
      if len < 1088 ∨ 65536 < len ∨ d.inStand tenant base len = false then (none, d)
      else match d.readDram (base + 64) (len - 64) 0 none (ev.from_ 1) with
        | (some _, d) => (none, d)
        | (none, d) =>
          let b := d.dramBytes base len
          (if d.mapOk tenant b then some (mapOf b) else none, d)

/-- MP_STAT as it reads: ACTIVE, BAD, PENDING (Table 14-6). -/
def Dev.mpStat (d : Dev) : Nat :=
  let m := d.map
  (List.range 8).foldl (fun n t =>
    n + b2n (m.active.getD t none).isSome * 2 ^ (16 + t)
      + b2n (m.commit.getD t false || (m.fetched.getD t none).isSome) * 2 ^ t) (fld (d.reg Reg.MP_STAT) 8 8 * 256)

/-- A write of MP_COMMIT (R347): a tenant with a commit in progress ignores it. -/
def Dev.mpCommit (d : Dev) (v : Word) : Dev :=
  if fld v 0 8 = 0 then d
  else
    let c := (List.range 8).map (fun t => d.map.commit.getD t false || (bit v t && (d.map.fetched.getD t none).isNone))
    { d with map := { d.map with commit := c } }

/-- MP_COMMIT: a write of MP_COMMIT (R347). -/
def execMpCommit (v : Word) (s : State) : Answer := s.runDev fun d => d.mpCommit v

/-- What an edge does to the mappings (R347): what was fetched comes in force, and what has been committed is fetched and checked. `evs` is what the
fetch of each tenant's table meets. -/
def Dev.mapEdge (d : Dev) (evs : List DramEv) : Dev :=
  let m := d.map
  let active := (List.range 8).map (fun t => match m.fetched.getD t none with
    | some x => some x
    | none => m.active.getD t none)
  let d := { d with map := { active := active, fetched := List.replicate 8 none, commit := List.replicate 8 false } }
  (List.range 8).foldl (fun d t =>
    if !(m.commit.getD t false) then d
    else match d.fetchMap t (evs.getD t .ok) with
      | (some x, d) => { d with map := { d.map with fetched := setAt d.map.fetched t (some x) } }
      | (none, d) => (d.orReg Reg.MP_STAT (2 ^ (8 + t))).logSev 0x000E 0 { atNode nodeTick with tenant := some t }) d

/-- A Clearing's release cancels the tenant's mapping and commits (R347, R407). -/
def Dev.mapDrop (d : Dev) (t : Nat) : Dev :=
  { d with map := { active := setAt d.map.active t none, fetched := setAt d.map.fetched t none,
                    commit := setAt d.map.commit t false } }

end Sys2Proof.Machine
end

