-- ==== Sys2Proof/Machine/ResetOps.lean ====
section
/-! DEFINITION. What the resets do (R162, R185, R201, R264, R285, R326, R402, R466, R487, Table 20-3), the scrub of tiles (R407, R409), the
keys (R402) and the search for a boot image (R411, R472 to R475). -/

namespace Sys2Proof.Machine

/-! ## Scrubs and Clearing (R402, R406 to R409) -/

/-- Whether a register offset lies in the window of a tile that the predicate names. -/
def tileReg (p : Nat → Bool) (off : Nat) : Bool :=
  decide (0x1000000 ≤ off ∧ off < 0x2000000) && p ((off - 0x1000000) / 0x40000)

/-- Scrub tiles (Table 17-5 step 2): scratchpads, counters, accumulators, vector registers and instruction memory to 0, residency and
arrival maps cleared, SQ_ and TL_ registers reset; TL_NM_CRC follows its table. -/
def Dev.scrubTiles (d : Dev) (p : Nat → Bool) : Dev :=
  let m := d.mem
  { d with
    mem := { m with spad := tabDrop m.spad (fun k => p (k / 0x80000)), imem := tabDrop m.imem (fun k => p (k / 65536)),
                    acc := tabDrop m.acc (fun k => p (k / 8192)), accFp := tabDrop m.accFp (fun k => p (k / 128)),
                    vreg := tabDrop m.vreg (fun k => p (k / 2048)), ctr := tabDrop m.ctr (fun k => p (k / 2048)),
                    ctrBad := tabDrop m.ctrBad (fun k => p (k / 2048)) }
    spadGen := tabDrop d.spadGen p
    tiles := tabDrop d.tiles p
    regs := d.regs.filter (fun e => !(tileReg p e.1) || decide (e.1 % 0x40000 = 0x3E028)) }

/-- Fill a key slot from the entropy source (R402, R403). -/
def Dev.genKey (d : Dev) (slot : Nat) : Dev :=
  let (n, d) := d.draw
  { d with sec := { d.sec with keys := setAt d.sec.keys slot (Config.entropy n),
                               prov := d.sec.prov &&& ~~~ BitVec.ofNat 16 (2 ^ slot),
                               unkeyed := d.sec.unkeyed.filter (fun k => decide (k ≠ slot)) } }

/-- The DRAM range of a tenant's stand (R215). -/
def Dev.standRange (d : Dev) (t : Nat) : Nat × Nat :=
  let (k, n) := d.standKN t
  (k * d.cch, (k + n) * d.cch)

/-- A slot takes another key: what it encrypted no longer decrypts to what it was (R402, R407, R408). -/
def Dev.rekeyed (d : Dev) (slot : Nat) : Dev :=
  if slot < 8 then
    let r := d.standRange slot
    if r.1 < r.2 then d.scramble r.1 r.2 else d
  else { d with pwr := { d.pwr with spilled := d.pwr.spilled.filter (fun i => decide (i.tenant ≠ slot - 8)) } }

/-- Generate the keys of several slots at boot or at the exit from S4 (R402): when the entropy source fails, no slot gets a key and the failure is
fatal (R405). -/
def Dev.genKeys (d : Dev) (slots : List Nat) (fail : Bool) : Dev :=
  if fail then ({ d with sec := { d.sec with unkeyed := slots } }).raise 0x8007 (atNode nodeSec) else slots.foldl (fun d s => d.genKey s) d

/-- Regenerate a slot (R402); when the entropy source fails, the slot keeps its key and the failure is fatal (R405). -/
def Dev.rotate (d : Dev) (slot : Nat) (fail : Bool) : Dev :=
  if fail then d.raise 0x8007 (atNode nodeSec) else (d.genKey slot).rekeyed slot

/-- The registers that a Clearing of a tenant resets (R407). -/
def tenantRegs (t : Nat) : List Nat :=
  [Reg.TK_BATCH_BASE_LO t, Reg.TK_BATCH_BASE_HI t, Reg.MT_OBJ_BASE_LO t, Reg.MT_OBJ_BASE_HI t, Reg.MT_OBJ_COUNT t,
   Reg.MT_LATE_CNT t, Reg.MT_LATE_CYC t, Reg.CD_TBL_BASE_LO t, Reg.CD_TBL_BASE_HI t, Reg.CD_TBL_COUNT t, Reg.CD_ENC_CFG t,
   Reg.CD_ENC_CAND t, Reg.MP_BASE_LO t, Reg.MP_BASE_HI t, Reg.MP_ID t, Reg.MP_LCRC t, Reg.MP_CRC t]

/-- Set registers to their reset values. -/
def Dev.resetRegs (d : Dev) (offs : List Nat) : Dev := offs.foldl (fun d o => d.setReg o (regReset o)) d

/-- Clear ENABLE in every session word of a tenant (R407, R422). -/
def Dev.disableSessions (d : Dev) (t : Nat) : Dev :=
  { d with regs := d.regs.map (fun e =>
      if 0x14000 ≤ e.1 ∧ e.1 < 0x18000 ∧ fld e.2 12 3 = t then (e.1, e.2 &&& 0xFFFF7FFF) else e) }

/-- Remove entries that hold their reset value, as the canonical form asks. -/
def Dev.tidy (d : Dev) : Dev := { d with regs := d.regs.filter (fun e => decide (e.2 ≠ regReset e.1)) }

/-- The start of a Clearing (Table 17-5 step 1): the stand's buffers and DRAM write queues empty, under the old key, and the slots asked for rotate.
`fail`: the entropy source fails. -/
def Dev.clearQuiesce (d : Dev) (t : Nat) (fail : Bool) : Dev :=
  let fl := d.sec.clearFl.getD t 0
  let rows := d.standRows t
  let d := ({ d with fab := { d.fab with inflight := d.fab.inflight.filter (fun f => decide (tagTenant f.tag ≠ t)),
                                         refused := d.fab.refused.filter (fun f => !(rows.contains (f.sy - 1))),
                                         tainted := d.fab.tainted.filter (fun f => !(rows.contains (f.sy - 1))) } } : Dev).flow
  let d := d.wqEmpty rows
  let d := if fl.testBit 0 then d.rotate t fail else d
  if fl.testBit 1 then d.rotate (8 + t) fail else d

/-- The scrub of a Clearing (Table 17-5 steps 2 and 3) and the fill that was asked for (R408), which is refused while the DRAM is not ready (R245). -/
def Dev.clearScrub (d : Dev) (t : Nat) : Dev :=
  let rows := d.standRows t
  let d := d.scrubTiles (fun n => rows.contains (n / 8))
  let d := { d with plan := { d.plan with caches := d.plan.caches.filter (fun c => !(rows.contains c.row)) } }
  let r := d.standRange t
  if !(d.sec.clearFl.getD t 0).testBit 2 then d
  else if !d.dramReady then d.notReady nodeSec
  else if r.1 < r.2 then d.zeroDram r.1 r.2 else d

/-- The release of a Clearing (R407). -/
def Dev.clearRelease (d : Dev) (t : Nat) : Dev :=
  let d := (d.resetRegs (tenantRegs t)).mapDrop t
  let d := (d.disableSessions t).tidy
  let d := { d with
    plan := { d.plan with objBase := setAt d.plan.objBase t 0, objCount := setAt d.plan.objCount t 0,
                          tblBase := setAt d.plan.tblBase t 0, tblCount := setAt d.plan.tblCount t 0,
                          encCfg := setAt d.plan.encCfg t 0, encCand := setAt d.plan.encCand t 0 }
    tick := { d.tick with batchUse := setAt d.tick.batchUse t 0 }
    sec := { d.sec with clear := setAt d.sec.clear t .idle, cleared := setAt d.sec.cleared t true }
    host := { d.host with flrWait := d.host.flrWait.filter (fun f => decide (f ≠ t)) } }
  (d.orReg Reg.SEC_CLEAR_STAT (2 ^ (16 + t))).setReg Reg.SEC_CLEAR_CYC
    (w32 ((d.nowNs - d.sec.clearNs.getD t 0) * d.fclk / 1000))

/-! ## A tile's own reset (R162, R186, R467) -/

/-- The accumulator stores of some tiles as R162 leaves them. -/
def Dev.clearAcc (d : Dev) (p : Nat → Bool) : Dev :=
  { d with mem := { d.mem with acc := tabDrop d.mem.acc (fun k => p (k / 8192)), accFp := tabDrop d.mem.accFp (fun k => p (k / 128)) } }

/-- Reset a tile: a running instance halts with TILE_RESET; streams, sequencer, SQ_ and TL_ registers, accumulators and residency reset; the
fabric port, counters and scratchpad stay. -/
def Dev.tileReset (d : Dev) (t : Nat) : Dev :=
  let d := d.haltTile t 0x100F
  let ts := d.tile t
  let d := d.setTile t { TileSt.reset with txns := ts.txns.map (fun x => { x with op := none }),
                                           droopUntil := ts.droopUntil, firstDone := ts.firstDone, rampUntil := ts.rampUntil }
  let mine := fun n => decide (n = t)
  let d := d.clearAcc mine
  { d with regs := d.regs.filter (fun e => !(tileReg mine e.1) || decide (e.1 % 0x40000 = 0x3E028)) }

/-! ## The core reset (Table 20-3) -/

/-- The registers of the DRAM and flash controllers that PERST_N and warm reset set to their reset values (R264, R285). -/
def coreResetsReg (off : Nat) : Bool :=
  if 0x200000 ≤ off ∧ off < 0x208000 then
    let o := off % 0x1000
    decide (o ≠ 0 ∧ o ≠ 0x2C ∧ o ≠ 0x34)
  else decide (off = 0x300030 ∨ (0x302000 ≤ off ∧ off < 0x302400 ∧ 8 ≤ off % 0x40))

/-- Whether PERST_N and warm reset set a register to its reset value. -/
def Dom.coreKeeps (m : Dom) : Bool :=
  match m with | .core => false | .tile => false | _ => true

/-- A register kept by PERST_N and warm reset: by its domain, and TL_NM_CRC with its table (R165). -/
def keptByCore (off : Nat) : Bool :=
  (match regAt off with | some r => r.dom.coreKeeps | none => false) && !(coreResetsReg off) ||
  (tileReg (fun _ => true) off && decide (off % 0x40000 = 0x3E028))

/-- Cancel the host's flash command (R285): a program leaves its page undefined; an erase begun completes; of a table store the older copy is
left undefined. -/
def Dev.flashCancel (d : Dev) : Dev :=
  let d := match d.flash.cmd with
    | some c =>
      if c.op = 2 then d.undefPage c.addr
      else if !c.begun then d
      else if c.op = 3 then d.eraseBlock c.addr c.slc
      else if c.op = 5 then (if c.stage = 0 then d.eraseBlock c.addr else d.bbtProgram c.addr (c.stage - 1) c.data)
      else d
    | none => d
  { d with flash := { d.flash with cmd := none } }

/-- A flash command that loses its supply or its controller midway leaves what it was changing undefined. -/
def Dev.flashCut (d : Dev) : Dev :=
  match d.flash.cmd with
  | some c =>
    if !c.begun then d
    else if c.op = 2 then d.undefPage c.addr
    else if c.op = 3 ∨ (c.op = 5 ∧ c.stage = 0) then
      (List.range d.flash.pages).foldl (fun d i => d.undefPage (c.addr / 8192 * 8192 + i)) d
    else if c.op = 5 then d.undefPage (c.addr + c.stage - 1)
    else d
  | none => d

/-- The host port after a core reset: with `bus`, PERST_N, hot reset and FLR reset the configuration space too. -/
def HostSt.coreReset (h : HostSt) (bus : Bool) : HostSt :=
  if bus then { HostSt.reset with linkUp := h.linkUp, upOut := h.upOut }
  else { h with msix := [], pba := [], rings := [], jobs := [], upWait := [], flrWait := [], bar2Wait := [] }

/-- The whole of a tile's numeric-mode tables as `nm_default` (R165, R500). -/
def Dev.nmDefault (d : Dev) (p : Nat → Bool) : Dev :=
  { d with mem := { d.mem with nmSh := tabDrop d.mem.nmSh (fun k => p (k / 8192)), nmAct := tabDrop d.mem.nmAct (fun k => p (k / 8192)) },
           regs := d.regs.filter (fun e => !(tileReg p e.1) || decide (e.1 % 0x40000 ≠ 0x3E028)) }

/-- A reset abandons a run of the test engine; after a test of memories or logic every row is scrubbed (R501). -/
def Dev.testAbandon (d : Dev) : Dev :=
  let d := if d.testing then (d.scrubTiles (fun _ => true)).nmDefault (fun _ => true) else d
  { d with test := TestSt.idle }

/-- The core reset of PERST_N and warm reset (R185, R201, R264, R285, R326, R466): power, thermal, service ports, stand map, keys, pending
Clearings, the log, TK_COUNT, the link domain, scratchpads, DRAM and flash contents stay. -/
def Dev.coreReset (d : Dev) (bus : Bool) : Dev :=
  let d := d.flashCancel.dramReset.testAbandon
  let d := (d.lk.inbox.foldl (fun d e => d.giveBack e.port e.vc e.free) d).tellAll
  let m := d.mem
  let d := { d with
    regs := d.regs.filter (fun e => keptByCore e.1)
    tick := { TickSt.reset with count := d.tick.count, edgeNs := d.tick.edgeNs, timerNs := d.nowNs }
    tiles := []
    mem := { m with acc := [], accFp := [], ctr := [], ctrBad := [], vreg := [] }
    fab := { FabSt.reset with stand := d.fab.stand }
    bars := [], plan := PlanSt.reset, map := MapSt.reset
    pwr := { d.pwr with spoiled := true, learned := [], firstEdge := none }
    sec := { d.sec with standPend := false }
    host := d.host.coreReset bus
    lk := { d.lk with chans := [], inbox := [], rtxns := [], packs := [], winUse := List.replicate 7 0, due := none, finish := 0 } }
  let d := (d.clrReg Reg.ERR_STAT 1).setReg Reg.ERR_FATAL 0
  (d.setReg Reg.SEC_CLEAR_STAT 0).tidy

/-- The device after PORST_N (Table 20-3): the flash, the fuses and the always-on clock stay; the fuses take effect. -/
def Dev.porReset (d : Dev) : Dev :=
  let d := d.flashCut
  let trip := d.reg Reg.TH_TRIP_LAST
  let d' := { Dev.reset with
    nowNs := d.nowNs, porstNs := d.nowNs, freeCtr := d.freeCtr
    pins := { Dev.reset.pins with tickIn := d.pins.tickIn }
    flash := { FlashSt.reset with cells := d.flash.cells, undef := d.flash.undef }
    sec := { SecSt.reset with rootHash := d.sec.rootHash, lock := d.sec.lock, debugDis := d.sec.debugDis, rollback := d.sec.rollback,
                              rootUse := d.sec.rootHash, lockUse := d.sec.lock, dbgUse := d.sec.debugDis,
                              rollUse := d.sec.rollback } }
  let d' := { d' with regs := d.regs.filter (fun e => decide (0x30340 ≤ e.1 ∧ e.1 < 0x30600)) }
  let d' := d'.scramble 0 (2 ^ 35)
  if trip = 0 then d' else d'.setReg Reg.TH_TRIP_LAST trip

/-! ## Boot images (R410, R411, R474, R475) -/

/-- The checks of R411 in order: the code of the first that fails. -/
def Dev.imageFault (d : Dev) (img : List Byte) : Option Nat :=
  if leAt img 0 4 ≠ 0x4749534E ∨ leAt img 4 2 ≠ 1 ∨ leAt img 6 2 ≠ 0 ∨ leAt img 0x10 48 ≠ 0 then some 0x800A
  else if d.sec.rootUse = 0 ∨ Config.sha384 ((img.drop 0x40).take 96) ≠ d.sec.rootUse then some 0x8008
  else if leAt img 8 4 < d.sec.rollUse then some 0x8009
  else if Config.ecdsaOk d.sec.rootUse (img.take 0xA0 ++ (img.drop 0xA0).take 96 ++ img.drop 256) then none
  else some 0x800A

/-- Judge an image (R411): refused with LOCK set, executed unverified with LOCK clear; the flag tells whether it verified. -/
def Dev.judgeImage (d : Dev) (img : List Byte) : Option Nat × Bool :=
  match d.imageFault img with
  | none => (none, true)
  | some c => if d.sec.lockUse then (some c, false) else (none, false)

/-- Whether a boot table is valid (R475). -/
def bootTableOk (pay : List Byte) : Bool :=
  decide (leAt pay 0 4 = 0x42544F42 ∧ leAt pay 4 2 = 1 ∧ leAt pay 8 56 = 0 ∧ leAt pay 6 2 ≤ 16364 ∧
    pay.length = 64 + 16 * leAt pay 6 2)

/-- The entries of a boot table. -/
def bootEntries (pay : List Byte) : List (List Byte) :=
  (List.range (leAt pay 6 2)).map (fun i => (pay.drop (64 + 16 * i)).take 16)

/-- Whether page 0 of a copy reads erased. -/
def Dev.copyBlank (d : Dev) (blk : Nat) : Bool := d.pageErased (pageAt 0 0 blk 0)

/-- Read and check one copy (R474): the code of its failure, or its payload and whether it verified. -/
def Dev.readCopy (d : Dev) (blk : Nat) (bad : Bool) : Except Nat (List Byte × Bool) :=
  let page := fun i => d.pageBytes (pageAt 0 0 blk i) 0 16384
  if bad || !d.pageMeta (pageAt 0 0 blk 0) then .error 0x4007
  else
    let len := leAt (page 0) 0xC 4
    if 262144 - 256 < len then .error 0xB001
    else
      let n := (256 + len + 16383) / 16384
      if (List.range n).all (fun i => d.pageMeta (pageAt 0 0 blk i)) = false then .error 0x4007
      else
        let img := ((List.range n).flatMap page).take (256 + len)
        match d.judgeImage img with
        | (some c, _) => .error c
        | (none, v) => if bootTableOk (img.drop 256) then .ok (img, v) else .error 0xB002

/-- Log a boot failure at the sequencer's node. -/
def Dev.bootLog (d : Dev) (code : Nat) : Dev := d.raise code { atNode nodeBoot with detail := d.regN Reg.RB_ERR }

/-- A fatal failure that ends the boot (R476, R478, R482): captured in RB_ERR with the entry's index. -/
def Dev.bootFail (d : Dev) (code : Nat) : Dev :=
  (d.setReg Reg.RB_ERR (w32 (d.boot.next % 65536 * 65536 + code))).bootLog code

/-- A boot table entry (Table 20-5). -/
structure BootEntry where
  op    : Nat
  flags : Nat
  tmo   : Nat
  a     : Nat
  b     : Nat
  c     : Nat
  deriving DecidableEq, Repr

/-- An entry from its 16 bytes. -/
def bootEntry (bs : List Byte) : BootEntry :=
  { op := leAt bs 0 1, flags := leAt bs 1 1, tmo := leAt bs 2 2, a := leAt bs 4 4, b := leAt bs 8 4, c := leAt bs 12 4 }

/-- The end of the block of Table 0-4 that a BAR0 offset lies in; none outside every block. -/
def blockEnd (off : Nat) : Option Nat :=
  if off < 0x80000 then some ((off / 0x10000 + 1) * 0x10000)
  else if off < 0x100000 then some 0x100000
  else if off < 0x300000 then some ((off / 0x100000 + 1) * 0x100000)
  else if off < 0x580000 then some ((off / 0x80000 + 1) * 0x80000)
  else if 0x1000000 ≤ off ∧ off < 0x2000000 then some 0x2000000 else none

/-- Whether an entry's fields are as Table 20-6 and R476 ask. -/
def BootEntry.ok (e : BootEntry) : Bool :=
  decide (e.op < 7 ∧ e.flags < 4) && (decide (e.op = 2) || decide (e.tmo = 0)) &&
  (match e.op with
   | 0 => decide (e.a = 0 ∧ e.b = 0 ∧ e.c = 0)
   | 5 => decide (e.c = 0) ||
     (if e.flags.testBit 0 then decide (e.b + 4 * e.c ≤ 0x40000)
      else match blockEnd e.b with | some t => decide (e.b + 4 * e.c ≤ t) | none => false)
   | 6 => decide (e.b = 0) || decide (e.a + e.b ≤ 65536)
   | _ => true)

/-- Come to the next entry that is executed (R476): COLD ones are passed over after a warm kind, one that breaks its format fails the boot, and
after the last the table has run to its end. -/
def Dev.bootNext (d : Dev) : List (List Byte) → Dev
  | [] => d.bootEnd true
  | x :: xs =>
    let e := bootEntry x
    if e.flags.testBit 1 && !d.boot.cold then ({ d with boot := { d.boot with next := d.boot.next + 1 } }).bootNext xs
    else if e.ok then d else d.bootFail 0xB003

/-- The present entry has taken effect: on to the next. -/
def Dev.bootDone (d : Dev) : Dev :=
  if !d.boot.running then d
  else
    let d := { d with boot := { d.boot with next := d.boot.next + 1, waitNs := none } }
    d.bootNext (d.boot.entries.drop d.boot.next)

/-- Execute a payload's table. -/
def Dev.bootTable (d : Dev) (which : Nat) (img : List Byte) (verified : Bool) : Dev :=
  let d := d.orReg Reg.RB_STAT (which * 512)
  let d := d.setReg Reg.SEC_BOOT_STAT (w32 (b2n verified + 2 * (leAt img 8 4 % 128)))
  let d := if verified then d else d.logC 0x800B nodeSec
  let es := bootEntries (img.drop 256)
  ({ d with boot := { d.boot with entries := es, next := 0, running := true } }).bootNext es

/-- A copy fails: a page that stays uncorrectable is also counted and captured in its channel's registers (R272, R474). -/
def Dev.copyFail (d : Dev) (blk code : Nat) : Dev :=
  let n := (256 + leAt (d.pageBytes (pageAt 0 0 blk 0) 0 16384) 0xC 4 + 16383) / 16384
  let page := ((List.range (min n 16)).find? (fun i => !d.pageMeta (pageAt 0 0 blk i))).getD 0
  (if code = 0x4007 then d.pageUe (pageAt 0 0 blk page) else d).bootLog code

/-- Copy B, after copy A was absent, or failed with a code. -/
def Dev.bootB (d : Dev) (failed : Option Nat) (env : BootEnv) : Dev :=
  if d.copyBlank 1 then
    (match failed with | none => d.orReg Reg.RB_STAT 8 | some c => d.setReg Reg.RB_ERR (w32 c)).bootEnd false
  else match d.readCopy 1 env.badB with
    | .ok (img, v) => d.bootTable 2 img v
    | .error c => ((d.setReg Reg.RB_ERR (w32 c)).copyFail 1 c).bootEnd false

/-- The search for an image and the start of its table (R474). -/
def Dev.bootSearch (d : Dev) (env : BootEnv) : Dev :=
  if env.noFlash then d.bootFail 0xB004
  else if d.copyBlank 0 then d.bootB none env
  else match d.readCopy 0 env.badA with
    | .ok (img, v) => d.bootTable 1 img v
    | .error c => (d.copyFail 0 c).bootB (some c) env

/-- OP15 until the first edge after the boot (R358, R471). -/
def Dev.atOp15 (d : Dev) : Dev :=
  let e := d.pwr.opUse.getD 15 (8, 110)
  let f := e.1 * 25
  { (d.fldReg Reg.CAP_STAT 0 8 255) with
    pwr := { d.pwr with fclk := f, pll := f, pllLocked := true, volt := e.2 * 5, avsWait := none, avsHeld := false },
    pins := { d.pins with avsMv := e.2 * 5 }, tick := { d.tick with annFclk := f } }

/-- Clearings that a reset caught waiting or busy run to their end (R409); one that was waiting counts its cycles from here. -/
def Dev.bootClear (d : Dev) (fail : Bool) : Dev :=
  (List.range 8).foldl (fun d t =>
    if d.sec.clear.getD t .idle = .idle then d
    else
      let d := if d.sec.clear.getD t .idle = .busy then d else { d with sec := { d.sec with clearNs := setAt d.sec.clearNs t d.nowNs } }
      ((d.clearQuiesce t fail).clearScrub t).clearRelease t) d

/-- The boot sequence (R472) after a reset of a cause (Table 20-8): its record, the keys of the cold kinds, the scrub, then the search unless
SKIP_TABLE was set. -/
def Dev.bootStart (d : Dev) (cause : Nat) (skip : Bool) (env : BootEnv) : Dev :=
  let cold := decide (cause = 0 ∨ cause = 5)
  let d := d.setReg Reg.RB_STAT (w32 (1 + b2n skip * 256 + cause * 8192))
  let d := { d with boot := { BootSt.reset with startNs := d.nowNs, cold := cold } }
  let d := d.atOp15
  let d := if cold then d.genKeys (List.range 16) env.entropyFail else d.bootClear env.entropyFail
  let d := if bit (d.reg Reg.CAL_STAT) 0 then d.logC 0x7104 nodePower else d
  if cold && env.entropyFail then d
  else if skip then d.bootEnd false
  else d.bootSearch env

end Sys2Proof.Machine
end

