-- ==== Sys2Proof/Machine/Thermal.lean ====
section
/-! DEFINITION. Thermal control and calibration (chapter 16): sampling, levels, the trip and the fan. -/

namespace Sys2Proof.Machine

/-! ## Temperatures (R374 to R378) -/

/-- Rounding to the nearest whole number, ties upward. -/
def roundUp (num den : Int) : Int := (2 * num + den).fdiv (2 * den)

/-- The temperature of a raw code in 1/4 °C from the three fused codes (R377). -/
def tempOf (c1 c2 c3 r : Nat) : Int :=
  if r ≤ c2 then roundUp (200 * ((r : Int) - c1) - 40 * ((c2 : Int) - c1)) ((c2 : Int) - c1)
  else roundUp (220 * ((r : Int) - c2) + 160 * ((c3 : Int) - c2)) ((c3 : Int) - c2)

/-- A sample of a sensor: its temperature where it is valid (R374). -/
def sampleOf (d : Dev) (s : Nat) (r : BitVec 16) : Option Int :=
  let a := d.reg (Reg.CAL_SENS_A s)
  let t := tempOf (fld a 0 16) (fld a 16 16) (fld (d.reg (Reg.CAL_SENS_B s)) 0 16) r.toNat
  if r = 0 ∨ r = 0xFFFF ∨ t < -220 ∨ 600 < t then none else some t

/-- Insertion of a value into a rising list. -/
def insertI (x : Int) : List Int → List Int
  | [] => [x]
  | y :: ys => if x ≤ y then x :: y :: ys else y :: insertI x ys

/-- The rising order of a list. -/
def sortI (l : List Int) : List Int := l.foldr insertI []

/-- The filtered value: the median of the valid samples, the larger of the two middle ones where their number is even (R374). -/
def medianOf (h : List (Option Int)) : Option Int :=
  let v := sortI (h.filterMap id)
  v[v.length / 2]?

/-- The largest filtered value over the enabled and valid sensors with its sensor; 125 °C where there is none (R375). -/
def thetaOf (en : Word) (h : List (List (Option Int))) : Int × Nat :=
  let c := (List.range 16).filterMap (fun s => if bit en s then (medianOf (h.getD s [])).map (fun t => (t, s)) else none)
  match c with
  | [] => (500, 0)
  | x :: xs => xs.foldl (fun m y => if m.1 < y.1 then y else m) x

/-- The temperature that levels and the fan use: with 3.5 °C more while the guard is in force (R381). -/
def ThSt.judgedTheta (th : ThSt) : Int := if th.guard then th.theta + 14 else th.theta

/-- An entry of the active thermal table. -/
def ThSt.entry (th : ThSt) (l : Nat) : Word × Word := th.active.getD l (0, 0)

/-- Fields of the thermal table (Tables 16-7, 16-8). -/
def thEntry (e : Word × Word) : Int := sgn (fld e.1 0 12) 12
def thExit (e : Word × Word) : Int := sgn (fld e.1 16 12) 12
def thDwell (e : Word × Word) : Nat := fld e.2 0 16
def thScale (e : Word × Word) : Nat := fld e.2 16 9
def thMaxOp (e : Word × Word) : Nat := fld e.2 28 4

/-! ## Levels (R382 to R387) -/

/-- The highest level above `l` whose entry threshold the temperature reaches. -/
def highestAbove (th : ThSt) (l : Nat) (t : Int) : Option Nat :=
  ([4, 3, 2, 1].filter (fun j => decide (l < j) && decide (thEntry (th.entry j) ≤ t))).head?

/-- The level that R384 judges from level `l` with dwell `dw`. -/
def judgeLevel (th : ThSt) (l dw : Nat) (t : Int) : Nat :=
  if l < 4 ∧ thEntry (th.entry 4) ≤ t then 4
  else if dw < thDwell (th.entry l) then l
  else match highestAbove th l t with
    | some j => j
    | none => if 0 < l ∧ t ≤ thExit (th.entry l) then l - 1 else l

/-- The level used: the larger of the judged one and the forced one (R387). -/
def usedLevel (force : Word) (judged : Nat) : Nat :=
  if bit force 3 then max judged (min (fld force 0 3) 4) else judged

/-- One judgment of the level, at an edge or an idle instant (R383, R384, R387). -/
def ThSt.judge (th : ThSt) (force : Word) : ThSt :=
  let dw := min (th.dwell + 1) 65535
  let l := judgeLevel th th.judged dw th.judgedTheta
  { th with judged := l, dwell := if l = th.judged then dw else 0, level := usedLevel force l }

/-- The checks of a thermal table (R382). -/
def thTableOk (t : List (Word × Word)) : Bool :=
  let e := fun l => t.getD l (0, 0)
  [1, 2, 3].all (fun l => decide (thEntry (e l) < thEntry (e (l + 1)))) && decide (thEntry (e 4) ≤ 448) &&
  [1, 2, 3, 4].all (fun l => decide (thExit (e l) ≤ thEntry (e l) - 8)) &&
  [0, 1, 2, 3, 4].all (fun l => decide (16 ≤ thScale (e l) ∧ thScale (e l) ≤ 256)) &&
  [0, 1, 2, 3].all (fun l => decide (thScale (e (l + 1)) ≤ thScale (e l))) &&
  [0, 1, 2, 3].all (fun l => decide (thMaxOp (e l) ≤ thMaxOp (e (l + 1))))

/-- The shadow table as the registers hold it. -/
def Dev.thShadow (d : Dev) : List (Word × Word) := (List.range 5).map (fun l => (d.reg (Reg.TH_LVL_A l), d.reg (Reg.TH_LVL_B l)))

/-- Check a committed table (R382): in force, or refused with TABLE_BAD and THERM_TABLE_BAD. -/
def thCommit (d : Dev) (th : ThSt) : Dev × ThSt :=
  if th.pend then
    if thTableOk d.thShadow then (d, { th with pend := false, active := d.thShadow })
    else ((d.orReg Reg.TH_STAT 0x200).logC 0x7105 nodePower, { th with pend := false })
  else (d, th)

/-- Log a change of the used level (R386): the entered level's count, and THERM_LEVEL with the old and new levels. -/
def logLevel (d : Dev) (old new : Nat) : Dev :=
  if old = new then d
  else (d.incReg (Reg.TH_LVL_CNT new) 1).logSev 0x7101 0 { atNode nodePower with detail := old * 256 + new }

/-- The thermal work of an edge or idle instant: the table, the guard where `edge`, the judgment (R381 to R384). -/
def thermalInstant (d : Dev) (th : ThSt) (edge : Bool) : Dev × ThSt :=
  let (d, th) := thCommit d th
  let th := if edge then { th with guard := th.fault || bit (d.reg Reg.CAL_STAT) 0 } else th
  let old := th.level
  let th := { th.judge (d.reg Reg.TH_FORCE) with lastNs := d.nowNs }
  (logLevel d old th.level, th)

/-! ## The fan (R390 to R392) -/

/-- A point of the fan curve: temperature and duty; more than 100 percent is used as 100 (DESIGN CHOICE, notes/assumptions/38). -/
def fanPt (d : Dev) (i : Nat) : Int × Nat := (sgn (fld (d.reg (Reg.FAN_PT i)) 0 12) 12, min (fld (d.reg (Reg.FAN_PT i)) 16 7) 100)

/-- FAN_PWM in one period of the pulse train, in units of 40 ns: how long the ball is high, and the period (R390). -/
def fanPwm (d : Dev) (th : ThSt) : Nat × Nat :=
  let c := d.reg Reg.FAN_CFG
  let period := fld c 0 10 + 1
  let on := th.duty * period / 100
  (if bit c 10 then period - on else on, period)

/-- Whether the curve falls somewhere (R391). -/
def curveBad (d : Dev) : Bool := (List.range 7).any (fun i => decide ((fanPt d (i + 1)).1 < (fanPt d i).1))

/-- The duty between two points, rounded up to a whole percent. -/
def fanBetween (a b : Int × Nat) (t : Int) : Nat :=
  if a.1 = b.1 then b.2
  else
    let den := b.1 - a.1
    let num := (a.2 : Int) * den + ((b.2 : Int) - a.2) * (t - a.1)
    (-((-num).fdiv den)).toNat

/-- The target duty of a temperature (R391). -/
def fanTarget (d : Dev) (level : Nat) (t : Int) : Nat :=
  if level = 4 ∨ curveBad d then 100
  else if t ≤ (fanPt d 0).1 then (fanPt d 0).2
  else if (fanPt d 7).1 ≤ t then (fanPt d 7).2
  else match (List.range 7).find? (fun i => decide ((fanPt d i).1 < t ∧ t ≤ (fanPt d (i + 1)).1)) with
    | some i => fanBetween (fanPt d i) (fanPt d (i + 1)) t
    | none => (fanPt d 7).2

/-- Set the target; the duty in force rises to a higher one at once (R391). -/
def ThSt.setTarget (th : ThSt) (now tgt : Nat) : ThSt :=
  let th := { th with target := tgt }
  let th := if th.duty < tgt then { th with duty := tgt, fallNs := now } else th
  { th with dutyLow := th.dutyLow || decide (th.duty < 20) }

/-! ## Sampling (R373 to R381) -/

/-- The comparison of PREF with the bandgap (R379): three instants outside 0.97 to 1.03 set the fault, 100 inside 0.98 to 1.02
clear it. -/
def ThSt.pref (th : ThSt) (p : Nat) : ThSt :=
  if p * 100 < 97 * 32768 ∨ 103 * 32768 < p * 100 then
    { th with badCnt := th.badCnt + 1, goodCnt := 0, fault := th.fault || decide (3 ≤ th.badCnt + 1) }
  else
    let good := if 98 * 32768 ≤ p * 100 ∧ p * 100 ≤ 102 * 32768 ∧ th.fault then th.goodCnt + 1 else 0
    { th with badCnt := 0, goodCnt := if 100 ≤ good then 0 else good, fault := th.fault && decide (good < 100) }

/-- Record one sensor's sample: its history, TH_TEMP, and the onset of an invalid sensor (R374). -/
def sampleSensor (d : Dev) (th : ThSt) (s : Nat) (r : BitVec 16) : Dev × ThSt :=
  let h := (sampleOf d s r :: th.hist.getD s []).take 5
  let m := medianOf h
  let word := r.toNat * 65536 + (match m with | some t => 4096 + (t % 4096).toNat | none => 0)
  let d := d.setReg (Reg.TH_TEMP s) (w32 word)
  let onset := m.isNone && th.seen.getD s false
  let d := if onset then (d.orReg Reg.TH_STAT 0x400).logC 0x7102 nodePower else d
  (d, { th with hist := setAt th.hist s h, seen := setAt th.seen s m.isSome })

/-- A sampling instant (R373 to R381, R391). -/
def sample (d : Dev) (th : ThSt) (raw : List (BitVec 16)) (p : BitVec 16) : Dev × ThSt :=
  let was := th.fault
  let (d, th) := (List.range 16).foldl (fun x s => sampleSensor x.1 x.2 s (raw.getD s 0)) (d, th)
  let (t, hot) := thetaOf (d.reg Reg.TH_SENSOR_EN) th.hist
  let th := { th with theta := t, sampled := (d.nowNs - d.porstNs) / 100000 }
  let d := d.setReg Reg.TH_CHIP (w32 ((t % 4096).toNat + hot * 65536))
  let d := d.setReg Reg.CAL_PREF (w32 p.toNat)
  let th := { th with guard := th.guard || was || bit (d.reg Reg.CAL_STAT) 0 }
  let th := th.pref p.toNat
  let d := if th.fault && !was then d.logC 0x7103 nodePower else d
  let th := { th.setTarget d.nowNs (fanTarget d th.level th.judgedTheta) with curveBad := curveBad d }
  (d, th)

/-- SAMPLING_INSTANT: the next 100 µs instant of S0 to S3 (R373). -/
def execSamplingInstant (raw : List (BitVec 16)) (pref : BitVec 16) (s : State) : Answer :=
  s.run fun s =>
    if s.dev.pstate ≤ 3 ∧ s.th.sampled < (s.dev.nowNs - s.dev.porstNs) / 100000 then
      let (d, th) := sample s.dev s.th raw pref
      { s with dev := d, th := th }
    else s

/-- IDLE_INSTANT: 10 ms without an edge or idle instant in S0 to S3 (R385). -/
def execIdleInstant (s : State) : Answer :=
  s.run fun s =>
    if s.dev.pstate ≤ 3 ∧ s.th.lastNs + 10000000 ≤ s.dev.nowNs then
      let (d, th) := thermalInstant s.dev s.th false
      { s with dev := d, th := th }
    else s

/-- A write of TH_COMMIT. -/
def ThSt.commit (th : ThSt) (v : Word) : ThSt := if bit v 0 then { th with pend := true } else th

/-- TH_COMMIT: a write of 1 makes the shadow table wait for the next edge or idle instant (R382). -/
def execThCommit (v : Word) (s : State) : Answer := s.run fun s => { s with th := s.th.commit v }

/-! ## The trip (R388, R389) -/

/-- What the trip leaves of the core: supplies off, THERMTRIP_N low, and everything outside the always-on domain lost. -/
def tripDev (d : Dev) (sensor : Nat) : Dev :=
  let d := d.scramble 0 (2 ^ 35)
  let d := { d with mem := TileMem.reset, spadGen := (List.range 64).map (fun t => (t, d.freeCtr + 1)), freeCtr := d.freeCtr + 1,
                    tiles := [] }
  let d := { d with regs := d.regs.filter (fun e => decide (0x20000 ≤ e.1 ∧ e.1 < 0x40000)) }
  let d := { d with pins := { d.pins with tripN := false, corePwr := false, dramPwr := false, flashPwr := false } }
  d.setReg Reg.TH_TRIP_LAST (w32 (0x80000000 + sensor))

/-- The trip latch sets. -/
def State.trip (s : State) (sensor : Nat) : State :=
  { s with dev := tripDev s.dev sensor, th := { s.th with tripped := true, duty := 100, target := 100 } }

/-- THERMAL_TRIP: a comparator finds the code at or above its trip code at two consecutive comparisons in S0 to S3 (R388), whatever instruction the
test access port holds (R495). -/
def execThermalTrip (sensor : Fin 16) (c1 c2 : BitVec 16) (s : State) : Answer :=
  let trip := fld (s.dev.reg (Reg.CAL_SENS_B sensor)) 16 16
  .next (if s.th.tripped = false ∧ s.dev.pstate ≤ 3 ∧ trip ≤ c1.toNat ∧ trip ≤ c2.toNat then s.trip sensor else s)

/-- FAN_TACH_WINDOW: the end of a 1 s window with so many falling edges (R392). -/
def execFanTachWindow (edges : Nat) (s : State) : Answer :=
  s.run fun s =>
    if s.dev.pstate ≤ 3 ∧ s.th.winNs + 1000000000 ≤ s.dev.nowNs then
      let rpm := min (edges * 60 / (fld (s.dev.reg Reg.FAN_CFG) 11 2 + 1)) 65535
      let low := decide (rpm < s.dev.regN Reg.FAN_MIN_RPM) && !s.th.dutyLow
      let n := if low then s.th.lowWin + 1 else 0
      let onset := decide (2 ≤ n) && !s.th.fanBad
      let d := s.dev.fldReg Reg.FAN_STAT 16 16 rpm
      let d := if onset then (d.orReg Reg.TH_STAT 0x800).logC 0x7106 nodePower else d
      { s with dev := d, th := { s.th with lowWin := n, fanBad := decide (2 ≤ n), dutyLow := decide (s.th.duty < 20),
                                           winNs := if s.th.winNs + 2000000000 ≤ s.dev.nowNs then s.dev.nowNs else s.th.winNs + 1000000000 } }
    else s

/-- FAN_DUTY_FALL: FALL_MS after the last fall, the duty falls by one point towards a lower target (R391). -/
def execFanDutyFall (s : State) : Answer :=
  s.run fun s =>
    if s.th.target < s.th.duty ∧ s.th.fallNs + fld (s.dev.reg Reg.FAN_CFG) 16 16 * 1000000 ≤ s.dev.nowNs then
      { s with th := { s.th with duty := s.th.duty - 1, fallNs := s.dev.nowNs,
                                 dutyLow := s.th.dutyLow || decide (s.th.duty - 1 < 20) } }
    else s

end Sys2Proof.Machine
end

