-- ==== Sys2Proof/Machine/Pow.lean ====
section
/-! DEFINITION. Power states (R349 to R361): requests, entry, the keep list and the spill, wake events and exits; and the operating points'
hardware (R362, R365, R366). -/

namespace Sys2Proof.Machine

/-! ## Requests (R350, R351) -/

/-- Whether a request must wait: a transition runs, a Clearing waits or runs, or a memory or logic test runs (R350, R406, R500). -/
def Dev.reqHeld (d : Dev) : Bool := d.entering || d.exiting || d.testing || d.sec.clear.any (fun c => decide (c ≠ .idle))

/-- A request that need not wait. -/
def Dev.pwAct (d : Dev) (v : Nat) : Dev :=
  if v = 0 then (if 1 ≤ d.pstate ∧ d.pstate ≤ 3 then d.wake 7 false else d)
  else if d.pstate = v then d
  else { d with pwr := { d.pwr with req := some v } }

/-- A write of PW_REQ.STATE (R350). A wake by 0 also ends an entry (Table 15-4). -/
def Dev.pwReq (d : Dev) (v : Nat) : Dev :=
  if 5 < v ∨ (1 ≤ v ∧ v < d.pstate) then d.logC 0x7001 nodePower
  else if v = 0 && d.entering then d.wake 7 false
  else if d.reqHeld then { d with pwr := { d.pwr with heldReq := some v } }
  else d.pwAct v

/-- A held request is acted on when what held it has ended. -/
def Dev.promote (d : Dev) : Dev :=
  match d.pwr.heldReq with
  | some v => if d.reqHeld then d else ({ d with pwr := { d.pwr with heldReq := none } }).pwReq v
  | none => d

/-- HOST_WAKE: a write of 0 to PW_REQ.STATE (R350). -/
def execHostWake (s : State) : Answer := s.runDev fun d => d.pwReq 0

/-- REQUEST_S1_POISE (R350). -/
def execRequestS1Poise (s : State) : Answer := s.runDev fun d => d.pwReq 1

/-- REQUEST_S2_REST (R350). -/
def execRequestS2Rest (s : State) : Answer := s.runDev fun d => d.pwReq 2

/-- REQUEST_S3_DOZE (R350). -/
def execRequestS3Doze (s : State) : Answer := s.runDev fun d => d.pwReq 3

/-- REQUEST_S4_DEEP (R350). -/
def execRequestS4Deep (s : State) : Answer := s.runDev fun d => d.pwReq 4

/-- REQUEST_S5_DORMANT (R350). -/
def execRequestS5Dormant (s : State) : Answer := s.runDev fun d => d.pwReq 5

/-! ## The keep list (R354 to R356) -/

/-- Entry `i` of the keep list: none where it is not valid, an error where it breaks Table 15-4a or leaves its stand. -/
def Dev.keepEntry (d : Dev) (i : Nat) : Option (Option KeepEnt) :=
  let b := d.dramBytes (d.reg64 Reg.PW_KEEP_BASE_LO Reg.PW_KEEP_BASE_HI + 16 * i) 16
  let loc := leAt b 0 4
  let len := leAt b 4 4
  let a := leAt b 8 8
  let ctr := loc.testBit 30
  let tile := fldN loc 24 6
  let start := if ctr then fldN loc 0 11 else fldN loc 0 19
  if !loc.testBit 31 then none
  else if fldN loc 19 5 ≠ 0 ∨ (ctr = true ∧ fldN loc 11 8 ≠ 0) ∨ (ctr = false ∧ start % 64 ≠ 0) ∨ len % 64 ≠ 0 ∨ a % 64 ≠ 0
      ∨ (if ctr then 2048 < start + len / 4 else 524288 < start + len) ∨ d.inStand (d.tileTenant tile) a len = false then some none
  else some (some { ctr := ctr, tile := tile, start := start, len := len, dram := a })

/-- An entry of a list in DRAM; one that lies in no stand (R216) or that an uncorrectable error withholds (R258) is a bad one. -/
def Dev.listRead (d : Dev) (a : Nat) (x : Option (Option α)) : Option (Option α) × Dev :=
  if d.outOfDram a 16 then (some none, d)
  else match d.readDram a 16 0 none .ok with
  | (some _, d) => (some none, d)
  | (none, d) => (x, d)

/-- Check the whole list: bad entries are logged with their index, the others kept. -/
def Dev.keepCheck (d : Dev) : Nat → Nat → Dev × List KeepEnt
  | 0, _ => (d, [])
  | n + 1, i =>
    match d.listRead (d.reg64 Reg.PW_KEEP_BASE_LO Reg.PW_KEEP_BASE_HI + 16 * i) (d.keepEntry i) with
    | (none, d) => d.keepCheck n (i + 1)
    | (some none, d) => (d.logSev 0x7002 0 { atNode nodePower with detail := i }).keepCheck n (i + 1)
    | (some (some e), d) => let (d, es) := d.keepCheck n (i + 1); (d, e :: es)

/-- The bytes that an entry saves. -/
def Dev.keepBytes (d : Dev) (e : KeepEnt) : List Byte :=
  if e.ctr then (List.range (e.len / 4)).flatMap (fun i => leBytes 4 (d.ctr e.tile (e.start + i)).toNat)
  else d.spadBytes e.tile e.start e.len

/-- Save the keep list, or refuse one of more than 8 MiB (R355), or any while the DRAM is not ready (R245). -/
def Dev.keepSave (d : Dev) : Except Dev Dev :=
  if d.regN Reg.PW_KEEP_COUNT = 0 then .ok { d with pwr := { d.pwr with keep := [] } }
  else if !d.dramReady then .error (d.notReady nodePower)
  else
    let (d, es) := d.keepCheck (min (d.regN Reg.PW_KEEP_COUNT) 256) 0
    if 8388608 < (es.map (·.len)).sum then .error (d.logC 0x7003 nodePower)
    else
      let d := es.foldl (fun d e => d.writeDram e.dram 0 (d.keepBytes e) .ok) d
      .ok { d with pwr := { d.pwr with keep := es } }

/-- Restore one entry; nothing of it where an uncorrectable error withholds its bytes (R38). -/
def Dev.keepLoad (d : Dev) (e : KeepEnt) : Dev :=
  match d.readDram e.dram e.len 0 none .ok with
  | (some _, d) => d
  | (none, d) =>
  let b := d.dramBytes e.dram e.len
  if e.ctr then (List.range (e.len / 4)).foldl (fun d i => d.setCtr e.tile (e.start + i) (w32 (leAt b (4 * i) 4))) d
  else d.setSpad e.tile e.start b

/-- Restore every saved entry in list order (R356). -/
def Dev.keepRestore (d : Dev) : Dev :=
  let d := d.pwr.keep.foldl (fun d e => d.keepLoad e) d
  { d with pwr := { d.pwr with keep := [], restoring := false } }

/-- What S3 and S4 lose in the tiles (Table 15-2, R356): scratchpads undefined, counters 0, accumulators as after R162. -/
def Dev.loseTiles (d : Dev) : Dev :=
  let g := d.freeCtr + 1
  { d with freeCtr := g, spadGen := (List.range 64).map (fun t => (t, g)),
           mem := { d.mem with spad := [], ctr := [], ctrBad := [], acc := [], accFp := [] },
           tiles := d.tiles.map (fun e => (e.1, { e.2 with block := none })) }

/-! ## The spill (R237, R238, R282, R283) -/

/-- A valid entry of the spill list. -/
structure SpillEnt where
  tenant : Nat
  addr   : Nat
  len    : Nat
  deriving DecidableEq, Repr

/-- Entry `i` of the spill list, as `keepEntry`. -/
def Dev.spillEntry (d : Dev) (i : Nat) : Option (Option SpillEnt) :=
  let b := d.dramBytes (d.reg64 Reg.MT_SPILL_BASE_LO Reg.MT_SPILL_BASE_HI + 16 * i) 16
  let a := leAt b 0 8
  let len := leAt b 8 4
  let fl := leAt b 12 1
  let t := fldN fl 1 3
  if !fl.testBit 0 then none
  else if 16 ≤ fl ∨ leAt b 13 3 ≠ 0 ∨ a % 64 ≠ 0 ∨ len % 64 ≠ 0 ∨ d.inStand t a len = false then some none
  else some (some { tenant := t, addr := a, len := len })

/-- Check the whole spill list (R238). -/
def Dev.spillCheck (d : Dev) : Nat → Nat → Dev × List SpillEnt
  | 0, _ => (d, [])
  | n + 1, i =>
    match d.listRead (d.reg64 Reg.MT_SPILL_BASE_LO Reg.MT_SPILL_BASE_HI + 16 * i) (d.spillEntry i) with
    | (none, d) => d.spillCheck n (i + 1)
    | (some none, d) => (d.logSev 0x3010 0 { atNode (nodeOf 0 1) with detail := i }).spillCheck n (i + 1)
    | (some (some e), d) => let (d, es) := d.spillCheck n (i + 1); (d, e :: es)

/-- The first `n` bytes of some ranges, and the rest. -/
def takeRanges : Nat → List (Nat × Nat) → List (Nat × Nat) × List (Nat × Nat)
  | _, [] => ([], [])
  | n, (a, l) :: rs =>
    if n = 0 then ([], (a, l) :: rs)
    else if l ≤ n then let (x, y) := takeRanges (n - l) rs; ((a, l) :: x, y)
    else ([(a, n)], (a + n, l - n) :: rs)

/-- Cut ranges into data units of 16 KiB (R282). -/
def cutUnits : Nat → List (Nat × Nat) → List (List (Nat × Nat))
  | 0, _ => []
  | n + 1, rs =>
    let (x, y) := takeRanges 16384 rs
    if (x.map (·.2)).sum = 0 then [] else x :: cutUnits n y

/-- The spill channels of a tenant: the first and how many. -/
def Dev.spillChans (d : Dev) (t : Nat) : Nat × Nat := let (k, n) := d.standKN t; (2 * k, 2 * n)

/-- Whether a tenant's image of so many data units fits its spill regions (R238, R282): the descriptor and the seal take an index of their own. -/
def Dev.spillFits (d : Dev) (t units : Nat) : Bool :=
  let (c, n) := d.spillChans t
  let ms := (List.range n).map (fun i => d.usable (c + i) 1)
  let m := ms.foldl min (ms.headD 0)
  decide (1 ≤ m ∧ units ≤ (m - 1) * n)

/-- The page of an index of a channel's spill region. -/
def Dev.spillPage (d : Dev) (c i : Nat) : Nat := (d.unitPage c 1 i).getD 0

/-- A tenant's image as the marks in force lay it out (R282), nothing of it written. -/
def Dev.spillImage (d : Dev) (t : Nat) (ents : List (Nat × Nat)) : SpillImage :=
  let us := cutUnits (((ents.map (·.2)).sum + 16383) / 16384 + 1) ents
  let (c, n) := d.spillChans t
  { tenant := t, gener := d.pwr.spillGen, count := us.length, ents := ents, head := d.spillPage c 0, tail := d.spillPage (c + 1) 0,
    units := (us.zipIdx).map (fun u =>
      { tenant := t, page := d.spillPage (c + u.2 % max n 1) (1 + u.2 / max n 1), ranges := u.1, data := [], good := true }) }

/-- The pages of an image. -/
def SpillImage.pages (i : SpillImage) : List Nat := i.head :: i.tail :: i.units.map (·.page)

/-- The bytes of the descriptor or, with `tail`, of the seal: MAGIC, generation, tenant, unit count and entries; MAGIC, generation and unit count (R282;
notes/assumptions/68). -/
def SpillImage.mark (i : SpillImage) (tail : Bool) : List Byte :=
  let vals := if tail then [0x4C50534E, i.gener, i.count] else [0x4C50534E, i.gener, i.tenant, i.count] ++ i.ents.flatMap (fun e => [e.1, e.2])
  (List.range 16384).map (Config.spillByte tail vals)

/-- A data unit under its tenant's spill key (R401). -/
def Dev.spillCipher (d : Dev) (u : SpillUnit) : List Byte :=
  (List.range 256).flatMap (fun i =>
    let tweak := i + u.page * 2 ^ 32 + d.pwr.spillGen * 2 ^ 64
    (List.range 64).map (Config.xtsByte (d.sec.keys.getD (8 + u.tenant) 0) tweak ((u.data.drop (64 * i)).take 64)))

/-- The first steps of R283: every block that an image will use is erased and its descriptor programmed. -/
def Dev.spillOpen (d : Dev) (i : SpillImage) : Dev :=
  (i.pages.foldl (fun d p => d.eraseBlock p) d).programPage i.head (i.mark false)

/-- Read data unit `j` of an image from DRAM, encrypt it and program it; a unit whose read an uncorrectable error withholds is not good. -/
def Dev.spillUnit (d : Dev) (j : Nat) (i : SpillImage) : SpillImage × Dev :=
  match i.units[j]? with
  | none => (i, d)
  | some u =>
    let (good, d) := u.ranges.foldl (fun r e => let (c, d) := r.2.readDram e.1 e.2 5 none .ok; (r.1 && c.isNone, d)) (true, d)
    let u := { u with data := u.ranges.flatMap (fun e => d.dramBytes e.1 e.2), good := good }
    ({ i with units := setAt i.units j u }, d.programPage u.page (d.spillCipher u))

/-- Data unit `j` of every image, all tenants in parallel (R283 step 3). -/
def Dev.spillUnits (d : Dev) (j : Nat) : Dev :=
  let (is, d) := d.pwr.spilled.foldl (fun r i => let (i, d) := r.2.spillUnit j i; (r.1 ++ [i], d)) ([], d)
  { d with pwr := { d.pwr with spilled := is, spillNext := some (j + 1) } }

/-- Abandon a spill: no image is left (R283). -/
def Dev.spillDrop (d : Dev) : Dev := { d with pwr := { d.pwr with spilled := [], spillNext := none } }

/-- The first of some pages whose block an image uses; with it, whether the erase of its block fails, or else its program. -/
def Dev.spillHit (d : Dev) (failing : List (Nat × Bool)) : Option (Nat × Bool) :=
  failing.find? (fun f => d.pwr.spilled.any (fun i => i.pages.any (fun q => decide (q / 2 ^ 13 = f.1 / 2 ^ 13))))

/-- Devices report failures: each marks its block, and the images move on, written anew; they are abandoned when one no longer fits (R283). -/
def Dev.spillMarks (d : Dev) (failing : List (Nat × Bool)) : Nat → Except Dev Dev
  | 0 => .ok d
  | n + 1 =>
    match d.spillHit failing with
    | none => .ok d
    | some (p, erase) =>
      let d := if erase then d.flBadBlock p 0x4009 8 else (d.undefPage p).flBadBlock p 0x4008 4
      if d.pwr.spilled.all (fun i => d.spillFits i.tenant i.count) then
        let is := d.pwr.spilled.map (fun i => d.spillImage i.tenant i.ents)
        (is.foldl Dev.spillOpen { d with pwr := { d.pwr with spilled := is, spillNext := some 0 } }).spillMarks failing n
      else .error (d.spillDrop.logC 0x400D (flNode 0))

/-- The last steps of R283: the seals are programmed, the table is stored where marks are new, and the images are valid. -/
def Dev.spillSeal (d : Dev) : Dev :=
  let d := d.pwr.spilled.foldl (fun d i => d.programPage i.tail (i.mark true)) d
  let d := if d.flash.bbtDirty then d.storeBbt else d
  { d with flash := { d.flash with spillValid := true }, pwr := { d.pwr with spillNext := none } }

/-- Whether a range lies within one of the entries. -/
def covered (es : List SpillEnt) (a n : Nat) : Bool := es.any (fun e => decide (e.addr ≤ a ∧ a + n ≤ e.addr + e.len))

/-- The spill begins: the list is checked as a whole (R238), the images laid out under a new generation and opened. What the keep list saved outside every
spilled range is lost (R355). -/
def Dev.spillBegin (d : Dev) : Except Dev Dev :=
  let n := min (d.regN Reg.MT_SPILL_COUNT) 4096
  if n ≠ 0 && !d.dramReady then .error (d.notReady (nodeOf 0 1))
  else
    let (d, es) := d.spillCheck n 0
    let of := fun t => (es.filter (fun e => decide (e.tenant = t))).map (fun e => (e.addr, e.len))
    let ts := (List.range 8).filter (fun t => !(of t).isEmpty)
    if ts.any (fun t => !d.spillFits t ((((of t).map (·.2)).sum + 16383) / 16384)) then
      .error ((d.orReg Reg.MT_STAT 8).logC 0x3011 (nodeOf 0 1))
    else
      let d := { d with flash := { d.flash with spillValid := false },
                        pwr := { d.pwr with spillGen := d.pwr.spillGen + 1, spillNext := some 0,
                                            keep := d.pwr.keep.filter (fun e => covered es e.dram e.len) } }
      let is := ts.map (fun t => d.spillImage t (of t))
      .ok (is.foldl Dev.spillOpen { d with pwr := { d.pwr with spilled := is } })

/-! ## Entry (R352, R353) -/

/-- The entry steps of a state (Table 15-3). -/
def entrySteps (target : Nat) : Nat := [0, 1, 4, 8, 7, 5].getD target 0

/-- The deepest state whose steps are complete. -/
def deepest (step : Nat) : Nat := if step = 0 then 0 else if step < 4 then 1 else 2

/-- The steps that the present state has already taken towards a deeper one. -/
def stepsTaken (now target : Nat) : Nat :=
  if now = 3 then (if target = 4 then 5 else 4) else if now = 2 then 4 else if now = 1 then 1 else 0

/-- The entry begins: the edge does not occur and the packed table never runs (R352). -/
def Dev.beginEntry (d : Dev) (target : Nat) : Dev :=
  let d := (d.cancelNext.fldReg Reg.PW_STAT 4 3 target).orReg Reg.PW_STAT 0x100
  { d with pwr := { d.pwr with req := none, step := stepsTaken d.pstate target, wakeSeen := false, wakeTick := false },
           tick := { d.tick with slipDue := none, held := false } }

/-- The controllers after S3, or after an entry to S3 that ends once they have dozed: every bank refreshed, the flash interface in use again (R263,
R285). -/
def Dev.undoze (d : Dev) : Dev :=
  let d := d.dramWake
  { d with flash := { d.flash with iface := d.flash.iface.map (fun i => if i = FlIface.idle then .nvLpddr4 else i) } }

/-- End an entry before its state is reached (R353): back to S0 through the exit of the deepest state, or at once. -/
def Dev.endEntry (d : Dev) (flag : Nat) : Dev :=
  let d := if 6 ≤ d.pwr.step ∧ fld (d.reg Reg.PW_STAT) 4 3 = 3 then d.undoze else d
  let deep := max d.pstate (deepest d.pwr.step)
  let d := ((d.clrReg Reg.PW_STAT 0x170).orReg Reg.PW_WAKE_SRC flag).fldReg Reg.PW_STAT 0 3 deep
  let d := { d with pwr := { d.pwr with wakeNs := if d.pwr.wakeSeen then d.pwr.wakeNs else d.nowNs } }
  if deep = 0 then
    { d with pwr := { d.pwr with wakeSeen := false, step := 0, firstEdge := some d.nowNs, wakeNs := d.nowNs },
             tick := { d.tick with started := false } }
  else d.orReg Reg.PW_STAT 0x200

/-- What remains through S4 of the registers (Table 15-5): the retention set, and the calibration fuses. -/
def retainS4 (off : Nat) : Bool :=
  decide ((0x20000 ≤ off ∧ off < 0x20060) ∨ (0x20100 ≤ off ∧ off < 0x20140) ∨ (0x20200 ≤ off ∧ off < 0x20428)
    ∨ off = 0x30018 ∨ (0x30100 ≤ off ∧ off < 0x30128) ∨ off = 0x30300 ∨ (0x30340 ≤ off ∧ off < 0x30600) ∨ off = 0x10000 ∨ off = 0x10004
    ∨ off = 0x208000 ∨ (0x200000 ≤ off ∧ off < 0x208000 ∧ off % 0x1000 < 12)
    ∨ off = 0x300000 ∨ off = 0x300048 ∨ (0x301000 ≤ off ∧ off < 0x301100) ∨ (0x302000 ≤ off ∧ off < 0x302400 ∧ off % 0x40 < 8)
    ∨ (0x3840C0 ≤ off ∧ off < 0x3840CC) ∨ (0x380200 ≤ off ∧ off < 0x3802A0))

/-- What remains through S5: the always-on set, and the calibration fuses. -/
def retainS5 (off : Nat) : Bool :=
  decide ((0x20000 ≤ off ∧ off < 0x20030) ∨ off = 0x30018 ∨ off = 0x30300 ∨ (0x30340 ≤ off ∧ off < 0x30600))

/-- The core without its supplies: everything outside the kept set is as after PORST_N, DRAM undefined (Table 15-2, R360). -/
def Dev.powerDown (d : Dev) (deep : Bool) : Dev :=
  let keep := if deep then retainS5 else retainS4
  let d := d.flashCut
  let f := d.flash
  let d' := { Dev.reset with
    nowNs := d.nowNs, porstNs := d.porstNs, freeCtr := d.freeCtr
    regs := d.regs.filter (fun e => keep e.1)
    tick := { TickSt.reset with
      count := d.tick.count, ctrlUse := if deep then 4 else d.reg Reg.TK_CTRL,
      periodUse := if deep then 10000 else d.tick.periodUse, pctUse := if deep then 92 else d.tick.pctUse }
    dram := { DramSt.reset with started := !deep && d.dram.started, powered := false }
    flash := { FlashSt.reset with cells := f.cells, undef := f.undef, started := !deep && f.started, spillValid := !deep && f.spillValid,
                                  iface := (List.range 16).map (fun c => if !deep && decide (c = 0) then .sdr else .off) }
    sec := { d.sec with prov := if deep then 0 else d.sec.prov }
    host := { HostSt.reset with linkUp := false, linkL23 := d.host.pmeReq }
    boot := { BootSt.reset with cold := deep }
    pwr := { PwrSt.reset with
      heldReq := d.pwr.heldReq, keep := if deep then [] else d.pwr.keep, spilled := if deep then [] else d.pwr.spilled,
      spillGen := if deep then 0 else d.pwr.spillGen, opUse := if deep then opReset else d.pwr.opUse,
      phaseUse := if deep then PwrSt.reset.phaseUse else d.pwr.phaseUse }
    pins := { d.pins with corePwr := false, dramPwr := false, flashPwr := !deep, dramRstN := false, wpN := !deep } }
  let d' := d'.scramble 0 (2 ^ 35)
  (if deep then d' else d'.setReg Reg.RB_STAT 0).loseTiles

/-- How an entry step goes: not possible now, refused with the entry, a part of it done, or all of it. -/
inductive EntryRes where
  | waits
  | refused (d : Dev)
  | part (d : Dev)
  | done (d : Dev)

/-- A step that is done or refuses the entry. -/
def EntryRes.of : Except Dev Dev → EntryRes
  | .ok d => .done d
  | .error d => .refused d

/-- The spill as a step of S4's entry (R237, R238, R283), one data unit of every tenant at a time, so that a wake event is seen between them (R353).
`failing` names pages whose program or, with `true`, whose block's erase fails. -/
def Dev.spillStep (d : Dev) (failing : List (Nat × Bool)) : EntryRes :=
  match (match d.pwr.spillNext with | none => d.spillBegin | some _ => .ok d) with
  | .error d => .refused d
  | .ok d =>
    match d.spillMarks failing failing.length with
    | .error d => .refused d
    | .ok d =>
      let j := d.pwr.spillNext.getD 0
      if d.pwr.spilled.all (fun i => decide (i.count ≤ j)) then .done d.spillSeal else .part (d.spillUnits j)

/-- Whether every plan step and codec block has ended and no REQ flit is in flight (Table 15-3 step 2). -/
def Dev.quiet (d : Dev) : Bool :=
  let p := d.plan
  p.steps.isEmpty && p.wait.isEmpty && p.ops.isEmpty && p.blks.isEmpty && p.sends.isEmpty && p.etx.isEmpty &&
  !(d.fab.inflight.any (fun f => decide (tagCls f.tag = 2)))

/-- The controllers before S3: the DRAM doze, the flash interface idle, the cached tables lost (R263, R285, R303). -/
def Dev.doze (d : Dev) : Dev :=
  let d := d.dramDoze
  { d with flash := { d.flash with iface := d.flash.iface.map (fun i => if i = FlIface.nvLpddr4 then .idle else i) }, plan := { d.plan with caches := [] } }

/-- One entry step (Table 15-3). -/
def Dev.entryStep (d : Dev) (target : Nat) (failing : List (Nat × Bool)) : EntryRes :=
  match d.pwr.step + 1 with
  | 1 => .done { d with pwr := { d.pwr with gatedNs := some d.nowNs } }
  | 2 => if d.quiet then .done d else .waits
  | 3 => .done (d.unload (fun _ => true))
  | 4 => .done (d.setFclk 200)
  | 5 => if target = 5 then .done (d.powerDown true) else .of d.keepSave
  | 6 => if target = 4 then d.spillStep failing else .done d.doze
  | 7 => if target = 4 then .done (d.powerDown false) else .done { d with pwr := { d.pwr with pllLocked := false } }
  | 8 =>
    let v := (d.pwr.opUse.getD 15 (8, 110)).2 * 5
    .done { (if d.pstate = 3 then d else d.loseTiles) with pwr := { d.pwr with volt := v }, pins := { d.pins with avsMv := v } }
  | _ => .waits

/-- The state is reached: the registers show it and the wake timer starts (Table 15-4). -/
def Dev.arriveIn (d : Dev) (target : Nat) : Dev :=
  let d := (d.clrReg Reg.PW_STAT 0x170).fldReg Reg.PW_STAT 0 3 target
  { d with pwr := { d.pwr with enterNs := d.nowNs, step := 0, wakeSeen := false } }

/-- Take at most `n` further steps of the entry in progress, a data unit of the spill counting as one (R352, R353). -/
def Dev.runEntry (d : Dev) (failing : List (Nat × Bool)) : Nat → Dev
  | 0 => d
  | n + 1 =>
    let target := fld (d.reg Reg.PW_STAT) 4 3
    if !d.entering then d
    else if d.pwr.wakeSeen then d.spillDrop.endEntry 0x10000
    else
      let k := d.pwr.step + 1
      match d.entryStep target failing with
      | .waits => d
      | .refused d => d.endEntry 0x20000
      | .part d => d.runEntry failing n
      | .done d =>
        if entrySteps target ≤ k then d.arriveIn target
        else ({ d with pwr := { d.pwr with step := k } }).runEntry failing n

/-- Whether the entry to a requested state may begin now (R352). -/
def Dev.mayEnter (d : Dev) : Bool := !d.tableRunning && (decide (1 ≤ d.pstate) || d.edgeDue || d.noEdge)

/-- What an entry changes outside the core: the service ports stop (R464), and below S3 the thermal unit is off (R393). -/
def State.stopUnits (s : State) (before : Dev) : State :=
  let p := s.dev.pstate
  if p = before.pstate ∨ p < 3 then s
  else if p = 3 then s
  else
    let du := fld (before.reg (Reg.FAN_PT 0)) 16 7
    { s with sp := SpSt.reset,
             th := { ThSt.reset with active := if p = 4 then s.th.active else thReset, duty := du, target := du,
                                     tripped := s.th.tripped, sampled := s.th.sampled, lastNs := s.dev.nowNs, winNs := s.dev.nowNs } }

/-- STATE_ENTRY: a requested state's entry begins, or goes on, by at most `n` steps (R352). -/
def execStateEntry (n : Nat) (failing : List (Nat × Bool)) (s : State) : Answer :=
  s.run fun s =>
    let d := s.dev.promote
    let d := match d.pwr.req with
      | some v => if !d.entering && !d.exiting && d.mayEnter then d.beginEntry v else d
      | none => d
    ({ s with dev := d.runEntry failing n }).stopUnits s.dev

/-! ## Wake events (Table 15-4) -/

/-- WAKE_PIN: WAKE0_N or WAKE1_N low for two periods (R357). -/
def execWakePin (pin : Bool) (s : State) : Answer := s.runDev fun d => d.wakeBy (if pin then 4 else 3) 5 false

/-- SP0_BREAK_WAKE: SP0 RX low for 32 periods (R357). -/
def execSp0BreakWake (s : State) : Answer := s.runDev fun d => d.wakeBy 5 5 false

/-- WAKE_TIMER: PW_WAKE_TIMER periods after the entry completed (R357). -/
def execWakeTimer (s : State) : Answer :=
  s.runDev fun d =>
    if 1 ≤ d.pstate ∧ d.regN Reg.PW_WAKE_TIMER * 1000000000 ≤ (d.nowNs - d.pwr.enterNs) * 32768 then d.wakeBy 6 5 false else d

/-! ## Exit (R357 to R361) -/

/-- The bound from a wake to the first edge in ns (R37). -/
def exitBound (p : Nat) : Nat := [0, 200, 2000, 20000, 200000, 2000000].getD p 0

/-- Apply a reset that waited for an exit to end (R359): its cause and SKIP_TABLE. -/
def Dev.lateReset (d : Dev) (env : BootEnv) : Dev :=
  match d.pwr.resetAfter with
  | some k =>
    (({ d with pwr := { d.pwr with resetAfter := none } }).coreReset (decide (k % 8 = 1 ∨ k % 8 = 3))).bootStart (k % 8) (decide (8 ≤ k)) env
  | none => d

/-- The part is back in S0 and its first edge is owed (R357). -/
def Dev.backInRun (d : Dev) (p : Nat) : Dev :=
  let d := d.clrReg Reg.PW_STAT 0x207
  { d with pwr := { d.pwr with wakeSeen := false, exitFrom := p, firstEdge := some (d.pwr.wakeNs + exitBound p), gatedNs := none,
                               step := 0, spoiled := true, hist := [] },
           tick := { d.tick with started := false, held := false, slipDue := none, edgeNs := d.nowNs, timerNs := d.nowNs, cur := [] } }

/-- STATE_EXIT: the exit of the present state runs (R357, R358, R360). -/
def Dev.stateExit (d : Dev) (env : BootEnv) : Dev :=
  let p := d.pstate
  let d := d.backInRun p
  if p ≤ 2 then
    let f := (d.pwr.opUse.getD (fld (d.reg Reg.CAP_STAT) 0 4) (8, 110)).1 * 25
    ((d.setFclk f).lateReset env).promote
  else if p = 3 then
    ((d.undoze.keepRestore.bar2Flush.atOp15).lateReset env).promote
  else
    let d := { d with pins := { d.pins with corePwr := true, dramPwr := true, flashPwr := true },
                      host := { d.host with linkUp := true, linkL23 := false }, flash := { d.flash with iface := List.replicate 16 .sdr } }
    if p = 4 then
      let d := d.clrReg Reg.PW_STAT 0x400
      let d := d.genKeys (List.range 8) env.entropyFail
      let d := { d with pins := { d.pins with dramRstN := d.dram.started },
                        dram := { d.dram with powered := true, training := d.dram.started, fromS4 := d.dram.started, startNs := d.nowNs },
                        flash := { d.flash with busy := d.flash.started },
                        pwr := { d.pwr with restoring := !d.pwr.keep.isEmpty } }
      let d := if d.dram.started && decide (fld (d.reg Reg.DR_GCFG) 0 3 = 7) then (List.range 8).foldl (fun d k => d.trainFail k) d else d
      d.atOp15.promote
    else
      let d := { d with dram := { d.dram with powered := true } }
      let d := d.bootStart 5 false env
      d.lateReset env

/-- STATE_EXIT: once a wake event has been detected, the exit runs (R357). -/
def execStateExit (env : BootEnv) (s : State) : Answer := s.runDev fun d => if d.exiting then d.stateExit env else d

/-- Write back those pieces of a unit's plaintext that belong to a restored entry. -/
def Dev.putRanges (d : Dev) (keep : List (Nat × Nat)) : List (Nat × Nat) → List Byte → Dev
  | [], _ => d
  | (a, n) :: rs, bs =>
    (if keep.any (fun e => decide (e.1 ≤ a ∧ a + n ≤ e.1 + e.2)) then d.writeDram a 5 (bs.take n) .ok else d).putRanges keep rs (bs.drop n)

/-- Read the data units of an image (R284), a page event for each: those that fail, the events left. One that fails is logged as R234 names it. -/
def Dev.readSpilled (d : Dev) : List SpillUnit → List PageEv → List SpillUnit × List PageEv × Dev
  | [], evs => ([], evs, d)
  | u :: us, evs =>
    let (x, d) := d.readPage u.page false (evs.headD (.decodes 0 0))
    let d := if x.isSome then d else d.logS 0x4007 { d.flAt (pgCh u.page) with tenant := some u.tenant, detail := u.page }
    let (bad, evs, d) := d.readSpilled us evs.tail
    (if x.isSome && u.good then (bad, evs, d) else (u :: bad, evs, d))

/-- Restore one image (R239, R284): nothing of it unless its descriptor and seal read correctly and agree with each other and the generation kept; of
its ranges those of which every unit was read. -/
def Dev.restoreImage (d : Dev) (evs : List PageEv) (i : SpillImage) : List PageEv × Dev :=
  let (h, d) := d.readPage i.head false (evs.headD (.decodes 0 0))
  let (t, d) := d.readPage i.tail false (evs.tail.headD (.decodes 0 0))
  let evs := evs.drop 2
  if h.isNone || t.isNone || decide (i.gener ≠ d.pwr.spillGen ∨ i.count ≠ i.units.length) then
    (evs, d.logS 0x400E { d.flAt (pgCh i.head) with tenant := some i.tenant })
  else
    let (bad, evs, d) := d.readSpilled i.units evs
    let keep := i.ents.filter (fun e => !(bad.any (fun u => u.ranges.any (fun r => decide (e.1 ≤ r.1 ∧ r.1 < e.1 + e.2)))))
    (evs, i.units.foldl (fun d u => d.putRanges keep u.ranges u.data) d)

/-- DRAM_READY_EVENT: training and the spill restore are done after an exit from S4; the keep list is restored (R361).
`evs` are what the reads of the images' pages meet, in order. -/
def execDramReadyEvent (evs : List PageEv) (s : State) : Answer :=
  s.runDev fun d =>
    if d.pwr.exitFrom = 4 ∧ d.pstate = 0 ∧ bit (d.reg Reg.PW_STAT) 10 = false ∧ d.dram.ready = true ∧
       (d.flash.ready = true ∨ d.pwr.spilled.isEmpty = true) then
      let d := (d.pwr.spilled.foldl (fun r i => r.2.restoreImage r.1 i) (evs, d)).2
      let d := { d with pwr := { d.pwr with spilled := [] }, flash := { d.flash with spillValid := false } }
      ((d.orReg Reg.PW_STAT 0x400).keepRestore).lateReset .ok
    else d

/-! ## Operating points (R362, R365, R366) -/

/-- A write of OP_COMMIT (R362). -/
def Dev.opCommit (d : Dev) (v : Word) : Dev :=
  if bit v 0 then { d.orReg Reg.OP_STAT 1 with pwr := { d.pwr with opPend := true } } else d

/-- OP_COMMIT: the shadow OP table waits for the next edge (R362). -/
def execOpCommit (v : Word) (s : State) : Answer := s.runDev fun d => d.opCommit v

/-- The entry of an operating point in use: FREQ and VOLT. -/
def Dev.opEntry (d : Dev) (i : Nat) : Nat × Nat := d.pwr.opUse.getD i (8, 110)

/-- The operating point in force, and the one announced. -/
def Dev.opNow (d : Dev) : Nat := fld (d.reg Reg.CAP_STAT) 0 4
def Dev.opAnn (d : Dev) : Nat := fld (d.reg Reg.CAP_STAT) 4 4

/-- PLL_LOCK: the idle PLL locks; FCLK leaves the bypass where a thermal level put it there, and the PLL that is then idle locks to the
announced frequency (R365). -/
def execPllLock (s : State) : Answer :=
  s.runDev fun d =>
    let p := d.pwr
    if p.pllLocked ∨ 2 < d.pstate then d
    else if d.pstate ≠ 2 ∧ p.fclk ≠ p.pll ∧ p.pll = (d.opEntry d.opNow).1 * 25 then
      let d := d.setFclk p.pll
      { d with pwr := { d.pwr with pll := d.tick.annFclk, pllLocked := decide (p.pll = d.tick.annFclk) } }
    else { d with pwr := { p with pllLocked := true } }

/-- AVS_READBACK: SETTLE_US after a raise the rail is read back in mV (R366). -/
def execAvsReadback (mv : BitVec 16) (s : State) : Answer :=
  s.runDev fun d =>
    match d.pwr.avsWait with
    | some (t, since) =>
      if since + fld (d.reg Reg.AVS_CFG) 0 8 * 1000 ≤ d.nowNs then
        let d := d.fldReg Reg.AVS_STAT 0 16 mv.toNat
        if t ≤ mv.toNat + 10 then { d with pwr := { d.pwr with avsWait := none, avsHeld := false } } else d
      else d
    | none => d

/-- AVS_TIMEOUT: 1 ms after a raise without success, or the third failed retry of a frame: the table runs at OP15 (R366). -/
def execAvsTimeout (retries : Bool) (s : State) : Answer :=
  s.runDev fun d =>
    match d.pwr.avsWait with
    | some (_, since) =>
      if retries ∨ since + 1000000 ≤ d.nowNs then
        let d := ((d.orReg Reg.AVS_STAT 0x20000).logC 0x7007 nodePower).fldReg Reg.CAP_STAT 4 4 15
        { d with pwr := { d.pwr with avsWait := none, avsHeld := false, pll := (d.opEntry 15).1 * 25, pllLocked := false } }
      else d
    | none => d

/-! ## Droop (R372) -/

/-- The temperature that a tile's droop trim uses, in quarters of a degree: its block's sensor, else the chip's (R373, R378). -/
def ThSt.tileTemp (th : ThSt) (t : Nat) : Int := (medianOf (th.hist.getD (t % 8 / 2 + 4 * (t / 16)) [])).getD th.theta

/-- A droop trim between its fused points at −10, 40 and 95 °C, in 1/220 of a 200th of its unit (R378). -/
def trimAt (w : Word) (q : Int) : Int :=
  let o := fun i => sgn (fld w (10 * i) 10) 10
  if q ≤ 160 then 220 * (200 * o 0 + (o 1 - o 0) * (q + 40)) else 200 * (220 * o 1 + (o 2 - o 1) * (q - 160))

/-- Whether a tile's rail, in mV, lies below its droop threshold (R378). -/
def droops (d : Dev) (th : ThSt) (t mv : Nat) : Bool :=
  let base : Int := ((d.opEntry d.opNow).2 * 5 : Nat) - (fld (d.reg Reg.TH_DROOP) 0 8 : Nat)
  decide ((mv : Int) * 176000 < base * 176000 + trimAt (d.reg (Reg.CAL_DROOP t)) (th.tileTemp t))

/-- DROOP_DETECT: a tile's VDD_CORE, in mV, falls below its threshold: the tile is stretched until HOLD cycles after it clears. -/
def execDroopDetect (t : Fin 64) (mv : Nat) (s : State) : Answer :=
  s.run fun s =>
    let d := s.dev
    if d.pstate ≤ 2 ∧ droops d s.th t mv = true then
      let d := (d.incReg Reg.DROOP_CNT 1).logOnce 0x700A 0 nodePower
      { s with dev := (d.retimeTile t).updTile t (fun ts => { ts with droopUntil := d.nowNs + d.regN Reg.DROOP_CTRL * 1000 / d.fclk }) }
    else s

end Sys2Proof.Machine
end

