-- ==== Sys2Proof/Machine/Sec.lean ====
section
/-! DEFINITION. The security unit (chapter 17): the stand map, Clearing, the key slots and the fuses. -/

namespace Sys2Proof.Machine

/-! ## The stand map (R395) -/

/-- A write of SEC_STAND_CMD: GO makes the request pending; a GO while one is pending is dropped. -/
def Dev.standGo (d : Dev) (v : Word) : Dev :=
  if !bit v 0 || d.sec.standPend then d
  else
    let r := d.reg Reg.SEC_STAND_REQ
    { d with sec := { d.sec with standPend := true, standReq := (List.range 8).map (fun i => fld r (3 * i) 3) } }

/-- SEC_STAND_GO: a write of SEC_STAND_CMD (R395). -/
def execSecStandGo (v : Word) (s : State) : Answer := s.runDev fun d => d.standGo v

/-- The rows of a tenant in a map. -/
def rowsOf (m : List Nat) (t : Nat) : List Nat := (List.range 8).filter (fun r => decide (m.getD r 0 = t))

/-- Whether rows are contiguous. -/
def contiguous : List Nat → Bool
  | a :: b :: rest => decide (b = a + 1) && contiguous (b :: rest)
  | _ => true

/-- Whether a tenant has an enabled session. -/
def Dev.hasSession (d : Dev) (t : Nat) : Bool :=
  d.regs.any (fun e => decide (0x14000 ≤ e.1 ∧ e.1 < 0x18000) && bit e.2 15 && decide (fld e.2 12 3 = t))

/-- Whether a tenant's set of rows may change (R395). -/
def Dev.mayMove (d : Dev) (t : Nat) : Bool :=
  !d.hasSession t && decide (d.sec.clear.getD t .idle = .idle) && (d.sec.cleared.getD t false || !(d.sec.lastRun.getD t false))

/-- The tenants whose rows a map changes. -/
def Dev.moved (d : Dev) (m : List Nat) : List Nat := (List.range 8).filter (fun t => decide (d.standRows t ≠ rowsOf m t))

/-- The DRAM of rows that change hands or places: its old contents are not meaningful (R215). -/
def Dev.remap (d : Dev) (ts : List Nat) (m : List Nat) : Dev :=
  (List.range 8).foldl (fun d r =>
    if (ts.contains (d.rowTenant r) || ts.contains (m.getD r 0)) && decide (0 < d.cch) then d.scramble (r * d.cch) ((r + 1) * d.cch)
    else d) d

/-- The check of a pending request at an edge (R395); with several stands the Hertia ports go down (R306). -/
def Dev.standEdge (d : Dev) : Dev :=
  if !d.sec.standPend then d
  else
    let m := d.sec.standReq
    let d := { d with sec := { d.sec with standPend := false } }
    let ts := d.moved m
    if (List.range 8).all (fun t => contiguous (rowsOf m t)) && ts.all d.mayMove then
      let d := d.remap ts m
      let d := { d with fab := { d.fab with stand := m } }
      if d.multi && d.anyUp then
        (d.logC 0x600B (nodeOf 2 0)).dropPorts
      else d
    else (d.orReg Reg.SEC_STAND_STAT 2).logC 0x8002 nodeSec

/-! ## Clearing (R406 to R409) -/

/-- Take a tenant's instances out of the table that has not started (R406). -/
def Dev.unpack (d : Dev) (t : Nat) : Dev :=
  let d := (d.tick.nxt.filter (fun x => decide (x.tenant = t))).foldl (fun d x => d.unreserveAll x) d
  { d with tick := { d.tick with nxt := d.tick.nxt.filter (fun x => decide (x.tenant ≠ t)) } }

/-- Request a Clearing with its flags ([0] ROTATE_DRAM, [1] ROTATE_SPILL, [2] ZERO_FILL). -/
def Dev.clearAsk (d : Dev) (t fl : Nat) : Dev :=
  if d.sec.clear.getD t .idle ≠ .idle then d.logT 0x8003 nodeSec t
  else
    ({ d with sec := { d.sec with clear := setAt d.sec.clear t .waiting, clearFl := setAt d.sec.clearFl t fl } }).unpack t

/-- A write of SEC_CLEAR (R406). -/
def Dev.clearWrite (d : Dev) (v : Word) : Dev := if bit v 31 then d.clearAsk (fld v 0 3) (fld v 8 3) else d

/-- CLEARING_REQUEST: a write of SEC_CLEAR (R406, R409). -/
def execClearingRequest (v : Word) (s : State) : Answer := s.runDev fun d => d.clearWrite v

/-- Whether nothing of a tenant remains under way (R406). -/
def Dev.tenantIdle (d : Dev) (t : Nat) : Bool :=
  !(d.tick.cur.any (fun x => x.alive && decide (x.tenant = t))) &&
  !(d.plan.steps.any (fun p => decide (p.tenant = t))) && !(d.plan.wait.any (fun p => decide (p.tenant = t))) &&
  !(d.plan.ops.any (fun o => decide (o.tenant = t))) && !(d.plan.blks.any (fun b => decide (b.tenant = t))) &&
  !(decide (d.pwr.exitFrom = 4) && d.pwr.spilled.any (fun i => decide (i.tenant = t)))

/-- CLEARING_ACCEPT: the tenant is idle, no transition runs and FCLK does: BUSY, and the stand is quiesced and re-keyed (R406, R407).
A rotation may get no key (R405). -/
def execClearingAccept (t : ClearEv) (s : State) : Answer :=
  s.runDev fun d =>
    let (t, entropyFail) := (t.tenant.val, t.entropyFail)
    if d.sec.clear.getD t .idle = .waiting ∧ d.tenantIdle t = true ∧ d.entering = false ∧ d.exiting = false ∧ d.pstate ≤ 2 then
      ({ d with sec := { d.sec with clear := setAt d.sec.clear t .busy, clearNs := setAt d.sec.clearNs t d.nowNs } }).clearQuiesce t entropyFail
    else d

/-- CLEARING_RELEASE: the scrub and any fill end (R407, R408); an FLR that waited for it completes (R422). -/
def execClearingRelease (t : Fin 8) (s : State) : Answer :=
  s.runDev fun d => if d.sec.clear.getD t .idle = .busy then (d.clearScrub t).clearRelease t else d

/-- SEC_CLEAR_STAT as it reads (Table 17-9). -/
def Dev.clearStat (d : Dev) : Nat :=
  (List.range 8).foldl (fun n t => n + (match d.sec.clear.getD t .idle with | .idle => 0 | .waiting => 2 ^ (8 + t) | .busy => 2 ^ t))
    (fld (d.reg Reg.SEC_CLEAR_STAT) 16 8 * 65536)

/-! ## Key slots (R402 to R405) -/

/-- A refused or failed key command (R403). -/
def Dev.keyFail (d : Dev) (code : Nat) : Dev :=
  ((d.orReg Reg.SEC_KEY_STAT 0x20000).setReg Reg.SEC_KEY_ERR (w32 code)).raise code (atNode nodeSec)

/-- Whether the tenant of a slot keeps its key from changing (R403). -/
def Dev.keyHeld (d : Dev) (slot : Nat) : Bool :=
  d.hasSession (slot % 8) || d.tick.cur.any (fun x => x.alive && decide (x.tenant = slot % 8)) ||
  d.plan.steps.any (fun p => decide (p.tenant = slot % 8)) ||
  (decide (8 ≤ slot) && ((d.entering && decide (fld (d.reg Reg.PW_STAT) 4 3 = 4)) ||
    (decide (d.pwr.exitFrom = 4) && d.pwr.spilled.any (fun i => decide (i.tenant = slot % 8)))))

/-- GENERATE (R403, R405). -/
def Dev.keyGen (d : Dev) (slot : Nat) (entropyFail : Bool) : Dev :=
  if d.keyHeld slot then d.keyFail 0x8004
  else if entropyFail then d.keyFail 0x8007
  else d.rotate slot false

/-- The blob in SEC_KEY_WRAP. -/
def Dev.blob (d : Dev) : BitVec 576 := BitVec.ofNat 576 (leNat ((List.range 18).flatMap (fun i => leBytes 4 (d.regN (Reg.SEC_KEY_WRAP i)))))

/-- UNWRAP (R403, R404). -/
def Dev.keyUnwrap (d : Dev) (slot : Nat) : Dev :=
  if d.keyHeld slot then d.keyFail 0x8004
  else match Config.keyUnwrap d.blob with
    | none => d.keyFail 0x8005
    | some k =>
      if fld k 0 256 = fld k 256 256 then d.keyFail 0x8006
      else
        let same := decide (d.sec.keys.getD slot 0 = k)
        let d := { d with sec := { d.sec with
          keys := setAt d.sec.keys slot k, prov := d.sec.prov ||| BitVec.ofNat 16 (2 ^ slot),
          unkeyed := d.sec.unkeyed.filter (fun n => decide (n ≠ slot)) } }
        if same then d else d.rekeyed slot

/-- EXPORT (R403, R404). -/
def Dev.keyExport (d : Dev) (slot : Nat) : Dev :=
  let b := (Config.keyWrap (d.sec.keys.getD slot 0)).toNat
  (List.range 18).foldl (fun d i => d.setReg (Reg.SEC_KEY_WRAP i) (w32 (b / 2 ^ (32 * i)))) d

/-- A write of SEC_KEY_CMD (R403); the commands complete within it. -/
def Dev.keyCmd (d : Dev) (v : Word) (entropyFail : Bool) : Dev :=
  match fld v 8 2 with
  | 1 => d.keyGen (fld v 0 4) entropyFail
  | 2 => d.keyUnwrap (fld v 0 4)
  | 3 => d.keyExport (fld v 0 4)
  | _ => d

/-- GENERATE: a slot is filled from the entropy source (R403). -/
def execKeyGenerate (slot : Fin 16) (entropyFail : Bool) (s : State) : Answer := s.runDev fun d => d.keyGen slot entropyFail

/-- UNWRAP: a blob is unwrapped into a slot (R404). -/
def execKeyUnwrap (slot : Fin 16) (s : State) : Answer := s.runDev fun d => d.keyUnwrap slot

/-- EXPORT: a slot's key is wrapped (R404). -/
def execKeyExport (slot : Fin 16) (s : State) : Answer := s.runDev fun d => d.keyExport slot

/-! ## Fuses (R412) -/

/-- A refused fuse action. -/
def Dev.fuseRefuse (d : Dev) : Dev := d.logC 0x800C nodeSec

/-- PROG_ROOT: refused when the hash is not blank, or LOCK is in effect. -/
def Dev.fuseRoot (d : Dev) : Dev :=
  if d.sec.rootHash ≠ 0 ∨ d.sec.lockUse = true then d.fuseRefuse
  else
    let h := leNat ((List.range 12).flatMap (fun i => leBytes 4 (d.regN (Reg.SEC_ROOT_W i))))
    { d with sec := { d.sec with rootHash := BitVec.ofNat 384 h } }

/-- LOCK: refused when the hash is blank. -/
def Dev.fuseLock (d : Dev) : Dev :=
  if d.sec.rootHash = 0 then d.fuseRefuse else { d with sec := { d.sec with lock := true } }

/-- DEBUG_DIS. -/
def Dev.fuseDebug (d : Dev) : Dev := { d with sec := { d.sec with debugDis := true } }

/-- ROLLBACK_INC: refused when the count would exceed the running image's. -/
def Dev.fuseRoll (d : Dev) : Dev :=
  if fld (d.reg Reg.SEC_BOOT_STAT) 1 7 < d.sec.rollback + 1 ∨ 64 ≤ d.sec.rollback then d.fuseRefuse
  else { d with sec := { d.sec with rollback := d.sec.rollback + 1 } }

/-- A write of SEC_FUSE_CMD: only with the key; its actions in the order of their bits. -/
def Dev.fuseCmd (d : Dev) (v : Word) : Dev :=
  if fld v 16 16 ≠ 0xF05E then d
  else
    let d := if bit v 0 then d.fuseRoot else d
    let d := if bit v 1 then d.fuseLock else d
    let d := if bit v 2 then d.fuseDebug else d
    if bit v 3 then d.fuseRoll else d

/-- PROG_ROOT: the root hash is programmed (R412). -/
def execProgRoot (s : State) : Answer := s.runDev fun d => d.fuseRoot

/-- LOCK: the LOCK fuse is set (R412). -/
def execFuseLock (s : State) : Answer := s.runDev fun d => d.fuseLock

/-- DEBUG_DIS: the DEBUG_DIS fuse is set (R412). -/
def execDebugDis (s : State) : Answer := s.runDev fun d => d.fuseDebug

/-- ROLLBACK_INC: the next rollback bit is blown (R412). -/
def execRollbackInc (s : State) : Answer := s.runDev fun d => d.fuseRoll

/-- SEC_FUSE_STAT as it reads: the fuses in effect; the device key is always present (Table 17-6). -/
def Dev.fuseStat (d : Dev) : Nat :=
  b2n d.sec.lockUse + 2 * b2n d.sec.dbgUse + 4 + 8 * b2n (decide (d.sec.rootUse ≠ 0))

end Sys2Proof.Machine
end

