-- ==== Sys2Proof/Machine/Host.lean ====
section
/-! DEFINITION. The host port (chapter 18): doorbells, ring contexts, BAR2, completions, interrupts and the function-level resets. -/

namespace Sys2Proof.Machine

/-! ## Sessions -/

/-- The attribute word of a session, and its tenant (Table 3-4). -/
def Dev.attr (d : Dev) (sid : Nat) : Word := d.reg (Reg.ATTR sid)
def Dev.sidTenant (d : Dev) (sid : Nat) : Nat := fld (d.attr sid) 12 3

/-- The composer's record of a session. -/
def Dev.sess (d : Dev) (sid : Nat) : SessSt := tabGet (fun _ => SessSt.zero) d.tick.sess sid

/-- Store it. -/
def Dev.setSess (d : Dev) (sid : Nat) (x : SessSt) : Dev :=
  { d with tick := { d.tick with sess := tabSet (fun _ => SessSt.zero) d.tick.sess sid x } }

/-- Whether an instance binds a session. -/
def Inst.binds (x : Inst) (sid : Nat) : Bool := x.bound.any (fun b => decide (b.sid = sid))

/-- RC_CFG.BUSY of a session's rings (R428). -/
def Dev.sessBusy (d : Dev) (sid : Nat) : Bool :=
  (d.sess sid).busy || d.tick.cur.any (fun x => x.alive && x.binds sid) || d.tick.nxt.any (·.binds sid)

/-- A write of a session attribute word (R58): ENABLE makes its rings busy. -/
def Dev.attrWrite (d : Dev) (sid : Nat) (v : Word) : Dev :=
  let d := d.setReg (Reg.ATTR sid) (v &&& 0xFF3F)
  if bit v 15 then d.setSess sid { d.sess sid with busy := true } else d

/-! ## Doorbells (R16, R425 to R427, R479) -/

/-- Whether a session stands in the list in use (R479). -/
def Dev.standing (d : Dev) (sid : Nat) : Bool := d.boot.autoUse.any (fun v => bit v 15 && decide (fld v 0 12 = sid))

/-- Drop a doorbell with a code and a bit of HI_STAT. -/
def Dev.dbDrop (d : Dev) (r code b : Nat) : Dev := (d.orReg Reg.HI_STAT b).logT code nodeHost (d.sidTenant (r / 4))

/-- The doorbells that are at least 1.2 µs old become visible (R16). -/
def Ring.settle (x : Ring) (now : Nat) : Ring :=
  let old := x.bells.filter (fun b => decide (b.1 + 1200 ≤ now))
  match old.getLast? with
  | some b => { x with visP := b.2.1, visC := b.2.2, bells := x.bells.filter (fun b => !decide (b.1 + 1200 ≤ now)) }
  | none => x

/-- A ring with the indices that an accepted doorbell gives it; they become visible later. -/
def Ring.rung (x : Ring) (now : Nat) (p c v : Word) : Ring :=
  let x := x.settle now
  { x with p := p, c := c, db := v, bells := x.bells ++ [(now, p, c)] }

/-- A write of ring `r`'s doorbell (R427, R429): checked against the present indices, then taken. -/
def Dev.doorbell (d : Dev) (r : Nat) (v : Word) : Dev :=
  let x := d.ring r
  let n := ringSize x
  if n = 0 ∨ x.bad = true ∨ x.ue = true then d.dbDrop r 0x9003 0
  else if d.standing (r / 4) then d.dbDrop r 0x9004 4
  else if r % 4 = 3 then
    if (x.p - x.c).toNat < (v - x.c).toNat then d.dbDrop r 0x9004 4
    else d.setRing r (x.rung d.nowNs x.p v v)
  else if n < (v - x.c).toNat ∨ n < (v - x.p).toNat then d.dbDrop r 0x9004 4
  else d.setRing r (x.rung d.nowNs v x.c v)

/-- An uncorrectable error in a ring's context: the ring counts as disabled and its session is marked (R485). -/
def Dev.ringUe (d : Dev) (r : Nat) : Dev :=
  ((d.setRing r { d.ring r with ue := true }).mark (r / 4)).logS 0x900B
    { atNode nodeHost with tenant := some (d.sidTenant (r / 4)) }

/-- The host's doorbell write: what the ring's context reads as, the check, and the wake event it is (R485, Table 15-4). -/
def Dev.dbWrite (d : Dev) (r : Nat) (v : Word) (ecc : SramEv) : Dev :=
  let d := match ecc with
    | .clean => d.doorbell r v
    | .corrected => (d.sramCe nodeHost).doorbell r v
    | .uncorrectable => d.ringUe r
  d.wakeBy 1 3 false

/-- What the virtual function of a tenant, or the PF (0), may reach of a session's registers (R416). -/
def Dev.fnSees (d : Dev) (fn sid : Nat) : Bool := decide (fn = 0) || decide (d.sidTenant sid = fn - 1)

/-- DOORBELL_WRITE: a function writes a ring's doorbell (R427). -/
def execDoorbellWrite (fn : Fin 9) (r : Fin 16384) (v : Word) (ecc : SramEv) (s : State) : Answer :=
  s.runDev fun d =>
    if 4 ≤ d.pstate then d
    else if d.booting || !d.fnSees fn (r / 4) then d.badAccess
    else d.dbWrite r v ecc

/-- A ring's indices become visible to the composer. -/
def Dev.dbSeen (d : Dev) (r : Nat) : Dev := d.setRing r { d.ring r with visP := (d.ring r).p, visC := (d.ring r).c, bells := [] }

/-- DOORBELL_VISIBLE: the new ring head becomes visible to the composer, within 1.2 µs of the write (R16). -/
def execDoorbellVisible (r : Fin 16384) (s : State) : Answer := s.runDev fun d => d.dbSeen r

/-! ## Ring contexts (R428) -/

/-- RC_CFG as a write leaves it for a kind: LOG2SIZE within its range, and VF set by a virtual function. -/
def cfgValue (kind fn : Nat) (v : Word) : Word :=
  let l := fld v 0 5
  let l' := if l = 0 then 0 else clampN 4 16 l
  if kind ≠ 3 then w32 l'
  else (v &&& 0x07FF7F00) ||| w32 l' ||| (if fn = 0 then 0 else 0x400)

/-- A write of a ring context: word 0 BASE_LO, 1 BASE_HI, 2 CFG; RC_IDX is read-only. A CFG write starts the indices anew (R426). -/
def Dev.ringWrite (d : Dev) (fn r k : Nat) (v : Word) : Dev :=
  if k = 3 then d
  else if d.sessBusy (r / 4) then (d.orReg Reg.HI_STAT 16).logT 0x9005 nodeHost (d.sidTenant (r / 4))
  else
    let x := d.ring r
    if k = 0 then d.setRing r { x with lo := v &&& 0xFFFFFFC0 }
    else if k = 1 then d.setRing r { x with hi := v }
    else
      let l := fld v 0 5
      let d := d.setRing r { x with cfg := cfgValue (r % 4) fn v, p := 0, c := 0, visP := 0, visC := 0, db := 0, bells := [], ue := false }
      if (1 ≤ l ∧ l ≤ 3) ∨ 16 < l then (d.orReg Reg.HI_STAT 8).logT 0x9006 nodeHost (d.sidTenant (r / 4)) else d

/-- RING_CONFIG_WRITE: a function writes word `k` of a ring's context (R428). -/
def execRingConfigWrite (fn : Fin 9) (r : Fin 16384) (k : Fin 4) (v : Word) (s : State) : Answer :=
  s.runDev fun d =>
    if 4 ≤ d.pstate then d
    else if d.booting || !d.fnSees fn (r / 4) then d.badAccess
    else d.ringWrite fn r k v

/-- A ring context as it reads. -/
def Dev.ringRead (d : Dev) (r k : Nat) : Word :=
  let x := d.ring r
  if k = 0 then x.lo else if k = 1 then x.hi
  else if k = 2 then x.cfg ||| (if d.sessBusy (r / 4) then 0x80000000 else 0)
  else if r % 4 = 3 then x.p else x.c

/-! ## Completions (R418, R430 to R437) -/

/-- The function that a completion ring's traffic belongs to. -/
def ringFn (x : Ring) (tenant : Nat) : Nat := if bit x.useCfg 10 then tenant + 1 else 0

/-- Issue an upstream write of a tenant, counted in RC_UP_TLP. -/
def Dev.upCount (d : Dev) (tenant : Nat) (x : UpTlp) : Dev := (d.incReg (Reg.RC_UP_TLP tenant) 1).upstream tenant x

/-- Cut bytes into TLPs of at most 512 bytes. -/
def chunk512 : Nat → List Byte → List (List Byte)
  | 0, _ => []
  | n + 1, bs => if bs.isEmpty then [] else bs.take 512 :: chunk512 n (bs.drop 512)

/-- One output descriptor (Table 18-6). -/
structure OutDesc where
  addr : Nat
  cap  : Nat
  len  : Nat
  host : Nat
  deriving DecidableEq, Repr

/-- The address of entry `i` of a ring (R426). -/
def ringAddr (x : Ring) (i : Nat) : Nat := ringBase x + 64 * (i % max (ringSize x) 1)

/-- What the host port reads of DRAM for a completion: the code of an uncorrectable error, which withholds the bytes and leaves free ones in
their place (R38, R258), and the bytes. -/
def Dev.portRead (d : Dev) (a n : Nat) : Option Nat × List Byte × Dev :=
  match d.readDram a n 0 none .ok with
  | (some c, d) => let (k, d) := d.draw; (some c, (List.range n).map (Config.heldByte k), d)
  | (none, d) => (none, d.dramBytes a n, d)

/-- How many descriptors of an output ring are visible: a doorbell is after 1.2 µs at the latest (R16); none of a ring that counts as
disabled (R429). -/
def Ring.seen (x : Ring) (now : Nat) : Nat :=
  if ringSize x = 0 ∨ x.bad = true ∨ x.ue = true then 0
  else ((x.settle now).visP - x.c).toNat

/-- What an output descriptor breaks (R433 step 2). -/
def Dev.outFault (d : Dev) (tenant : Nat) (o : OutDesc) : Option Nat :=
  if o.cap < o.len then some 0x9008
  else if d.inStand tenant o.addr o.len = false ∧ 0 < o.len then some 0x9009 else none

/-- The output descriptors at some places after C, checked in turn (R433 step 2): the first failure, and whether the read of the descriptor has
logged it already; or every descriptor. -/
def Dev.outScan (d : Dev) (sid tenant : Nat) : List Nat → Option (Nat × Bool) × List OutDesc × Dev
  | [] => (none, [], d)
  | i :: is =>
    let x := d.ring (ringId sid 2)
    match d.portRead (ringAddr x (x.c.toNat + i)) 64 with
    | (some c, _, d) => (some (c, true), [], d)
    | (none, b, d) =>
      let o : OutDesc := { addr := leAt b 0 8, cap := leAt b 8 4, len := leAt b 12 4, host := leAt b 16 8 }
      match d.outFault tenant o with
      | some c => (some (c, false), [], d)
      | none => let (f, os, d) := d.outScan sid tenant is; (f, o :: os, d)

/-- Copy outputs upstream (R433 step 3), up to one whose bytes are withheld (R38). -/
def Dev.copyOuts (d : Dev) (tenant fn : Nat) : List OutDesc → Option Nat × Dev
  | [] => (none, d)
  | o :: os =>
    if o.host = 0 ∨ o.len = 0 then d.copyOuts tenant fn os
    else match d.portRead o.addr o.len with
      | (some c, _, d) => (some c, d)
      | (none, bs, d) => (((chunk512 (o.len + 1) bs).zipIdx).foldl (fun d c =>
          d.upCount tenant (.mem fn (o.host + 512 * c.2) c.1)) d).copyOuts tenant fn os

/-- Send a ring's interrupt (R436, R437): a message that goes out is an upstream TLP of the tenant. -/
def Dev.ringMsi (d : Dev) (r tenant : Nat) : Dev :=
  let x := d.ring r
  let d' := (d.setRing r { x with since := 0 }).msi tenant (ringFn x tenant) (fld x.useCfg 16 11)
  if d'.host.upOut = d.host.upOut ∧ d'.host.upWait = d.host.upWait then d' else d'.incReg (Reg.RC_UP_TLP tenant) 1

/-- Count a completion for a ring's interrupt: sent at 2^CNT_LOG2, or at once without a timer (R436). -/
def Dev.coalesce (d : Dev) (r tenant : Nat) : Dev :=
  let x := d.ring r
  if !bit x.useCfg 9 then d
  else
    let d := d.setRing r { x with since := x.since + 1, firstNs := if x.since = 0 then d.nowNs else x.firstNs }
    if 2 ^ fld x.useCfg 11 4 ≤ x.since + 1 ∨ d.regN (Reg.RC_COAL_US tenant) = 0 then d.ringMsi r tenant else d

/-- Write the completion entry at index P and return the reservation (R432 to R434). -/
def Dev.writeCpl (d : Dev) (j : CplJob) (status nOut outBytes : Nat) (tag : Nat) (result : List Byte) : Dev :=
  let r := ringId j.bound.sid 3
  let x := d.ring r
  let phase := b2n (decide (x.p.toNat / max (ringSize x) 1 % 2 = 0))
  let e := leBytes 2 status ++ leBytes 1 (phase + 2 * b2n j.outside) ++ leBytes 1 nOut ++ leBytes 2 j.bound.sid ++ leBytes 1 j.bound.step ++
    leBytes 1 0 ++ leBytes 4 j.bound.cmdIdx ++ leBytes 4 j.tick ++ leBytes 8 tag ++ leBytes 4 outBytes ++ leBytes 4 d.timeUs ++ result
  let a := ringAddr x x.p.toNat
  let d := if bit x.useCfg 8 then d.upCount j.tenant (.mem (ringFn x j.tenant) a e) else d.writeDram a 0 e .ok
  let d := d.setRing r { d.ring r with p := x.p + 1, resv := x.resv - 1 }
  (d.incReg (Reg.RC_CPL_CNT j.tenant) 1).coalesce r j.tenant

/-- Advance C of a ring. -/
def Dev.consume (d : Dev) (r n : Nat) : Dev := d.setRing r { d.ring r with c := (d.ring r).c + w32 n }

/-- The completion of a slot of a committed instance (R433): `outs` and the checks, the copies, the entry and the indices. -/
def Dev.completeOk (d : Dev) (j : CplJob) : Dev :=
  let sid := j.bound.sid
  let (e, b, d) := d.portRead (ringAddr (d.ring (ringId sid 0)) j.bound.cmdIdx) 64
  let nIn := leAt b 4 1
  let nOut := leAt b 5 1
  let have_ := min nOut ((d.ring (ringId sid 2)).seen d.nowNs)
  let (f, ds, d) := match e with
    | some c => (some (c, true), [], d)
    | none => d.outScan sid j.tenant (List.range have_)
  let f := if f.isNone && decide (have_ < nOut) then some (0x9007, false) else f
  let (f, d) := match f with
    | some f => (some f, d)
    | none => match d.copyOuts j.tenant (ringFn (d.ring (ringId sid 3)) j.tenant) ds with
      | (some c, d) => (some (c, true), d)
      | (none, d) => (none, d)
  let d := match f with
    | some (c, logged) =>
      let d := d.mark sid
      if logged then d
      else (d.orReg Reg.HI_STAT 32).logS c { atNode nodeHost with tenant := some j.tenant, frag := j.frag, session := j.sid0 }
    | none => d
  let bytes := if f.isSome then 0 else (ds.map (·.len)).sum
  let d := d.writeCpl j ((f.map (·.1)).getD 0) nOut bytes (leAt b 8 8) ((b.drop 0x20).take 32)
  ((d.consume (ringId sid 0) 1).consume (ringId sid 1) nIn).consume (ringId sid 2) have_

/-- The completion of a halted or aborted session (R435). -/
def Dev.completeFail (d : Dev) (j : CplJob) : Dev :=
  let (_, b, d) := d.portRead (ringAddr (d.ring (ringId j.bound.sid 0)) j.bound.cmdIdx) 64
  d.writeCpl j j.status (leAt b 5 1) 0 (leAt b 8 8) (List.replicate 32 0)

/-- Write a completion that is due; none while its tenant's upstream queue of 8 KiB has no room for all that it issues (R419, R420). -/
def Dev.complete1 (d : Dev) (j : CplJob) : Option Dev :=
  let d := { d with host := { d.host with jobs := d.host.jobs.erase j } }
  let d := if j.status = 0 then d.completeOk j else d.completeFail j
  if d.host.queued j.tenant ≤ 8192 then some d else none

/-- Write the first completion, in commit order, whose tenant's queue does not hold it back; `held` are the tenants that wait (R420, R433). -/
def Dev.completeNext (d : Dev) (held : List Nat) : List CplJob → Dev
  | [] => d
  | j :: js =>
    if held.contains j.tenant then d.completeNext held js
    else match d.complete1 j with
      | some d => d
      | none => d.completeNext (j.tenant :: held) js

/-- COMPLETION_WRITE: the next completion due, in commit order, is written (R20, R433, R435). -/
def execCompletionWrite (s : State) : Answer := s.runDev fun d => d.completeNext [] d.host.jobs

/-- COALESCE_TIMER: RC_COAL_US after the first unsignalled completion of a ring (R436). -/
def execCoalesceTimer (r : Fin 16384) (s : State) : Answer :=
  s.runDev fun d =>
    let x := d.ring r
    let t := d.sidTenant (r / 4)
    if bit x.useCfg 9 && decide (0 < x.since) && decide (x.firstNs + d.regN (Reg.RC_COAL_US t) * 1000 ≤ d.nowNs) then d.ringMsi r t else d

/-! ## MSI-X (R437) -/

/-- Send every pending message of a function that nothing masks any more. -/
def Dev.msixFlush (d : Dev) (fn : Nat) : Dev :=
  (d.host.pba.filter (fun e => decide (e.1 / 2048 = fn))).foldl (fun d e =>
    if d.host.msixEn.getLsbD fn && !d.host.fmask.getLsbD fn && !bit (tabGet msixDef d.host.msix (e.1 * 4 + 3)) 0 then
      ({ d with host := { d.host with pba := tabSet falseB d.host.pba e.1 false } }).upstream (if fn = 0 then 8 else fn - 1) (.msi fn (e.1 % 2048))
    else d) d

/-- A write of word `k` of a function's MSI-X table. -/
def Dev.msixWrite (d : Dev) (fn k : Nat) (v : Word) : Dev :=
  let v := if k % 4 = 3 then v &&& 1 else if k % 4 = 0 then v &&& 0xFFFFFFFC else v
  ({ d with host := { d.host with msix := tabSet msixDef d.host.msix (fn * 8192 + k) v } }).msixFlush fn

/-- Set a function's bit of a mask. -/
def fnBit (m : BitVec 9) (fn : Nat) (b : Bool) : BitVec 9 :=
  if b then m ||| BitVec.ofNat 9 (2 ^ fn) else m &&& ~~~ BitVec.ofNat 9 (2 ^ fn)

/-- A function's MSI-X Enable, Function Mask and Bus Master Enable: held writes go out, the queues in turn, then held messages (R420, R437). -/
def Dev.fnConfig (d : Dev) (fn : Nat) (en fm bme : Bool) : Dev :=
  let h := d.host
  let d := { d with host := { h with msixEn := fnBit h.msixEn fn en, fmask := fnBit h.fmask fn fm, bme := fnBit h.bme fn bme } }
  let d := { d with host := d.host.turns h.upWait.length }
  d.msixFlush fn

/-- MSIX_UNMASK: the host changes a function's MSI-X table or its enables (R437). During a boot after PORST_N or PERST_N a configuration request is
answered with a retry and changes nothing (R473). -/
def execMsixUnmask (fn : Fin 9) (c : MsixCtl) (s : State) : Answer :=
  s.runDev fun d =>
    if 4 ≤ d.pstate then d
    else match c with
      | .word k v => if d.booting then d.badAccess else if fn.val ≠ 0 ∧ 1024 ≤ k.val then d.badAccess else d.msixWrite fn k v
      | .config en fm bme => if d.booting && decide (fld (d.reg Reg.RB_STAT) 13 3 ≤ 1) then d else d.fnConfig fn en fm bme

/-! ## Resets through the host port (R421, R422) -/

/-- Whether a boot in progress, of a wider reset, ignores a reset of a cause (R469). -/
def Dev.outranked (d : Dev) (cause : Nat) : Bool :=
  let rank := fun c => if c = 0 then 3 else if c = 1 then 2 else if c = 5 then 0 else 1
  d.booting && decide (rank cause < rank (fld (d.reg Reg.RB_STAT) 13 3))

/-- PERST_N or a warm reset of a cause: at once in S0, after the exit in S1 to S5 (R359, R465, R469). -/
def Dev.warm (d : Dev) (cause : Nat) (skip : Bool) (env : BootEnv) : Dev :=
  if d.outranked cause then d
  else if d.asleep 5 || d.exiting || (decide (d.pwr.exitFrom = 4) && !d.pwr.spilled.isEmpty) then
    let d := { d with pwr := { d.pwr with resetAfter := some (cause + 8 * b2n skip) } }
    if d.asleep 5 || d.exiting then d.wake 8 false else d
  else (d.coreReset (decide (cause = 1 ∨ cause = 3))).bootStart cause skip env

/-- FLR_PF: an FLR of the PF, a hot reset, or a link-down without PERST_N acts as a warm reset (R422). -/
def execFlrPf (env : BootEnv) (s : State) : Answer := s.runDev fun d => d.warm 3 false env

/-- Halt every running instance of a tenant with a code (R422). -/
def Dev.haltTenant (d : Dev) (t code : Nat) : Dev :=
  ((d.tick.cur.zipIdx).filter (fun e => e.1.alive && decide (e.1.tenant = t))).foldl (fun d e => d.haltInst e.2 code nodeHost 0) d

/-- Reset a tenant's ring contexts, marks and MSI-X table (R422). -/
def Dev.resetTenantHost (d : Dev) (t : Nat) : Dev :=
  let mine := fun sid => decide (d.sidTenant sid = t)
  let h := d.host
  let d' := { d with host := { h with
    rings := tabDrop h.rings (fun r => mine (r / 4)), jobs := h.jobs.filter (fun j => decide (j.tenant ≠ t)),
    msix := tabDrop h.msix (fun k => decide (k / 8192 = t + 1)), pba := tabDrop h.pba (fun k => decide (k / 2048 = t + 1)),
    upWait := h.upWait.filter (fun x => decide (x.2.fn ≠ t + 1)),
    msixEn := fnBit h.msixEn (t + 1) false, fmask := fnBit h.fmask (t + 1) false, bme := fnBit h.bme (t + 1) false } }
  let d' := (List.range 128).foldl (fun d w =>
    let v := d.reg (Reg.RC_MARK w)
    if v = 0 then d
    else d.setReg (Reg.RC_MARK w) (w32 (((bitsOf v.toNat 32).filter (fun i => !mine (32 * w + i))).foldl (fun n i => n + 2 ^ i) 0))) d'
  d'.resetRegs [Reg.RC_COAL_US t, Reg.RC_CPL_CNT t, Reg.RC_UP_TLP t]

/-- An FLR's end is owed to the host when the Clearing of its stand ends. -/
def Dev.flrOwe (d : Dev) (t : Nat) : Dev := { d with host := { d.host with flrWait := d.host.flrWait ++ [t] } }

/-- The FLR of the VF of a tenant: its instances halt, its rings and sessions end, and a Clearing starts (R422). -/
def Dev.flrVf (d : Dev) (t : Nat) : Dev :=
  let d := (d.haltTenant t 0x900A).orReg Reg.HI_STAT 64
  let d := (d.resetTenantHost t).disableSessions t
  let d := (d.flrOwe t).tidy
  if d.sec.clear.getD t .idle = .idle then d.clearAsk t 3 else d

/-- FLR_VF: an FLR of the VF of a tenant (R422). -/
def execFlrVf (t : Fin 8) (s : State) : Answer :=
  s.runDev fun d => if 4 ≤ d.pstate then d else d.flrVf t

/-- PME_TURN_OFF: the host announces that it turns the link off; entry step 7 of S4 acknowledges it (R421, Table 15-3). -/
def execPmeTurnOff (s : State) : Answer := s.runDev fun d => { d with host := { d.host with pmeReq := true } }

end Sys2Proof.Machine
end

