-- ==== Sys2Proof/Machine/Ports.lean ====
section
/-! DEFINITION. The service ports (chapter 19): characters, FIFOs and flags, breaks, the single wire, IrDA, the transmit stream, the telemetry
line, and the frames of the service protocol as they are received. What the commands in the frames do is in Service.lean. -/

namespace Sys2Proof.Machine

/-! ## Settings (R438, R441, R446) -/

/-- DIV, and OS in sample periods (R438). -/
def divOf (baud : Word) : Nat := fld baud 0 16
def osOf (baud ctrl : Word) : Nat := if bit ctrl 5 then 16 else [16, 8, 3, 16].getD (fld baud 16 2) 16

/-- Data bits of a character (R441). -/
def dbitsOf (fmt : Word) : Nat := let n := fld fmt 0 4; if 5 ≤ n ∧ n ≤ 9 then n else 8

/-- The parity bit of some data bits, where there is one (R441). -/
def parityOf (fmt : Word) (data : List Bool) : Option Bool :=
  let odd := decide ((data.filter (fun b => b)).length % 2 = 1)
  match fld fmt 4 3 with
  | 1 => some odd
  | 2 => some (!odd)
  | 3 => some true
  | 4 => some false
  | _ => none

/-- The sample periods for which the stop is held (R441). -/
def stopOf (fmt : Word) (os : Nat) : Nat :=
  match fld fmt 8 2 with
  | 0 => os
  | 1 => if os = 3 then 5 else os + os / 2
  | _ => 2 * os

/-- The port of a number. -/
def SpSt.port (sp : SpSt) (n : Nat) : SpPort := if n = 0 then sp.p0 else sp.p1

/-- Store a port. -/
def SpSt.setPort (sp : SpSt) (n : Nat) (p : SpPort) : SpSt := if n = 0 then { sp with p0 := p } else { sp with p1 := p }

/-- The level of RTS_N follows the watermarks (R446). -/
def SpPort.level (p : SpPort) : SpPort :=
  if p.rxHigh ≤ p.rx.length then { p with rtsHigh := true }
  else if p.rx.length ≤ p.rxLow then { p with rtsHigh := false } else p

/-- Whether RTS_N is high (R438, R446, R464). -/
def SpPort.rts (p : SpPort) (d : Dev) : Bool :=
  decide (divOf p.baud = 0) || decide (3 ≤ d.pstate) || (if bit p.ctrl 0 then p.rtsHigh else !bit p.ctrl 2)

/-- Whether the port operates: enabled (R42), in S0 to S2 (R464). -/
def SpPort.on (p : SpPort) (d : Dev) : Bool := decide (divOf p.baud ≠ 0) && decide (d.pstate ≤ 2)

/-- Whether the engine acts (R454). -/
def SpPort.engine (p : SpPort) : Bool := decide (8 ≤ dbitsOf p.fmt)

/-! ## Events (R444, R462, R463) -/

/-- Whole seconds of always-on time. -/
def Dev.aonSec (d : Dev) : Nat := (d.nowNs - d.porstNs) / 1000000000

/-- Send the message of an event whose bit of SP_IEN is set (R462). -/
def spMsi (d : Dev) (p : SpPort) (b : Nat) : Dev := if bit p.ien b then d.msi 8 0 (fld p.ien 16 11) else d

/-- Set flags of SP_STAT by an event: the next SP_DATA read does not clear them (R444); one ERR message where a line flag rises (R462); one
SPORT_LINE a second (R463). -/
def spFlags (n : Nat) (x : Dev × SpPort) (flags : Nat) : Dev × SpPort :=
  let (d, p) := x
  let f := w32 flags
  let rise := decide (f &&& ~~~ p.stat &&& 0x1F ≠ 0)
  let p := { p with stat := p.stat ||| f, seen := p.seen &&& ~~~ f }
  let d := if rise then spMsi d p 2 else d
  if f &&& 0x17 = 0 ∨ p.lineSec = some d.aonSec then (d, p)
  else (d.logSev 0xA001 0 { atNode nodeBoot with detail := n + 256 * flags }, { p with lineSec := some d.aonSec })

/-- Add to the counters of line events. -/
def SpPort.count (p : SpPort) (pe fe ovr coll : Nat) : SpPort :=
  { p with cntPe := satAdd p.cntPe pe, cntFe := satAdd p.cntFe fe, cntOvr := satAdd p.cntOvr ovr, cntColl := satAdd p.cntColl coll }

/-! ## The service protocol: frames (R456 to R458) -/

/-- A frame around a command byte, a sequence byte and a payload (R456). -/
def svcFrame (cmd : Nat) (seq : Byte) (pay : List Byte) : List Byte :=
  let body := leBytes 2 (2 + pay.length) ++ [BitVec.ofNat 8 cmd, seq] ++ pay
  0x7E :: (body ++ leBytes 2 (crc16 body))

/-- Queue engine output in the order in which it falls due (R454). -/
def SpPort.post (p : SpPort) (resp : Bool) (bs : List Byte) : SpPort := { p with queue := p.queue ++ [(resp, bs)] }

/-- Respond to a request with a STATUS and what follows it (R458). -/
def SpPort.respond (p : SpPort) (cmd : Nat) (seq : Byte) (status : Nat) (pay : List Byte) : SpPort :=
  p.post true (svcFrame (cmd + 128) seq (leBytes 2 status ++ pay))

/-- Whether the payload of a command is as Table 19-3 and R458, R461, R504 ask. -/
def payloadOk (cmd : Nat) (b : List Byte) : Bool :=
  let n := b.length
  match cmd with
  | 1 => decide (n = 4)
  | 2 => decide (n = 8)
  | 3 => decide (n = 9 ∧ leAt b 8 1 < 2 ∧ leAt b 6 2 ≤ 1024 ∧ leAt b 4 2 + leAt b 6 2 ≤ 16384)
  | 4 => decide (7 ≤ n ∧ n ≤ 1031 ∧ leAt b 6 1 < 8 ∧ leAt b 4 2 + (n - 7) ≤ 16384)
  | 5 => decide (n = 2 ∧ leAt b 0 2 < 256)
  | 6 => decide (n = 0)
  | 7 => decide (n = 1 ∧ leAt b 0 1 < 2)
  | _ => false

/-- What the engine finds in the bytes it holds: bytes to keep, or a frame with the bytes after it. -/
inductive SvcScan where
  | wait (rest : List Byte)
  | frame (cmd : Nat) (seq : Byte) (pay rest : List Byte)
  deriving DecidableEq, Repr

/-- Hunt for a frame (R457): how many were discarded, and what is found. `cut` tells that a break or a silence of 20 ms has ended whatever is
incomplete. -/
def svcScan (cut : Bool) : Nat → List Byte → Nat × SvcScan
  | 0, _ => (0, .wait [])
  | _ + 1, [] => (0, .wait [])
  | n + 1, b :: bs =>
    let drop := let r := svcScan cut n bs; (r.1 + 1, r.2)
    if b ≠ 0x7E then svcScan cut n bs
    else
      let len := leAt bs 0 2
      if 2 ≤ bs.length ∧ (len < 2 ∨ 1033 < len) then drop
      else if bs.length < 2 ∨ bs.length < len + 4 then (if cut then drop else (0, .wait (b :: bs)))
      else if crc16 (bs.take (len + 2)) ≠ leAt bs (len + 2) 2 then drop
      else (0, .frame (leAt bs 2 1) (bs.getD 3 0) ((bs.drop 4).take (len - 2)) (bs.drop (len + 4)))

/-- Let the engine work on the bytes it holds until a frame is to be executed or more bytes are needed; a frame that R458 refuses draws
SPORT_CMD_BAD. -/
def svcWork (cut : Bool) : Nat → Dev × SpPort → Dev × SpPort
  | 0, x => x
  | n + 1, (d, p) =>
    if p.exec.isSome then (d, p)
    else
      let (bad, r) := svcScan cut (p.frame.length + 1) p.frame
      let p := { p with svcBad := satAdd p.svcBad bad }
      match r with
      | .wait rest => (d, { p with frame := rest })
      | .frame cmd seq pay rest =>
        let p := { p with frame := rest }
        if payloadOk cmd pay then (d, { p with exec := some { cmd := cmd, seq := seq, payload := pay, begun := false } })
        else svcWork cut n (d.logC 0xA002 nodeBoot, p.respond cmd seq 0xA002 [])

/-- The engine after a frame of more than 20 ms' silence, or a break (R457). -/
def svcCut (x : Dev × SpPort) : Dev × SpPort := svcWork true (x.2.frame.length + 1) x

/-- One byte for the engine. -/
def svcFeed (x : Dev × SpPort) (b : Byte) : Dev × SpPort :=
  let late := !x.2.frame.isEmpty && decide (x.2.frameNs + 20000000 < x.1.nowNs)
  let (d, p) := if late then svcCut x else x
  svcWork false (p.frame.length + 2) (d, { p with frame := p.frame ++ [b], frameNs := d.nowNs })

/-- One received entry for the engine: a break discards the frame. -/
def svcEntry (x : Dev × SpPort) (e : RxEntry) : Dev × SpPort := if e.brk then svcCut x else svcFeed x (BitVec.ofNat 8 e.data.toNat)

/-- Give the engine what waits in the RX FIFO while it executes nothing. -/
def svcDrain : Nat → Dev × SpPort → Dev × SpPort
  | 0, x => x
  | n + 1, (d, p) =>
    if !bit p.ctrl 10 || !p.engine || p.exec.isSome then (d, p)
    else match p.rx with
      | [] => (d, p)
      | e :: es => svcDrain n (svcEntry (d, ({ p with rx := es }).level) e)

/-- The end of a frame's execution: the bytes held and the FIFO are worked on. -/
def svcDone (d : Dev) (p : SpPort) : Dev × SpPort :=
  svcDrain 65 (svcWork false (p.frame.length + 2) (d, { p with exec := none }))

/-- A run of the test engine that a reset abandoned (R501) leaves its request without an end: the engine is free again. -/
def SpPort.release (p : SpPort) (d : Dev) : SpPort :=
  match p.exec with
  | some f => if f.begun && decide (f.cmd = 5) && d.test.port.isNone then { p with exec := none } else p
  | none => p

/-! ## Reception (R440 to R443, R449, R453) -/

/-- The value of a sample: in IrDA mode whether it reads active (R453). -/
def sampleVal (ctrl : Word) (s : RxSample) : Bool :=
  if bit ctrl 5 then (if bit ctrl 7 then s.high2 else s.low2) else s.level

/-- The majority of three. -/
def maj (a b c : Bool) : Bool := (a && b) || (b && c) || (a && c)

/-- The value of bit `i` of a character, the start bit being 0 (R440, R453). In IrDA mode the first sample of the list is sample 7 of the start
bit. -/
def bitVal (baud ctrl : Word) (sam : List RxSample) (i : Nat) : Bool :=
  if bit ctrl 5 then
    if i = 0 then !((sam.map (sampleVal ctrl)).getD 0 false)
    else !((List.range 9).any (fun k => (sam.map (sampleVal ctrl)).getD (16 * i + k - 3) false))
  else
    let v := fun k => (sam.map (sampleVal ctrl)).getD k true
    match osOf baud ctrl with
    | 16 => maj (v (16 * i + 7)) (v (16 * i + 8)) (v (16 * i + 9))
    | 8 => maj (v (8 * i + 3)) (v (8 * i + 4)) (v (8 * i + 5))
    | _ => v (3 * i + 1)

/-- A number from bits, least significant first. -/
def natOfBits : List Bool → Nat
  | [] => 0
  | b :: bs => b2n b + 2 * natOfBits bs

/-- The character that samples spell: none where the start bit reads 1 (R440, R441, R449). -/
def charOf (baud fmt ctrl : Word) (sam : List RxSample) : Option RxEntry :=
  if bitVal baud ctrl sam 0 then none
  else
    let n := dbitsOf fmt
    let data := (List.range n).map (fun i => bitVal baud ctrl sam (i + 1))
    let par := parityOf fmt data
    let got := bitVal baud ctrl sam (n + 1)
    let stop := bitVal baud ctrl sam (n + 1 + b2n par.isSome)
    let pe := par.isSome && decide (par ≠ some got)
    some { data := BitVec.ofNat 9 (natOfBits data), pe := pe, fe := !stop,
           brk := data.all (fun b => !b) && !(par.isSome && got) && !stop }

/-- The settings that a direction now uses. -/
def SpPort.boundary (p : SpPort) : SpPort := { p with rxBaud := p.baud, rxFmt := p.fmt, rxCtrl := p.ctrl }

/-- A character completes: to the engine, to the RX FIFO, or discarded with OVR where the FIFO is full (R443, R456). -/
def spTake (n : Nat) (d : Dev) (p : SpPort) (e : RxEntry) : Dev × SpPort :=
  let direct := bit p.ctrl 10 && p.engine && p.exec.isNone && p.rx.isEmpty
  if !direct && decide (64 ≤ p.rx.length) then spFlags n (d, p.count 0 0 1 0) 4
  else
    let x := spFlags n (d, p.count (b2n e.pe) (b2n e.fe) 0 0) (b2n e.pe + 2 * b2n e.fe + 8 * b2n e.brk)
    if direct then svcEntry x e
    else
      let d := if p.rx.isEmpty then spMsi x.1 x.2 0 else x.1
      svcDrain 65 (d, ({ x.2 with rx := x.2.rx ++ [e] }).level)

/-- A character is received: `old` tells that it began before the settings were last written (R439). -/
def spReceive (n : Nat) (old : Bool) (sam : List RxSample) (d : Dev) (p : SpPort) : Dev × SpPort :=
  let p := p.release d
  if !p.on d || p.rxBreak then (d, p)
  else
    let c := if old then charOf p.rxBaud p.rxFmt p.rxCtrl sam else charOf p.baud p.fmt p.ctrl sam
    let p := { p.boundary with lastTx := false }
    match c with
    | none => (d, p)
    | some e => spTake n d { p with rxBreak := e.brk } (if e.brk then { e with data := 0 } else e)

/-- An operation on a port. -/
def State.onPort (s : State) (n : Nat) (f : Dev → SpPort → Dev × SpPort) : State :=
  let (d, p) := f s.dev (s.sp.port n)
  { s with dev := d, sp := s.sp.setPort n p }

/-- CHARACTER_RECEIVE: the samples of a character arrive on port `n` (R441, R443). -/
def execCharacterReceive (n : Fin 2) (old : Bool) (sam : List RxSample) (s : State) : Answer :=
  s.run fun s => s.onPort n (spReceive n old sam)

/-- START_BIT_ABANDON: a start bit that reads 1 at its sampling point; no flag (R440). -/
def execStartBitAbandon (n : Fin 2) (sam : List RxSample) (s : State) : Answer :=
  s.run fun s => s.onPort n fun d p =>
    if p.on d && !p.rxBreak && bitVal p.baud p.ctrl sam 0 then (d, p.boundary) else (d, p)

/-- BREAK_END: the line returns to 1, `bits` whole bit times after the start bit's sample 0 (R449). -/
def execBreakEnd (n : Fin 2) (bits : Nat) (s : State) : Answer :=
  s.run fun s => s.onPort n fun d p =>
    if p.on d && p.rxBreak then (d, { p with rxBreak := false, brkRx := min bits 65535, stat := p.stat ||| 0x80 }) else (d, p)

/-- SERVICE_FRAME_TIMEOUT: more than 20 ms have passed since the last byte of a frame (R457). -/
def execServiceFrameTimeout (n : Fin 2) (s : State) : Answer :=
  s.run fun s => s.onPort n fun d p =>
    if p.exec.isNone && !p.frame.isEmpty && decide (p.frameNs + 20000000 < d.nowNs) then
      let (d, p) := svcCut (d, p)
      svcDrain 65 (d, p)
    else (d, p)

/-! ## Transmission (R441, R447, R448, R450 to R452, R454) -/

/-- The bits of a character: start, data, parity (R441). -/
def charBits (fmt : Word) (v : Nat) : List Bool :=
  let data := (List.range (dbitsOf fmt)).map (fun i => v.testBit i)
  false :: (data ++ (match parityOf fmt data with | some b => [b] | none => []))

/-- What the line carries of a character: in IrDA mode a pulse for each 0 (R452). -/
def lineChar (p : SpPort) (v : Nat) : LineOut :=
  let os := osOf p.baud p.ctrl
  .char (charBits p.fmt v) (stopOf p.fmt os) p.baud
    (if bit p.ctrl 5 then some (if bit p.ctrl 6 then 160 else 3 * divOf p.baud, bit p.ctrl 8) else none)

/-- The first bit, the stop included, that reads back as another (R451). -/
def collideAt (fmt : Word) (v : Nat) (back : List Bool) : Option Nat :=
  ((charBits fmt v ++ [true]).zip back).findIdx? (fun e => decide (e.1 ≠ e.2))

/-- Drive a character: on a single wire a mismatch ends it (R451). -/
def spDrive (n : Nat) (d : Dev) (p : SpPort) (v : Nat) (back : List Bool) : Dev × SpPort :=
  match if bit p.ctrl 3 then collideAt p.fmt v back else none with
  | none => (d, { p with sent := p.sent ++ [lineChar p v], lastTx := true })
  | some k =>
    let p := { (p.count 0 0 0 1) with sent := p.sent ++ [.cut ((charBits p.fmt v ++ [true]).take (k + 1))], lastTx := false,
                                      stat := p.stat ||| 0x2000 }
    spFlags n (d, p) 0x10

/-- Whether a character may start: CTS (R447), and on a single wire the guard (R450). -/
def mayStart (p : SpPort) (l : TxLine) : Bool :=
  (!bit p.ctrl 1 || !l.cts) &&
  (!bit p.ctrl 3 || (match l.idle with | none => p.lastTx | some k => decide (fld p.ctrl 12 4 ≤ k)))

/-- The next byte of the engine, if it has one and acts, and the port without it (R454). -/
def engineByte (p : SpPort) : Option (Nat × SpPort) :=
  if !p.engine then none
  else match p.out with
    | b :: bs => some (b.toNat, { p with out := bs })
    | [] => match p.queue with
      | (_, b :: bs) :: q => some (b.toNat, { p with out := bs, queue := q })
      | _ => none

/-- One character boundary of the transmitter: a break asked for (R448), the engine, or the TX FIFO (R454). -/
def spTransmit (n : Nat) (l : TxLine) (d : Dev) (p : SpPort) : Dev × SpPort :=
  let p := { p with ctsHigh := l.cts }
  if !p.on d || bit p.stat 13 then (d, p)
  else if p.brkPend ≠ 0 then
    (spMsi d p 3, { p with brkPend := 0, sent := p.sent ++ [.brk p.brkPend], stat := p.stat ||| 0x20, lastTx := false })
  else if !mayStart p l then (d, p)
  else match engineByte p with
    | some (b, p) => spDrive n d p b l.back
    | none => match p.out, p.tx with
      | [], v :: vs =>
        let d := if vs.length = 16 then spMsi d p 1 else d
        spDrive n d { p with tx := vs } v.toNat l.back
      | _, _ => (d, { p with lastTx := false })

/-- CHARACTER_TRANSMIT: a character boundary of port `n`'s transmitter (R454). -/
def execCharacterTransmit (n : Fin 2) (l : TxLine) (s : State) : Answer := s.run fun s => s.onPort n (spTransmit n l)

/-- Whether the transmitter is idle with nothing left to send (R461). -/
def SpPort.quiet (p : SpPort) : Bool := p.out.isEmpty && p.queue.isEmpty && p.tx.isEmpty && decide (p.brkPend = 0)

/-! ## The telemetry line (R455) -/

/-- ASCII bytes of characters. -/
def chars (cs : List Char) : List Byte := cs.map (fun c => BitVec.ofNat 8 c.toNat)

/-- A temperature in quarters of a degree with two decimals, signed. -/
def celsius (q : Int) : List Byte :=
  (if q < 0 then chars ['-'] else []) ++ dec (q.natAbs / 4) ++ chars ['.'] ++
    [hexDigit (q.natAbs % 4 * 25 / 10), hexDigit (q.natAbs % 4 * 25 % 10)]

/-- The line without CR LF. -/
def telemetry (d : Dev) (th : ThSt) : List Byte :=
  chars ['A', 'E', '7', '2', '6', '0', ' ', 'B', '0', ' ', 't', '='] ++ dec (d.tick.count % 2 ^ 32) ++
  chars [' ', 's', '=', 'S'] ++ dec d.pstate ++
  chars [' ', 'l', 'v', '=', 'T'] ++ dec th.level ++
  chars [' ', 't', 'c', '='] ++ celsius th.theta ++
  chars [' ', 'p', '='] ++ dec (d.regN Reg.CAP_AVG_MW) ++
  chars [' ', 'c', 'a', 'p', '='] ++ dec (d.regN Reg.CAP_EFF_MW) ++
  chars [' ', 'o', 'p', '='] ++ dec (fld (d.reg Reg.CAP_STAT) 0 4) ++
  chars [' ', 'f', 'a', 'n', '='] ++ dec th.duty ++
  chars [' ', 'r', 'p', 'm', '='] ++ dec (fld (d.reg Reg.FAN_STAT) 16 16) ++
  chars [' ', 'e', 'r', 'r', '='] ++ dec (d.regN Reg.ERR_TOTAL) ++
  chars [' ', 'l', 'a', 's', 't', '='] ++ hex4 (d.regN Reg.ERR_LAST)

/-- A line falls due: it replaces one that has not begun (R455). -/
def SpPort.line (p : SpPort) (bs : List Byte) : SpPort :=
  if p.queue.any (fun e => !e.1) then
    { p with queue := p.queue.map (fun e => if e.1 then e else (false, bs)), telSkip := satAdd p.telSkip 1 }
  else p.post false bs

/-- TELEMETRY_LINE: a whole second of always-on time (R455); none is formed in S1 to S5 (R464). -/
def execTelemetryLine (n : Fin 2) (s : State) : Answer :=
  s.run fun s => s.onPort n fun d p =>
    if bit p.ctrl 9 && p.on d && p.engine && decide (p.telSec < d.aonSec) then
      let p := { p with telSec := d.aonSec }
      (d, if d.pstate = 0 then p.line (telemetry d s.th ++ ascii [13, 10]) else p)
    else (d, p)

/-! ## Registers (Table 19-5) -/

/-- A write of SP_BAUD (R438, R439): DIV 0 stops both directions at once; from 0 both start idle. -/
def SpPort.baudWrite (p : SpPort) (v : Word) : SpPort :=
  let was := divOf p.baud
  let p := { p with baud := v &&& 0x3FFFF }
  if divOf p.baud = 0 then { p with rxBreak := false, lastTx := false }
  else if was = 0 then { p.boundary with rxBreak := false, lastTx := false } else p

/-- A write of SP_FIFO: the fields hold the values in use (R446). -/
def SpPort.fifoWrite (p : SpPort) (v : Word) : SpPort :=
  let h := clampN 1 64 (fld v 0 7)
  ({ p with rxHigh := h, rxLow := min (fld v 8 7) (h - 1) }).level

/-- A 32-bit write of SP_DATA (R445). -/
def SpPort.dataWrite (p : SpPort) (v : Word) : SpPort :=
  if 64 ≤ p.tx.length then { p with stat := p.stat ||| 0x40 } else { p with tx := p.tx ++ [BitVec.ofNat 9 v.toNat] }

/-- A write of SP_BRK_TX (R448). -/
def SpPort.brkWrite (p : SpPort) (v : Word) : SpPort :=
  if fld v 0 16 = 0 then p
  else if p.brkPend ≠ 0 then { p with stat := p.stat ||| 0x40 } else { p with brkPend := fld v 0 16 }

/-- SP_FLUSH.RX (R444). -/
def SpPort.flushRx (p : SpPort) : SpPort := ({ p with rx := [], stat := p.stat &&& ~~~ 0xF#32, seen := 0 }).level

/-- SP_FLUSH.TX. -/
def SpPort.flushTx (p : SpPort) : SpPort := { p with tx := [] }

/-- A write of SP_STAT: a 1 clears bits [7:4]; COLLISION clears HALT with it (R451). The bits `ev` that an event sets in the same cycle end set
(R6), with HALT where one of them is COLLISION. -/
def SpPort.statWrite (p : SpPort) (v ev : Word) : SpPort :=
  let c := fun (x : Word) => (x &&& 0xF0) ||| (if bit x 4 then 0x2000#32 else 0)
  { p with stat := (p.stat &&& ~~~ c v) ||| c ev }

/-- An RX entry as SP_DATA returns it. -/
def RxEntry.word (e : RxEntry) : Word := w32 (0x8000 + b2n e.brk * 0x4000 + b2n e.fe * 0x2000 + b2n e.pe * 0x1000 + e.data.toNat)

/-- SP_DATA as it reads: 0 on an empty FIFO and while SVC_EN is set (R442, R456). -/
def SpPort.dataWord (p : SpPort) : Word := if bit p.ctrl 10 then 0 else match p.rx with | e :: _ => e.word | [] => 0

/-- A 32-bit read of SP_DATA: the oldest entry goes, and the flags that SP_STAT has shown (R442, R444). -/
def SpPort.dataRead (p : SpPort) : SpPort :=
  ({ p with rx := if bit p.ctrl 10 then p.rx else p.rx.drop 1, stat := p.stat &&& ~~~ p.seen, seen := 0 }).level

/-- SP_STAT as it reads. -/
def SpPort.statWord (p : SpPort) (d : Dev) : Word :=
  p.stat ||| w32 (256 * b2n (!p.rx.isEmpty) + 512 * b2n (decide (64 ≤ p.tx.length)) + 1024 * b2n (p.tx.isEmpty && p.out.isEmpty)
    + 2048 * b2n (!p.ctsHigh) + 4096 * b2n (!(p.rts d)))

/-- A 32-bit read of SP_STAT records the flags it returns (R444). -/
def SpPort.statRead (p : SpPort) : SpPort := { p with seen := p.stat &&& 0xF }

/-- A port register as a read without effects returns it; none where there is no register. -/
def SpPort.peek (p : SpPort) (d : Dev) (o : Nat) : Option Word :=
  match o with
  | 0x00 => some p.baud
  | 0x04 => some p.fmt
  | 0x08 => some p.ctrl
  | 0x0C => some (w32 (p.rxHigh + p.rxLow * 256 + p.rx.length * 65536 + p.tx.length * 16777216))
  | 0x10 => some (p.statWord d)
  | 0x14 => some p.dataWord
  | 0x18 => some 0
  | 0x1C => some (w32 p.brkRx)
  | 0x20 => some 0
  | 0x24 => some p.cntFe
  | 0x28 => some p.cntPe
  | 0x2C => some p.cntOvr
  | 0x30 => some p.cntColl
  | 0x34 => some p.svcCnt
  | 0x38 => some p.svcBad
  | 0x3C => some p.telSkip
  | 0x40 => some p.ien
  | _ => none

/-- What a 32-bit read leaves: `ev` is counted in the same cycle (R6). -/
def SpPort.readFx (p : SpPort) (o : Nat) (ev : Word) : SpPort :=
  match o with
  | 0x10 => p.statRead
  | 0x14 => p.dataRead
  | 0x24 => { p with cntFe := ev }
  | 0x28 => { p with cntPe := ev }
  | 0x2C => { p with cntOvr := ev }
  | 0x30 => { p with cntColl := ev }
  | 0x34 => { p with svcCnt := ev }
  | 0x38 => { p with svcBad := ev }
  | 0x3C => { p with telSkip := ev }
  | _ => p

/-- A write of SP_CTRL: a port whose TELEM_EN rises forms its first line at the next whole second. -/
def SpPort.ctrlWrite (p : SpPort) (d : Dev) (v : Word) : SpPort :=
  { p with ctrl := v &&& 0xF7FF, telSec := if bit v 9 && !bit p.ctrl 9 then d.aonSec else p.telSec }

/-- What a 32-bit write does. -/
def SpPort.write (p : SpPort) (d : Dev) (o : Nat) (v ev : Word) : SpPort :=
  match o with
  | 0x00 => p.baudWrite v
  | 0x04 => { p with fmt := v &&& 0x37F }
  | 0x08 => p.ctrlWrite d v
  | 0x0C => p.fifoWrite v
  | 0x10 => p.statWrite v ev
  | 0x14 => p.dataWrite v
  | 0x18 => p.brkWrite v
  | 0x20 =>
    let p := if bit v 0 then p.flushRx else p
    if bit v 1 then p.flushTx else p
  | 0x40 => { p with ien := v &&& 0x07FF000F }
  | _ => p

/-- Record what a host read returns, and its effect on a port. -/
def State.portRead (s : State) (n o : Nat) (ev : Word) : State :=
  let p := s.sp.port n
  let v := (p.peek s.dev o).getD 0
  { s with dev := { s.dev with host := { s.dev.host with rdData := leBytes 4 v.toNat } }, sp := s.sp.setPort n (p.readFx o ev) }

/-- A write of a port register. -/
def State.portWrite (s : State) (n o : Nat) (v ev : Word) : State :=
  { s with sp := s.sp.setPort n ((s.sp.port n).write s.dev o v ev) }

/-- SP_BAUD_WRITE (R438). -/
def execSpBaudWrite (n : Fin 2) (v : Word) (s : State) : Answer := s.run fun s => s.portWrite n 0 v 0

/-- SP_DATA_READ: a 32-bit read of SP_DATA (R442). -/
def execSpDataRead (n : Fin 2) (s : State) : Answer := s.run fun s => s.portRead n 0x14 0

/-- SP_STAT_READ: a 32-bit read of SP_STAT while CTS_N is as given (R444). -/
def execSpStatRead (n : Fin 2) (ctsHigh : Bool) (s : State) : Answer :=
  s.run fun s => ({ s with sp := s.sp.setPort n { s.sp.port n with ctsHigh := ctsHigh } }).portRead n 0x10 0

/-- SP_DATA_WRITE: a 32-bit write of SP_DATA (R445). -/
def execSpDataWrite (n : Fin 2) (v : Word) (s : State) : Answer := s.run fun s => s.portWrite n 0x14 v 0

/-- SP_BRK_TX: a write of the break register (R448). -/
def execSpBrkTx (n : Fin 2) (v : Word) (s : State) : Answer := s.run fun s => s.portWrite n 0x18 v 0

/-- FLUSH_RX: a write of SP_FLUSH with RX set (R444). -/
def execFlushRx (n : Fin 2) (s : State) : Answer := s.run fun s => s.portWrite n 0x20 1 0

/-- FLUSH_TX: a write of SP_FLUSH with TX set (R442). -/
def execFlushTx (n : Fin 2) (s : State) : Answer := s.run fun s => s.portWrite n 0x20 2 0

end Sys2Proof.Machine
end

