-- ==== Sys2Proof/Machine/Reset.lean ====
section
/-! DEFINITION. The resets of Table 20-2 that the balls and the registers of the reset and boot block assert (R465 to R470), and the read pointer
of the error log (R487). -/

namespace Sys2Proof.Machine

/-- PORST_N, but for the test access port: everything takes its reset value, and the boot sequence begins at its release (R465, R470 to R472).
The first boot after a trip with VALID set logs it (R389); calibration fuses that are bad give way to the nominal trims (R380), and a part without PREF starts on the bandgap with PREF_FAULT set (R379). -/
def State.porst (s : State) (env : BootEnv) : State :=
  let d := s.dev.porReset
  let d := if env.calBad then
      { d with regs := d.regs.filter (fun e => !decide (0x30340 ≤ e.1 ∧ e.1 < 0x30600)) }.setReg Reg.CAL_STAT 3
    else d
  let d := if s.th.tripped && bit (d.reg Reg.TH_TRIP_LAST) 31 then d.logSev 0x7107 2 (atNode nodePower) else d
  let th := { ThSt.reset with fault := env.noPref, lastNs := d.nowNs, fallNs := d.nowNs, winNs := d.nowNs }
  { s with dev := d.bootStart 0 false env, sp := SpSt.reset, th := th }

/-- PORST_N: the ball is asserted and released (R470); it resets the test access port too (R489). -/
def execPorstN (env : BootEnv) (s : State) : Answer := .next { (s.porst env) with tap := { TapSt.reset with cells := s.tap.cells, captured := s.tap.captured } }

/-- PERST_N: the ball is asserted and released (R465). -/
def execPerstN (env : BootEnv) (s : State) : Answer := s.runDev fun d => d.warm 1 false env

/-- A write of RB_RESET (R468): dropped without the key. -/
def Dev.warmWrite (d : Dev) (v : Word) (env : BootEnv) : Dev :=
  if fld v 16 16 ≠ 0xA5C3 then d.badAccess else if bit v 0 then d.warm 2 (bit v 8) env else d

/-- WARM_RESET: a write of RB_RESET (R468). -/
def execWarmReset (v : Word) (env : BootEnv) (s : State) : Answer := s.runDev fun d => d.warmWrite v env

/-- A write of RB_TILE_RST: tiles 0 to 31, or 32 to 63 (R467); a boot in progress makes it have no further effect (R469). -/
def Dev.tileRst (d : Dev) (hi : Bool) (v : Word) : Dev :=
  if d.booting then d else (bitsOf v.toNat 32).foldl (fun d t => d.tileReset (t + 32 * b2n hi)) d

/-- TILE_RESET: a write of RB_TILE_RST (R467). -/
def execTileReset (hi : Bool) (v : Word) (s : State) : Answer := s.runDev fun d => d.tileRst hi v

/-- A write of ERR_LOG_RD: dropped outside ERR_LOG_WR − 1,024 to ERR_LOG_WR (R487). -/
def Dev.logRd (d : Dev) (v : Word) : Dev :=
  if (d.reg Reg.ERR_LOG_WR - v).toNat ≤ 1024 then d.setReg Reg.ERR_LOG_RD v else d.badAccess

/-- ERR_LOG_RD_WRITE (R487). -/
def execErrLogRdWrite (v : Word) (s : State) : Answer := s.runDev fun d => d.logRd v

end Sys2Proof.Machine
end

