-- ==== Sys2Proof/Machine/Compose.lean ====
section
/-! DEFINITION. The composer (R54 to R73, R429, R479): the snapshot of the sessions and the packing of a table. -/

namespace Sys2Proof.Machine

/-! ## Ring contexts at a snapshot (R16, R428, R429, R479) -/

/-- The standing sessions of RB_AUTO (R479). -/
def standingIds (l : List Word) : List Nat := (l.filter (fun v => bit v 15)).map (fun v => fld v 0 12)

/-- A standing session's rings start their next pass: P := C + N, and C := P on the completion ring (R479). -/
def Dev.replaySession (d : Dev) (sid : Nat) : Dev :=
  let up := fun (d : Dev) k =>
    let x := d.ring (ringId sid k)
    d.setRing (ringId sid k) { x with p := x.c + w32 (ringSize x), visP := x.c + w32 (ringSize x) }
  let d := up (up (up d 0) 1) 2
  let x := d.ring (ringId sid 3)
  d.setRing (ringId sid 3) { x with c := x.p, visC := x.p }

/-- A ring as the snapshot takes it: its context in use, and the indices of the doorbells at least 1.2 µs old (R16, R428). -/
def Ring.refresh (x : Ring) (now : Nat) : Ring := { x.settle now with useLo := x.lo, useHi := x.hi, useCfg := x.cfg }

/-- Whether a ring in use breaks R429: its extent leaves the stand, or its vector is not one of a virtual function's. -/
def Dev.ringBad (d : Dev) (r : Nat) (x : Ring) : Bool :=
  let n := ringSize x
  if n = 0 then false
  else
    let here := decide (r % 4 ≠ 3) || !bit x.useCfg 8
    (here && !d.inStand (d.sidTenant (r / 4)) (ringBase x) (64 * n)) || (decide (r % 4 = 3) && bit x.useCfg 10 && decide (256 ≤ fld x.useCfg 16 11))

/-- Every ring context at a snapshot. -/
def Dev.ringsEdge (d : Dev) : Dev :=
  let auto := (List.range 64).map (fun k => d.reg (Reg.RB_AUTO k))
  let d := { d with boot := { d.boot with autoUse := auto } }
  let d := d.host.rings.foldl (fun d e => d.setRing e.1 (e.2.refresh d.nowNs)) d
  let d := (standingIds auto).foldl (fun d sid => d.replaySession sid) d
  d.host.rings.foldl (fun d e =>
    let b := d.ringBad e.1 e.2
    let d := d.setRing e.1 { e.2 with bad := b }
    if b && !e.2.bad then d.logT 0x9006 nodeHost (d.sidTenant (e.1 / 4)) else d) d

/-- Whether a ring is enabled for the composer (R59, R429, R485). -/
def ringUp (x : Ring) : Bool := decide (ringSize x ≠ 0) && !x.bad && !x.ue

/-! ## The snapshot (R58 to R62) -/

/-- What the snapshot records of a ready session, projected past the starting table. -/
structure Snap where
  sid    : Nat
  tenant : Nat
  prio   : Nat
  cls    : Nat
  depth  : Nat
  age    : Nat
  step   : Nat
  cmdIdx : Nat
  inIdx  : Nat
  free   : Nat
  deriving DecidableEq, Repr

/-- The command entry at an index of a session's command ring, with what its read meets. -/
def Dev.cmdEntry (d : Dev) (sid idx : Nat) : Option Nat × Dev :=
  let a := ringAddr (d.ring (ringId sid 0)) idx
  match d.readDram a 64 0 none .ok with
  | (some _, d) => (none, d)
  | (none, d) => (some (leAt (d.dramBytes a 64) 4 1), d)

/-- Count the commands from an index, at most `n` of `cmds`, whose input descriptors are all present among the `ins` (R59). A command that
cannot be read ends the count (DESIGN CHOICE). -/
def Dev.readyDepth (d : Dev) (sid : Nat) : Nat → Nat → Nat → Nat → Nat × Dev
  | 0, _, _, _ => (0, d)
  | n + 1, cmds, idx, ins =>
    if cmds = 0 then (0, d)
    else match d.cmdEntry sid idx with
      | (none, d) => (0, d)
      | (some k, d) => if ins < k then (0, d) else
        let (m, d) := d.readyDepth sid n (cmds - 1) (idx + 1) (ins - k)
        (m + 1, d)

/-- The commands that lie before a session's projected head: completions due, and the running COMPLETES instance (R62). -/
def Dev.ahead (d : Dev) (sid : Nat) : Nat :=
  (d.host.jobs.filter (fun j => decide (j.bound.sid = sid ∧ j.status = 0))).length +
  (d.tick.cur.filter (fun x => x.alive && x.flags.testBit 0 && x.binds sid)).length

/-- The input descriptors that the next `n` commands own. -/
def Dev.ownedIn (d : Dev) (sid : Nat) : Nat → Nat → Nat
  | 0, _ => 0
  | n + 1, idx => leAt (d.dramBytes (ringAddr (d.ring (ringId sid 0)) idx) 64) 4 1 + d.ownedIn sid n (idx + 1)

/-- A session's STEP, projected (R62). -/
def Dev.projStep (d : Dev) (sid : Nat) : Nat :=
  let st := (d.sess sid).step
  match d.tick.cur.find? (fun x => x.alive && x.binds sid) with
  | some x => if x.flags.testBit 0 then 0 else min (st + 1) 255
  | none => st

/-- Take one session into the snapshot: its age and readiness are stored, and the record of a ready one is given. -/
def Dev.snapOne (d : Dev) (sid : Nat) : Option Snap × Dev :=
  let v := d.attr sid
  let old := d.sess sid
  let age := if old.ready && !(d.tick.cur.any (·.binds sid)) then min (old.age + 1) 255 else 0
  let c := d.ring (ringId sid 0)
  let i := d.ring (ringId sid 1)
  let o := d.ring (ringId sid 3)
  let up := bit v 15 && ringUp c && ringUp i && ringUp (d.ring (ringId sid 2)) && ringUp o && !d.marked sid &&
    !(d.standRows (d.sidTenant sid)).isEmpty
  let n := d.ahead sid
  let idx := (c.c + w32 n).toNat
  let inIdx := (i.c + w32 (d.ownedIn sid n c.c.toNat)).toNat
  let known := (List.range n).all (fun k => !d.dramBad (ringAddr c (c.c.toNat + k)) 64)
  let (depth, d) := if up && known then
      d.readyDepth sid 255 (c.visP - w32 idx).toNat idx (i.visP - w32 inIdx).toNat
    else (0, d)
  let d := d.setSess sid { old with age := age, ready := decide (0 < depth), busy := old.busy && bit v 15 }
  (if 0 < depth then
     some { sid := sid, tenant := d.sidTenant sid, prio := fld v 8 4, cls := fld v 0 6, depth := depth, age := age, step := d.projStep sid,
            cmdIdx := idx, inIdx := inIdx, free := ringSize o - (o.p - o.visC).toNat - o.resv }
   else none, d)

/-- The snapshot (R59): every session that the composer has a record of; a relay's are never ready (R325). -/
def Dev.snapshot (d : Dev) : List Snap × Dev :=
  let d := d.ringsEdge
  if d.testing then ([], d)
  else d.tick.sess.foldl (fun r e => match r.2.snapOne e.1 with
    | (some x, d) => (r.1 ++ [x], d)
    | (none, d) => (r.1, d)) ([], d)

/-! ## Fragments (R54, R55, R70) -/

/-- The fields of a fragment header that the composer uses (Table 3-3). -/
structure FragHdr where
  addr    : Nat
  phase   : Nat
  eclass  : Nat
  flags   : Nat
  params  : Nat
  mask    : BitVec 64
  codeDir : Nat
  wc      : Nat
  dramB   : Nat
  flashB  : Nat
  gladeB  : Nat
  planOff : Nat
  planLen : Nat
  deriving DecidableEq, Repr

/-- The address of a fragment's header: the store's base and the directory entry. -/
def Dev.fragAddr (d : Dev) (id : Nat) : Nat := d.tick.fstoreUse + d.dramN (d.tick.fstoreUse + 8 * id) 8

/-- A header's fields. -/
def fragHdr (addr : Nat) (b : List Byte) : FragHdr :=
  { addr := addr, phase := leAt b 8 1 % 64, eclass := leAt b 9 1 % 16, flags := leAt b 0xA 2, params := leAt b 0xC 1,
    mask := BitVec.ofNat 64 (leAt b 0x10 8), codeDir := leAt b 0x18 4, wc := leAt b 0x1C 4, dramB := leAt b 0x20 4,
    flashB := leAt b 0x24 4, gladeB := leAt b 0x28 4, planOff := leAt b 0x2C 4, planLen := leAt b 0x30 4 }

/-- The header of a fragment. -/
def Dev.frag (d : Dev) (id : Nat) : FragHdr := fragHdr (d.fragAddr id) (d.dramBytes (d.fragAddr id) 128)

/-- The composer's reads of a fragment's directory entry and header: whether both are whole, and what they leave in the controllers. Damaged data
is used by nothing (R38, R258). -/
def Dev.fragRead (d : Dev) (id : Nat) : Bool × Dev :=
  match d.readDram (d.tick.fstoreUse + 8 * id) 8 0 none .ok with
  | (some _, d) => (false, d)
  | (none, d) => let (e, d) := d.readDram (d.fragAddr id) 128 0 none .ok; (e.isNone, d)

/-- COMPLETES of a fragment (Table 3-3). -/
def FragHdr.completes (h : FragHdr) : Bool := h.flags.testBit 0

/-- The cycles that a fragment charges: WC_CYCLES × divider (R68). -/
def FragHdr.cycles (h : FragHdr) : Nat := h.wc * 2 ^ fldN h.flags 3 2

/-- The price of R70 in 1/5,760,000 pJ, with E_c and E_b as held in PHASE_COEF and VOLT of the announced OP in 5 mV (R369). -/
def fragPrice (h : FragHdr) (coef : Word) (volt : Nat) : Nat :=
  fld coef 0 16 * (h.eclass + 1) * h.cycles * popcountN 64 h.mask.toNat * (volt * volt) + fld coef 16 16 * h.dramB * 360000

/-! ## Rules (R63, R64) -/

/-- A selection rule (Table 3-5). -/
structure Rule where
  idx      : Nat
  flags    : Nat
  cls      : Nat
  minPrio  : Nat
  minDepth : Nat
  minAge   : Nat
  tenant   : Nat
  frag     : Nat
  maxBatch : Nat
  maxInst  : Nat
  sels     : List Nat
  deriving DecidableEq, Repr

/-- A rule from its 32 bytes. -/
def ruleOf (idx : Nat) (b : List Byte) : Rule :=
  { idx := idx, flags := leAt b 0 1, cls := leAt b 1 1, minPrio := leAt b 2 1, minDepth := leAt b 3 1, minAge := leAt b 4 1,
    tenant := leAt b 5 1, frag := leAt b 6 2, maxBatch := leAt b 8 1, maxInst := leAt b 9 1,
    sels := ((b.drop 16).take 16).map BitVec.toNat }

/-- Whether a rule sets a bit that must be 0, or uses a reserved selector (R64). -/
def ruleBad (b : List Byte) : Bool :=
  let r := ruleOf 0 b
  decide (32 ≤ r.flags ∨ 64 ≤ r.cls ∨ 16 ≤ r.minPrio ∨ 8 ≤ r.tenant ∨ leAt b 0xA 6 ≠ 0) ||
  r.sels.any (fun s => decide (10 ≤ s ∧ s < 128))

/-- The shadow rules as bytes, the first `n`. -/
def Dev.shadowRules (d : Dev) (n : Nat) : List (List Byte) :=
  (List.range n).map (fun i => (List.range 8).flatMap (fun k => leBytes 4 (d.reg (Reg.RULE_MEM (8 * i + k))).toNat))

/-- The rules that the lanes step in this tick: a bad one is logged once and skipped (R64). -/
def Dev.tickRules (d : Dev) : List Rule × Dev :=
  (d.tick.rules.zipIdx).foldl (fun r e =>
    let x := ruleOf e.2 e.1
    if !x.flags.testBit 0 then r
    else if ruleBad e.1 then (r.1, r.2.logC 0x0009 nodeComposer)
    else (r.1 ++ [x], r.2)) ([], d)

/-! ## Lanes (R65 to R71) -/

/-- A stepping lane: what remains of its allowance and budgets, the cycles charged on each tile, what it has placed and bound, and the fit tests
that failed on energy alone or on cycles alone. -/
structure Lane where
  tenant : Nat
  left   : Nat
  trunc  : Bool
  cyc    : List Nat
  cycBud : Nat
  dram   : Nat
  flash  : Nat
  glade  : Nat
  energy : Nat
  volt   : Nat
  insts  : List Inst
  bound  : List Nat
  eShort : Bool
  cShort : Bool
  deriving DecidableEq, Repr

/-- Spend PCLK cycles; without enough left the allowance is spent (R71). -/
def Lane.spend (l : Lane) (n : Nat) : Option Lane := if n ≤ l.left then some { l with left := l.left - n } else none

/-- The order of candidates: priority, then age, then session ID (R66). -/
def snapBefore (a b : Snap) : Bool :=
  if a.prio ≠ b.prio then decide (b.prio < a.prio) else if a.age ≠ b.age then decide (b.age < a.age) else decide (a.sid ≤ b.sid)

/-- Insert a candidate in order. -/
def insertSnap (x : Snap) : List Snap → List Snap
  | [] => [x]
  | y :: ys => if snapBefore x y then x :: y :: ys else y :: insertSnap x ys

/-- The candidates of a rule among the ready sessions of its class, in order, before the test of a free completion slot (R66). -/
def ruleCandidates (r : Rule) (l : Lane) (ready : List Snap) : List Snap :=
  (ready.filter (fun x => decide (r.minPrio ≤ x.prio) && decide (r.minDepth ≤ x.depth) && decide (r.minAge ≤ x.age) &&
    !(l.bound.contains x.sid))).foldr insertSnap []

/-- Those that a fragment may bind: with COMPLETES they must have a free completion slot. -/
def slotted (h : FragHdr) (c : List Snap) : List Snap := if h.completes then c.filter (fun x => decide (0 < x.free)) else c

/-- Whether a fragment is valid (R55). -/
def Dev.fragValid (d : Dev) (id : Nat) : Bool := tabGet falseB d.tick.valid id

/-- Where an instance of a mask starts: the largest count charged on a tile of it (R68). -/
def Lane.startCycle (l : Lane) (m : BitVec 64) : Nat := (bitsOf m.toNat 64).foldl (fun n t => max n (l.cyc.getD t 0)) 0

/-- What a fit test finds (R67). -/
inductive FitRes where
  | fits
  | not (energyAlone cyclesAlone : Bool)
  deriving DecidableEq, Repr

/-- The fit test of a fragment for a rule, with what it logs (R42, R67, R68); a header that cannot be read whole fits nowhere (R38). -/
def Dev.fitTest (d : Dev) (l : Lane) (r : Rule) (id : Nat) (h : FragHdr) : FitRes × Dev :=
  if !d.fragValid id then
    let (f, d) := d.once (0x0007, r.idx)
    (.not false false, if f then d.logSev 0x0007 0 { atNode nodeComposer with tenant := some l.tenant, frag := id } else d)
  else
  let (whole, d) := d.fragRead id
  if !whole then (.not false false, d)
  else if h.wc = 0 then
    let (f, d) := d.once (0x0006, id)
    (.not false false, if f then d.logSev 0x0006 0 { atNode nodeComposer with tenant := some l.tenant, frag := id } else d)
  else if h.mask &&& ~~~ d.standMask l.tenant ≠ 0 then
    (.not false false, d.logSev 0x0008 0 { atNode nodeComposer with tenant := some l.tenant, frag := id })
  else
    let cyc := h.mask = 0 ∨ l.startCycle h.mask + h.cycles ≤ l.cycBud
    let en := fragPrice h (d.reg (Reg.PHASE_COEF h.phase)) l.volt ≤ l.energy
    let rest := l.insts.length < 256 ∧ h.dramB ≤ l.dram ∧ h.flashB ≤ l.flash ∧ h.gladeB ≤ l.glade
    (if cyc ∧ en ∧ rest then .fits else .not (decide (cyc ∧ rest ∧ ¬ en)) (decide (en ∧ rest ∧ ¬ cyc)), d)

/-- The address of the batch record of a tenant's instance `i` in the next table (R72). -/
def Dev.recAddr (d : Dev) (t i : Nat) : Nat := d.tick.batchUse.getD t 0 + 0x40000 * ((d.tick.count + 1) % 2) + 1024 * i

/-- The value a selector binds (Table 3-6). -/
def selValue (sel n addr tenant cls : Nat) (b : List Bound) : Word :=
  let s0 := b.headD { sid := 0, step := 0, cmdIdx := 0, inIdx := 0, prov := 0, resv := false }
  if 128 ≤ sel then w32 (sel - 128)
  else match sel with
    | 1 => w32 n
    | 2 => w32 addr
    | 3 => w32 (addr / 2 ^ 32)
    | 4 => w32 ((2 ^ n - 1) % 2 ^ 32)
    | 5 => w32 ((2 ^ n - 1) / 2 ^ 32)
    | 6 => w32 s0.sid
    | 7 => w32 s0.step
    | 8 => w32 tenant
    | 9 => w32 cls
    | _ => 0

/-- Bind a candidate: COMPLETES takes one reservation on its completion ring (R432). -/
def Dev.bindOne (d : Dev) (h : FragHdr) (x : Snap) : Bound × Dev :=
  let r := ringId x.sid 3
  let o := d.ring r
  if h.completes then
    ({ sid := x.sid, step := x.step, cmdIdx := x.cmdIdx, inIdx := x.inIdx, prov := (o.p + w32 o.resv).toNat, resv := true },
     d.setRing r { o with resv := o.resv + 1 })
  else ({ sid := x.sid, step := x.step, cmdIdx := x.cmdIdx, inIdx := x.inIdx, prov := 0xFFFFFFFF, resv := false }, d)

/-- Bind candidates in order. -/
def Dev.bindAll (d : Dev) (h : FragHdr) : List Snap → List Bound × Dev
  | [] => ([], d)
  | x :: xs =>
    let (b, d) := d.bindOne h x
    let (bs, d) := d.bindAll h xs
    (b :: bs, d)

/-- Place an instance of a fragment that fits (R66 to R68, R72): its charges, its bindings and its parameters. -/
def Dev.place (d : Dev) (l : Lane) (r : Rule) (id : Nat) (h : FragHdr) (c : List Snap) : Dev × Lane :=
  let (bs, d) := d.bindAll h c
  let i := l.insts.length
  let price := fragPrice h (d.reg (Reg.PHASE_COEF h.phase)) l.volt
  let upto := l.startCycle h.mask + h.cycles
  let ps := (List.range h.params).map (fun k => selValue (r.sels.getD k 0) c.length (d.recAddr l.tenant i) l.tenant r.cls bs)
  let x : Inst :=
    { frag := id, tenant := l.tenant, index := i, hdrAddr := h.addr, flags := h.flags, phase := h.phase, eclass := h.eclass, params := ps,
      mask := h.mask, codeDir := h.codeDir, wc := h.wc, dramB := h.dramB, planOff := h.planOff, planLen := h.planLen, bound := bs,
      status := .waiting, done := 0, outside := h.flags.testBit 1 || decide (r.minAge ≠ 0), price := price }
  (d, { l with cyc := (bitsOf h.mask.toNat 64).foldl (fun cs t => setAt cs t upto) l.cyc, dram := l.dram - h.dramB,
               flash := l.flash - h.flashB, glade := l.glade - h.gladeB, energy := l.energy - price, insts := l.insts ++ [x],
               bound := l.bound ++ c.map (·.sid) })

/-- How an attempt of a rule ends: placed, nothing fits, or the allowance is spent. -/
inductive Tried where
  | placed | none | spent
  deriving DecidableEq, Repr

/-- The fragment of a rule for a batch (R66 step 3). -/
def Rule.fragId (r : Rule) (b : Nat) : Nat := if r.flags.testBit 1 then r.frag + b - 1 else r.frag

/-- Try batches of `b` down to 1, or `b` alone without SHRINK (R66 steps 3, 4 and 6). -/
def Dev.tryBatch (d : Dev) (l : Lane) (r : Rule) (c : List Snap) : Nat → Tried × Dev × Lane
  | 0 => (.none, d, l)
  | b + 1 =>
    match l.spend 4 with
    | none => (.spent, d, l)
    | some l =>
      let id := r.fragId (b + 1)
      let h := d.frag id
      let cs := (slotted h c).take (b + 1)
      let (res, d) := d.fitTest l r id h
      match res with
      | .fits =>
        if cs.length = b + 1 then
          match l.spend 32 with
          | none => (.spent, d, l)
          | some l => let (d, l) := d.place l r id h cs; (.placed, d, l)
        else if r.flags.testBit 2 then d.tryBatch l r c b else (.none, d, l)
      | .not e y =>
        let l := { l with eShort := l.eShort || e, cShort := l.cShort || y }
        if r.flags.testBit 2 then d.tryBatch l r c b else (.none, d, l)

/-- The first batch of a rule: with FAMILY the candidates that the member tried can bind, at most M; M above 64 is used as 64. -/
def Dev.firstBatch (d : Dev) (r : Rule) (c : List Snap) : Nat :=
  if !r.flags.testBit 1 then 1
  else
    let m := min r.maxBatch 64
    let b := min c.length m
    if d.fragValid (r.fragId b) then min (slotted (d.frag (r.fragId b)) c).length m else b

/-- Step one rule in a lane (R66): whether the lane goes on to the next. `ready` are the tenant's ready sessions of the rule's class; those of them
that are candidates by step 1 are the candidates examined (R71; the test of a completion slot, which depends on the fragment tried, comes after:
notes/assumptions/43.md). With candidates, a FAMILY of MAX_BATCH 0 places nothing and obeys STOP (notes/assumptions/44.md). -/
def Dev.stepRule (d : Dev) (l : Lane) (r : Rule) (ready : List Snap) : Nat → Bool × Dev × Lane
  | 0 => (true, d, l)
  | n + 1 =>
    let c := ruleCandidates r l ready
    match l.spend c.length with
    | none => (false, d, { l with trunc := true })
    | some l =>
      let b := d.firstBatch r c
      let some_ := if r.flags.testBit 1 then decide (b ≠ 0) else !(slotted (d.frag r.frag) c).isEmpty || (!c.isEmpty && !d.fragValid r.frag)
      if !some_ then (c.isEmpty || !(r.flags.testBit 1 && decide (r.maxBatch = 0)) || !r.flags.testBit 3, d, l)
      else match d.tryBatch l r c b with
        | (.placed, d, l) => d.stepRule l r ready n
        | (.none, d, l) => (!r.flags.testBit 3, d, l)
        | (.spent, d, l) => (false, d, { l with trunc := true })

/-- Step the rules of a lane in order (R65, R66, R71). -/
def Dev.stepLane (d : Dev) (l : Lane) (snaps : List Snap) : List Rule → Dev × Lane
  | [] => (d, l)
  | r :: rs =>
    if r.flags.testBit 4 ∨ r.tenant = l.tenant then
      match l.spend 8 with
      | none => (d, { l with trunc := true })
      | some l =>
        match d.stepRule l r (snaps.filter (fun x => decide (x.tenant = l.tenant ∧ x.cls = r.cls))) r.maxInst with
        | (true, d, l) => d.stepLane l snaps rs
        | (false, d, l) => (d, l)
    else d.stepLane l snaps rs

/-! ## The table (R69, R72, R73, Table 3-7) -/

/-- A batch record (Table 3-8). -/
def batchRecord (bs : List Bound) : List Byte :=
  let slots := bs.flatMap (fun b => leBytes 2 b.sid ++ leBytes 1 b.step ++ leBytes 1 0 ++ leBytes 4 b.cmdIdx ++ leBytes 4 b.inIdx ++ leBytes 4 b.prov)
  slots ++ List.replicate (1024 - slots.length) 0

/-- Write a lane's batch records; one that the firebreak refuses leaves the tenant without instances (R73). -/
def Dev.writeRecords (d : Dev) (l : Lane) : Dev × Lane :=
  if l.insts.any (fun x => !d.inStand l.tenant (d.recAddr l.tenant x.index) 1024) then
    let d := l.insts.foldl (fun d x => d.unreserveAll x) d
    (d.logSev 0x000C 0 { atNode nodeComposer with tenant := some l.tenant }, { l with insts := [], bound := [] })
  else (l.insts.foldl (fun d x => d.writeDram (d.recAddr l.tenant x.index) 0 (batchRecord x.bound) .ok) d, l)

/-- The DRAM's 8-channel bandwidth in MB/s at the configured rate, as Tables 3-7 and 10-3 print it (136.5 GB/s at 8,533 MT/s:
notes/assumptions/47.md), and the flash's (Table 11-3). -/
def Dev.dramMBps (d : Dev) : Nat := [25600, 51200, 68300, 88000, 102400, 120000, 136500].getD (fld (d.reg Reg.DR_GCFG) 0 3) 0
def Dev.flashMBps (d : Dev) : Nat := [12800, 19200, 25600, 32000, 38400].getD (d.regN Reg.FL_GCFG) 0

/-- The shares of the eight tenants, scaled where those with an enabled session sum to more than 256 (R69). -/
def Dev.shares (d : Dev) : List Nat × Dev :=
  let raw := (List.range 8).map (fun t => fld (d.reg (Reg.TK_SHARE t)) 0 9)
  let on := (List.range 8).filter (fun t => d.tick.sess.any (fun e => bit (d.attr e.1) 15 && decide (d.sidTenant e.1 = t)))
  let sum := (on.map (fun t => raw.getD t 0)).sum
  if 256 < sum then
    ((List.range 8).map (fun t => if on.contains t then raw.getD t 0 * 256 / sum else raw.getD t 0), d.logC 0x000A nodeComposer)
  else (raw, d)

/-- A lane at the start of its packing (Table 3-7, R71): `uj` is the energy budget, `volt` the announced VOLT. -/
def Dev.laneOf (d : Dev) (t share uj volt : Nat) : Lane :=
  let p := d.tick.periodUse * d.tick.pctUse
  let rows := (d.standRows t).length
  { tenant := t, left := d.tick.periodUse * 80, trunc := false, cyc := List.replicate 64 0, cycBud := p * d.tick.annFclk / 100,
    dram := d.dramMBps * p * rows / 800, flash := d.flashMBps * p * rows / 800, glade := 256 * d.tick.annFclk * p * rows / 800,
    energy := uj * share * 22500000000, volt := volt, insts := [], bound := [], eShort := false, cShort := false }

/-- Show the budgets of a packing (Table 3-15). -/
def Dev.showBudgets (d : Dev) (uj : Nat) : Dev :=
  let p := d.tick.periodUse * d.tick.pctUse
  let sat := fun n => w32 (min n 0xFFFFFFFF)
  ((((d.setReg Reg.TK_BUD_CYC (sat (p * d.tick.annFclk / 100))).setReg Reg.TK_BUD_DRAM (sat (d.dramMBps * p / 102400))).setReg
    Reg.TK_BUD_FLASH (sat (d.flashMBps * p / 102400))).setReg Reg.TK_BUD_GLADE (sat (256 * d.tick.annFclk * p / 102400))).setReg
    Reg.TK_BUD_ENERGY (sat uj)

/-- Whether nothing may be packed: the fatal state, a relay, a boot in progress, a memory or logic test, or an exit from S4 before the DRAM ready
event (R325, R360, R472, R482, R500). -/
def Dev.packStop (d : Dev) : Bool :=
  d.fatal || d.relay || d.booting || d.testing || (decide (d.pwr.exitFrom = 4) && !bit (d.reg Reg.PW_STAT) 10)

/-- Pack the next table from a snapshot (R65 to R73): the lanes of the eight tenants in order. A tenant with a Clearing is not packed (R406). -/
def Dev.pack (d : Dev) (snaps : List Snap) (uj volt : Nat) : Dev :=
  let d := d.showBudgets uj
  if d.packStop then
    { d.setReg Reg.TK_PACKED 0 with tick := { d.tick with nxt := [], truncPend := false, final := false },
                                    pwr := { d.pwr with fitEnergy := false, fitCycle := false } }
  else
    let (rules, d) := d.tickRules
    let (sh, d) := d.shares
    let (d, ls) := (List.range 8).foldl (fun (r : Dev × List Lane) t =>
      let d := r.1
      if d.sec.clear.getD t .idle ≠ .idle then r
      else
        let (d, l) := d.stepLane (d.laneOf t (sh.getD t 0) uj volt) snaps rules
        let (d, l) := d.writeRecords l
        (d, r.2 ++ [l])) (d, [])
    let insts := ls.flatMap (·.insts)
    let n := (insts.map (fun x => x.bound.length)).sum
    let e := ls.any (·.eShort)
    let c := ls.any (·.cShort)
    let d := ((d.setReg Reg.TK_PACKED (w32 (n * 65536 + insts.length))).bitReg Reg.CAP_STAT 16 e).bitReg Reg.CAP_STAT 17 c
    { d with tick := { d.tick with nxt := insts, truncPend := ls.any (·.trunc), final := false },
             pwr := { d.pwr with fitEnergy := e, fitCycle := c } }

end Sys2Proof.Machine
end

