-- ==== Sys2Proof/Machine/Budget.lean ====
section
/-! DEFINITION. The power unit at an edge (R362 to R371, R398): the operating point used and announced, the energy budget, learning. Energies
are exact, in units of 1/5,760,000 pJ. -/

namespace Sys2Proof.Machine

/-- Units of 1/5,760,000 pJ in a nJ and in a µJ. -/
abbrev uNj : Int := 5760000000
abbrev uUj : Int := 5760000000000

/-! ## The operating points (R362, R364 to R366) -/

/-- The reset VOLT of the slowest reset entry that is at least as fast as a FREQ: an upper bound of the fused minimum, which the reset table
meets on every part (R362). -/
def resetVolt (freq : Nat) : Nat := (((opReset.filter (fun e => decide (freq ≤ e.1))).map (·.2)).getLast?).getD 180

/-- The fused minimum VOLT of a FREQ. -/
def fusedMin (freq : Nat) : Nat := min (Config.fusedVolt freq) (resetVolt freq)

/-- The checks of R362. -/
def opTableOk (t : List (Nat × Nat)) : Bool :=
  t.all (fun e => decide (8 ≤ e.1 ∧ e.1 ≤ 48 ∧ 110 ≤ e.2 ∧ e.2 ≤ 180 ∧ fusedMin e.1 ≤ e.2)) &&
  (t.zip (t.drop 1)).all (fun p => decide (p.2.1 ≤ p.1.1 ∧ p.2.2 ≤ p.1.2))

/-- A committed OP table at an edge (R362). -/
def Dev.opTableEdge (d : Dev) : Dev :=
  if !d.pwr.opPend then d
  else
    let t := (List.range 16).map (fun i => (fld (d.reg (Reg.OP_ENTRY i)) 0 8, fld (d.reg (Reg.OP_ENTRY i)) 8 8))
    let d := { d.clrReg Reg.OP_STAT 3 with pwr := { d.pwr with opPend := false } }
    if opTableOk t then { d with pwr := { d.pwr with opUse := t } }
    else (d.orReg Reg.OP_STAT 2).logC 0x7004 nodePower

/-- O_pref and the smallest MIN_OP over the phase entries in use (R364). -/
def phaseBounds (l : List Word) : Nat × Nat :=
  l.foldl (fun m w => (max m.1 (fld w 0 4), min m.2 (fld w 4 4))) (0, 15)

/-- Command a voltage: a raise over AVSBus waits for its read-back (R365, R366). -/
def Dev.setVolt (d : Dev) (mv : Nat) : Dev :=
  if mv = d.pwr.volt then d
  else
    { d with pwr := { d.pwr with volt := mv, avsWait := if bit (d.reg Reg.AVS_CFG) 12 && decide (d.pwr.volt < mv) then some (mv, d.nowNs) else d.pwr.avsWait },
             pins := { d.pins with avsMv := if bit (d.reg Reg.AVS_CFG) 12 then mv else d.pins.avsMv } }

/-- The operating point of the starting tick takes effect (R14, R18, R358, R365): the announced one, or the slowest that the thermal level
allows, which runs from the bypass until the PLL locks; OP15 while a test runs (R498). After S1 and S2 the first tick keeps the point in force. -/
def Dev.opSwitch (d : Dev) (th : ThSt) : Dev :=
  let base := if d.pwr.firstEdge.isSome ∧ (d.pwr.exitFrom = 1 ∨ d.pwr.exitFrom = 2) then d.opNow else d.opAnn
  let used := if d.test.busy then 15 else max base (thMaxOp (th.entry th.level))
  let e := d.opEntry used
  let f := e.1 * 25
  let d := d.fldReg Reg.CAP_STAT 0 4 used
  let p := d.pwr
  let d := if p.fclk = f then d
    else if p.pll = f ∧ p.pllLocked = true then d.setFclk f
    else
      let d := d.setFclk 200
      { d with pwr := { d.pwr with pll := f, pllLocked := decide (p.pll = f) && p.pllLocked } }
  d.setVolt (e.2 * 5)

/-- The governor and the announcement for the next tick (R364, R365, R398). -/
def Dev.opAnnounce (d : Dev) (th : ThSt) : Dev :=
  let was := phaseBounds d.pwr.phaseUse
  let use := (List.range 64).map (fun i => d.reg (Reg.PHASE_CFG i))
  let (pref, low) := phaseBounds use
  let bad := decide (low < pref)
  let onset := bad && (!bit (d.reg Reg.CAP_STAT) 18 || decide (was ≠ (pref, low)))
  let floor := max low pref
  let step := bit (d.reg Reg.CAP_CTRL) 0 && !d.multi
  let p := d.pwr
  let g := if !step then pref
    else clampN pref floor (if p.fitEnergy && !p.fitCycle then p.gov + 1 else if p.fitCycle && !p.fitEnergy then p.gov - 1 else p.gov)
  let ann := if d.test.busy then 15 else max g (thMaxOp (th.entry th.level))
  let d := if onset then d.logC 0x7005 nodePower else d
  let d := (((d.fldReg Reg.CAP_STAT 4 4 ann).fldReg Reg.CAP_STAT 8 4 pref).fldReg Reg.CAP_STAT 12 4 floor).bitReg Reg.CAP_STAT 18 bad
  let e := d.opEntry ann
  let f := e.1 * 25
  let bypass := decide (d.pwr.fclk ≠ (d.opEntry d.opNow).1 * 25)
  let pll := if f = d.pwr.fclk ∨ f = d.pwr.pll ∨ bypass = true then d.pwr
    else { d.pwr with pll := f, pllLocked := false }
  let d := { d with pwr := { pll with gov := g, phaseUse := use }, tick := { d.tick with annFclk := f } }
  if d.pwr.volt < e.2 * 5 then d.setVolt (e.2 * 5) else d

/-! ## Metering and learning (R368 to R371) -/

/-- FIX_MW of an operating point. -/
def Dev.fixMw (d : Dev) (op : Nat) : Nat := fld (d.reg (Reg.OP_ENTRY op)) 16 16

/-- The rails' energies of the tick that ends, in nJ: eight, 4 being VDD_DDQ. -/
def railsOf (env : EdgeEnv) : List Nat := (env.rails ++ List.replicate 8 0).take 8

/-- The metered tick: RAIL_MW, and the history of the cap (R368). -/
def Dev.meter (d : Dev) (rails : List Nat) (ns : Nat) : Dev :=
  let d := (rails.zipIdx).foldl (fun d e => d.setReg (Reg.RAIL_MW e.2) (w32 (min (e.1 * 1000 / max ns 1) 65535))) d
  { d with pwr := { d.pwr with hist := ((rails.sum, ns) :: d.pwr.hist).take 4000 } }

/-- One coefficient after learning (R370), in 1/16 pJ: `w` the weight, `err` measured less predicted, `den` the weighted sum, all in one unit.
Where every weighted share is 0 the rule divides 0 by 0: a free value. -/
def Dev.learnOne (d : Dev) (e w : Nat) (err : Int) (den : Nat) : Nat × Dev :=
  if den = 0 then let (k, d) := d.draw; ((Config.freeWord k).toNat % 65536, d)
  else
    let n : Int := clampI 0 (65535 * (den : Int)) (e * den + e * w * err)
    ((roundUp (16 * (e : Int) * den + n - e * den) (16 * (den : Int))).toNat, d)

/-- Add up what committed of each phase: cycles × class × tiles, and bytes. -/
def phaseSums (l : List (Nat × Nat × Nat)) (ph : Nat) : Nat × Nat :=
  l.foldl (fun s e => if e.1 = ph then (s.1 + e.2.1, s.2 + e.2.2) else s) (0, 0)

/-- Learning after a tick (R370): `v` is VOLT at the operating point used, `op` that point. -/
def Dev.learn (d : Dev) (rails : List Nat) (ns op v : Nat) : Dev :=
  if d.pwr.spoiled || d.multi then d
  else
    let all := (List.range 64).map (fun ph =>
      let s := phaseSums d.pwr.learned ph
      (ph, s.1, s.2, d.reg (Reg.PHASE_COEF ph), fld (d.reg (Reg.PHASE_CFG ph)) 8 4))
    let used := all.filter (fun e => decide (0 < e.2.1 ∨ 0 < e.2.2.1))
    let core : List Nat := used.map (fun e => fld e.2.2.2.1 0 16 * e.2.1 * (v * v))
    let ddq : List Nat := used.map (fun e => fld e.2.2.2.1 16 16 * e.2.2.1 * 360000)
    let pc := core.sum
    let pb := ddq.sum
    let wc := ((used.zip core).map (fun x => x.1.2.2.2.2 * x.2)).sum
    let wb := ((used.zip ddq).map (fun x => x.1.2.2.2.2 * x.2)).sum
    let dc : Int := ((rails.sum - rails.getD 4 0 : Nat) : Int) * uNj - (d.fixMw op * ns : Nat) * 5760000
    let db : Int := (rails.getD 4 0 : Int) * uNj
    used.foldl (fun d e =>
      let (ph, c, b, coef, w) := e
      let ec := fld coef 0 16
      let eb := fld coef 16 16
      let (ec', d) := if 0 < c ∧ 0 < w ∧ 0 < pc then d.learnOne ec w (dc - pc) wc else (ec, d)
      let (eb', d) := if 0 < b ∧ 0 < w ∧ 0 < pb then d.learnOne eb w (db - pb) wb else (eb, d)
      d.setReg (Reg.PHASE_COEF ph) (w32 (ec' + eb' * 65536))) d

/-- FIX_MW of the operating point in force moves by 1/16 towards the power measured over at least 100 µs with every tile clock gated (R371). -/
def Dev.learnFix (d : Dev) (op : Nat) (gated : Option Nat) : Dev :=
  match gated, d.pwr.gatedNs with
  | some mw, some t =>
    if t + 100000 ≤ d.nowNs ∧ !d.multi then
      let f := d.fixMw op
      d.fldReg (Reg.OP_ENTRY op) 16 16 (clampI 0 65535 (roundUp (15 * (f : Int) + mw) 16)).toNat
    else d
  | _, _ => d

/-- The end of a tick: meters and learning. No tick ends at the first edge after a boot or an exit. -/
def Dev.endTick (d : Dev) (env : EdgeEnv) : Dev :=
  if !d.tick.started then { d with pwr := { d.pwr with spoiled := false, learned := [] } }
  else
    let rails := railsOf env
    let ns := d.nowNs - d.tick.edgeNs
    let op := d.opNow
    let d := ((d.meter rails ns).learn rails ns op (d.opEntry op).2).learnFix op env.gated
    { d with pwr := { d.pwr with spoiled := false, learned := [] } }

/-! ## The energy budget (R367, R368, R398) -/

/-- C_eff in 1/1280 mW: derated while PREF_FAULT or CAL_BAD stood at the edge, as the guard does (R367, R381). -/
def Dev.ceff (d : Dev) (th : ThSt) : Nat :=
  clampN 6000 45000 (fld (d.reg Reg.CAP_LIMIT) 0 16) * thScale (th.entry th.level) * (if th.guard then 4 else 5)

/-- K of R368. -/
def Dev.capK (d : Dev) : Nat := max 1 (1000 * clampN 1 1000 (fld (d.reg Reg.CAP_WINDOW) 0 10) / max d.tick.periodUse 1)

/-- B of the next tick in µJ: `e` the priced energy of the starting table, `f` and `f'` FIX_MW for the starting and the announced tick. -/
def Dev.budgetUj (d : Dev) (th : ThSt) (e f f' : Nat) : Nat :=
  let p := d.tick.periodUse
  let k := if d.multi then 1 else d.capK
  let m := ((d.pwr.hist.take (k - 2)).map (·.1)).sum
  let top : Int := (45000 * p : Nat) * uNj - (f' * p : Nat) * uNj
  let b : Int := (d.ceff th * k * p : Nat) * 4500000 - (f' * p : Nat) * uNj
  let b := if d.multi then b else b - (m : Nat) * uNj - (e : Nat) - (f * p : Nat) * uNj
  ((max 0 (min b top)) / uUj).toNat

/-- The measured average over the last K ticks, and its comparison with the cap (R368). -/
def Dev.capAverage (d : Dev) (th : ThSt) : Dev :=
  let h := d.pwr.hist.take d.capK
  let e := (h.map (·.1)).sum
  let t := (h.map (·.2)).sum
  if t = 0 then d
  else
    let d := d.setReg Reg.CAP_AVG_MW (w32 (min (e * 1000 / t) 65535))
    if d.ceff th * 105 * t < e * 100000 * 1280 then (d.incReg Reg.CAP_EXCEED 1).logC 0x7009 nodePower else d

/-- The budget is handed over (R14 step 4, R367, R368). `fNow` is FIX_MW of the operating point announced for the starting tick. -/
def Dev.handOver (d : Dev) (th : ThSt) (fNow : Nat) : Nat × Dev :=
  let d := (d.setReg Reg.CAP_EFF_MW (w32 (min (d.ceff th / 1280) 65535))).bitReg Reg.CAP_STAT 19 th.guard
  let d := d.capAverage th
  let uj := d.budgetUj th ((d.tick.cur.map (·.price)).sum) fNow (d.fixMw d.opAnn)
  (uj, d.setReg Reg.CAP_BUDGET (w32 (min uj 0xFFFFFFFF)))

end Sys2Proof.Machine
end

