-- ==== Sys2Proof/Machine/Float.lean ====
section
/-! DEFINITION. Number formats and FP32 arithmetic of the engines (R154 to R161): exact dyadic values, rounded once to
nearest even, with the flags of TL_NUM_STAT as a bit mask. -/

namespace Sys2Proof.Machine

/-- A decoded floating-point datum: the value of `fin s m e` is m × 2^e with sign s. -/
inductive FVal where
  | nan
  | inf (neg : Bool)
  | fin (neg : Bool) (m : Nat) (e : Int)
  deriving DecidableEq, Repr

/-- A 32-bit result with the TL_NUM_STAT bits it sets. -/
structure FRes where
  bits  : Word
  flags : Nat
  deriving DecidableEq, Repr

/-- TL_NUM_STAT.VSAT, OVF, NAN, SAT0, SAT1 (Table 6-12). -/
def fVsat : Nat := 0x20
@[inherit_doc fVsat] def fOvf : Nat := 0x10
@[inherit_doc fVsat] def fNan : Nat := 0x08

/-- The canonical NaN (R159). -/
def nanBits : Word := 0x7FC00000#32

/-- Sign bit in front of a magnitude. -/
def withSign (neg : Bool) (mag width : Nat) : Nat := (if neg then 2 ^ (width - 1) else 0) + mag

/-- Decode a datum of `eb` exponent bits and `mb` mantissa bits with IEEE 754 infinities and NaNs. -/
def decodeIeee (eb mb : Nat) (n : Nat) : FVal :=
  let neg := n.testBit (eb + mb)
  let ex := fldN n mb eb
  let m := fldN n 0 mb
  let bias := 2 ^ (eb - 1) - 1
  if ex = 2 ^ eb - 1 then (if m = 0 then .inf neg else .nan)
  else if ex = 0 then .fin neg m (1 - (bias : Int) - mb)
  else .fin neg (2 ^ mb + m) ((ex : Int) - bias - mb)

/-- FP32 operand (R156); with FTZ a subnormal is read as a zero of its sign (R159). -/
def decode32 (ftz : Bool) (w : Word) : FVal :=
  if ftz && fld w 23 8 = 0 then .fin (bit w 31) 0 0 else decodeIeee 8 23 w.toNat

/-- BF16 datum (R156): the upper half of binary32. -/
def decodeBf16 (n : Nat) : FVal := decodeIeee 8 7 n

/-- FP16 datum (R156). -/
def decodeFp16 (n : Nat) : FVal := decodeIeee 5 10 n

/-- E5M2 datum (R155). -/
def decodeE5m2 (n : Nat) : FVal := decodeIeee 5 2 n

/-- E4M3 datum (R155): no infinities, NaN only at S.1111.111. -/
def decodeE4m3 (n : Nat) : FVal :=
  let neg := n.testBit 7
  let ex := fldN n 3 4
  let m := fldN n 0 3
  if ex = 15 ∧ m = 7 then .nan
  else if ex = 0 then .fin neg m (-9)
  else .fin neg (8 + m) ((ex : Int) - 10)

/-- Round m × 2^e to a multiple of 2^q, nearest even, as a count of 2^q. -/
def rneAt (m : Nat) (e q : Int) : Nat :=
  if q ≤ e then m * 2 ^ (e - q).toNat
  else
    let s := (q - e).toNat
    let k := m / 2 ^ s
    let r := m % 2 ^ s
    if 2 * r < 2 ^ s then k else if 2 ^ s < 2 * r then k + 1 else k + k % 2

/-- The exponent of the last place of a `p`-bit rounding of m × 2^e, not below `qmin`. -/
def ulpExp (p : Nat) (qmin : Int) (m : Nat) (e : Int) : Int :=
  max (e + (Nat.log2 m + 1 : Nat) - p) qmin

/-- Encode a rounded magnitude k × 2^q of a format with `mb` mantissa bits whose smallest place is 2^qmin: the exponent and
mantissa fields as one number; none when the magnitude lies beyond 2^top. -/
def packMag (mb : Nat) (qmin : Int) (top : Nat) (k : Nat) (q : Int) : Option Nat :=
  if k = 0 then some 0
  else
    let k' := if k = 2 ^ (mb + 1) then 2 ^ mb else k
    let q' := if k = 2 ^ (mb + 1) then q + 1 else q
    if (top : Int) ≤ q' + Nat.log2 k' then none
    else if k' < 2 ^ mb then some k'
    else some ((q' - qmin + 1).toNat * 2 ^ mb + (k' - 2 ^ mb))

/-- Round an exact value to FP32 (R159). `flush` writes results below 2^-126 as a zero of their sign. -/
def round32 (flush : Bool) (neg : Bool) (m : Nat) (e : Int) : FRes :=
  if m = 0 then ⟨w32 (withSign neg 0 32), 0⟩
  else
    let q := ulpExp 24 (-149) m e
    match packMag 23 (-149) 128 (rneAt m e q) q with
    | none => ⟨w32 (withSign neg 0x7F800000 32), fOvf⟩
    | some b => if flush && b < 0x800000 then ⟨w32 (withSign neg 0 32), 0⟩ else ⟨w32 (withSign neg b 32), 0⟩

/-- A datum as FP32, rounding if it must. -/
def encode32 (flush : Bool) : FVal → FRes
  | .nan => ⟨nanBits, fNan⟩
  | .inf neg => ⟨w32 (withSign neg 0x7F800000 32), 0⟩
  | .fin neg m e => round32 flush neg m e

/-- A datum widened exactly to FP32 without flags (R121). -/
def widen32 : FVal → Word
  | .nan => nanBits
  | .inf neg => w32 (withSign neg 0x7F800000 32)
  | .fin neg m e => (round32 false neg m e).bits

/-- Exact product of two data. -/
def fmulX : FVal → FVal → FVal
  | .nan, _ => .nan
  | _, .nan => .nan
  | .inf a, .inf b => .inf (a != b)
  | .inf a, .fin b m _ => if m = 0 then .nan else .inf (a != b)
  | .fin a m _, .inf b => if m = 0 then .nan else .inf (a != b)
  | .fin a m e, .fin b n f => .fin (a != b) (m * n) (e + f)

/-- Signed integer of a finite datum at a common exponent. -/
def atExp (neg : Bool) (m : Nat) (e q : Int) : Int :=
  let v : Int := (m * 2 ^ (e - q).toNat : Nat)
  if neg then -v else v

/-- Exact sum of two data (R159: an exact zero is +0 unless both addends are -0). -/
def faddX : FVal → FVal → FVal
  | .nan, _ => .nan
  | _, .nan => .nan
  | .inf a, .inf b => if a = b then .inf a else .nan
  | .inf a, .fin .. => .inf a
  | .fin .., .inf b => .inf b
  | .fin a m e, .fin b n f =>
    let q := min e f
    let v := atExp a m e q + atExp b n f q
    if v = 0 then .fin (a && b && m = 0 && n = 0) 0 0 else .fin (decide (v < 0)) v.natAbs q

/-- FP32 addition (R159). -/
def fadd (ftz : Bool) (a b : Word) : FRes := encode32 ftz (faddX (decode32 ftz a) (decode32 ftz b))

/-- The negated word. -/
def fneg (a : Word) : Word := a ^^^ 0x80000000#32

/-- FP32 multiplication (R159). -/
def fmul (ftz : Bool) (a b : Word) : FRes := encode32 ftz (fmulX (decode32 ftz a) (decode32 ftz b))

/-- Fused multiply and add on data, one rounding (R160). -/
def fmaV (flush : Bool) (a b c : FVal) : FRes := encode32 flush (faddX (fmulX a b) c)

/-- FP32 fused multiply and add (R160). -/
def ffma (ftz : Bool) (a b c : Word) : FRes := fmaV ftz (decode32 ftz a) (decode32 ftz b) (decode32 ftz c)

/-- Order of data that are not NaN: a < b, with -0 below +0 (R160). -/
def fltV : FVal → FVal → Bool
  | .nan, _ => false
  | _, .nan => false
  | .inf a, .inf b => a && !b
  | .inf a, .fin .. => a
  | .fin .., .inf b => !b
  | .fin a m e, .fin b n f =>
    let q := min e f
    let x := atExp a m e q
    let y := atExp b n f q
    decide (x < y) || (decide (x = y) && a && !b)

/-- MAX (R160). -/
def fmax (ftz : Bool) (a b : Word) : FRes :=
  match decode32 ftz a, decode32 ftz b with
  | .nan, _ => ⟨nanBits, fNan⟩
  | _, .nan => ⟨nanBits, fNan⟩
  | x, y => encode32 ftz (if fltV x y then y else x)

/-- MIN (R160). -/
def fmin (ftz : Bool) (a b : Word) : FRes :=
  match decode32 ftz a, decode32 ftz b with
  | .nan, _ => ⟨nanBits, fNan⟩
  | _, .nan => ⟨nanBits, fNan⟩
  | x, y => encode32 ftz (if fltV y x then y else x)

/-- ABS (R160): the sign cleared, a NaN made canonical. -/
def fabs (ftz : Bool) (a : Word) : FRes :=
  match decode32 ftz a with
  | .nan => ⟨nanBits, fNan⟩
  | .inf _ => ⟨0x7F800000#32, 0⟩
  | .fin _ m e => round32 ftz false m e

/-- INT32 to FP32, nearest even (R122). -/
def intToF32 (v : Int) : Word := (round32 false (decide (v < 0)) v.natAbs 0).bits

/-- Narrowing to an integer range, nearest even, saturating, NaN to 0 (R161, Table 6-5). -/
def toInt (lo hi : Int) : FVal → Int × Nat
  | .nan => (0, 0)
  | .inf neg => (if neg then lo else hi, fVsat)
  | .fin neg m e =>
    let k : Int := (rneAt m e (max e 0) * 2 ^ (max e 0).toNat : Nat)
    let v := if neg then -k else k
    if v < lo then (lo, fVsat) else if hi < v then (hi, fVsat) else (v, 0)

/-- FP32 to BF16 (R161): beyond range is an infinity and sets OVF. -/
def toBf16 : FVal → Nat × Nat
  | .nan => (0x7FC0, 0)
  | .inf neg => (withSign neg 0x7F80 16, 0)
  | .fin neg m e =>
    if m = 0 then (withSign neg 0 16, 0)
    else
      let q := ulpExp 8 (-133) m e
      match packMag 7 (-133) 128 (rneAt m e q) q with
      | none => (withSign neg 0x7F80 16, fOvf)
      | some b => (withSign neg b 16, 0)

/-- FP32 to FP16 (R161): beyond range saturates to 65,504 and sets VSAT. -/
def toFp16 : FVal → Nat × Nat
  | .nan => (0x7E00, 0)
  | .inf neg => (withSign neg 0x7BFF 16, fVsat)
  | .fin neg m e =>
    if m = 0 then (withSign neg 0 16, 0)
    else
      let q := ulpExp 11 (-24) m e
      match packMag 10 (-24) 16 (rneAt m e q) q with
      | none => (withSign neg 0x7BFF 16, fVsat)
      | some b => (withSign neg b 16, 0)

/-- FP32 to E4M3 (R161): beyond range saturates to 448 and sets VSAT. -/
def toE4m3 : FVal → Nat × Nat
  | .nan => (0x7F, 0)
  | .inf neg => (withSign neg 0x7E 8, fVsat)
  | .fin neg m e =>
    if m = 0 then (withSign neg 0 8, 0)
    else
      let q := ulpExp 4 (-9) m e
      match packMag 3 (-9) 9 (rneAt m e q) q with
      | none => (withSign neg 0x7E 8, fVsat)
      | some b => if 0x7F ≤ b then (withSign neg 0x7E 8, fVsat) else (withSign neg b 8, 0)

/-- Scale a datum by a power of two, rounding to FP32 and writing results below 2^-126 as zeros (R166). -/
def scale2 (w : Word) (k : Int) : FRes :=
  match decode32 false w with
  | .fin neg m e => round32 true neg m (e + k)
  | v => encode32 true v

/-- A result below 2^-126 becomes a zero of its sign, and a NaN the canonical one (R166). -/
def flushRes (r : FRes) : FRes :=
  if fld r.bits 23 8 = 0 then ⟨r.bits &&& 0x80000000#32, r.flags⟩
  else if fld r.bits 23 8 = 255 ∧ fld r.bits 0 23 ≠ 0 then ⟨nanBits, r.flags⟩ else r

end Sys2Proof.Machine
end

