-- ==== Sys2Proof/Machine/Engine.lean ====
section
/-! DEFINITION. The arithmetic of the matrix engine and of the vector unit on plain lists (R116 to R125, R154 to R167):
no state is read or written here. -/

namespace Sys2Proof.Machine

/-- Split a list into pieces of `n`, at most `f` of them. -/
def chunks {α : Type} (n : Nat) : Nat → List α → List (List α)
  | 0, _ => []
  | f + 1, l => l.take n :: chunks n f (l.drop n)

/-- Signed value of the low 4 bits (R154). -/
def int4 (n : Nat) : Int := sgn n 4

/-- Bytes of a block of each weight format (Table 5-6). -/
def wfmtBytes (f : Nat) : Nat := if f = 1 then 2048 else if f = 5 ∨ f = 6 then 8192 else 4096

/-- Whether a format code is an integer format. -/
def wfmtInt (f : Nat) : Bool := decide (f ≤ 2)

/-- A weight row of an integer block, 64 outputs (R116). `k` below 64 and above select the I4P halves. -/
def intRows (b : List Byte) : Nat → List (List Int)
  | 0 => chunks 64 64 (b.map (fun x => sgn x.toNat 8))
  | 1 => (chunks 32 64 b).map (fun r => r.flatMap (fun x => [int4 x.toNat, int4 (x.toNat / 16)]))
  | _ => (chunks 64 64 b).map (fun r => r.map (fun x => int4 x.toNat))
         ++ (chunks 64 64 b).map (fun r => r.map (fun x => int4 (x.toNat / 16)))

/-- A float datum of a format code of Table 5-6. -/
def fmtDatum (f n : Nat) : FVal :=
  if f = 3 then decodeE4m3 n else if f = 4 then decodeE5m2 n else if f = 5 then decodeBf16 n else decodeFp16 n

/-- Little-endian 16-bit words of bytes. -/
def halves : List Byte → List Nat
  | a :: b :: t => (a.toNat + 256 * b.toNat) :: halves t
  | _ => []

/-- The data of a row of bytes in a float format. -/
def fmtData (f : Nat) (b : List Byte) : List FVal :=
  if f = 3 ∨ f = 4 then b.map (fun x => fmtDatum f x.toNat) else (halves b).map (fmtDatum f)

/-- The 64 weight rows of a float block (R116). -/
def fpRows (f : Nat) (b : List Byte) : List (List FVal) :=
  chunks 64 64 (fmtData f b)

/-- Whether the formats pair (R117). -/
def fmtPair (wf af : Nat) : Bool :=
  (af = 0 && wf ≤ 2) || ((af = 3 || af = 4) && (wf = 3 || wf = 4)) || (af = 5 && wf = 5) || (af = 6 && wf = 6)

/-- Bytes of an activation row (R117). -/
def actBytes (wf af : Nat) : Nat := if af = 0 then (if wf = 2 then 128 else 64) else if af = 5 ∨ af = 6 then 128 else 64

/-- One saturating INT32 addition (R158): the value and whether it saturated. -/
def satAdd32 (a b : Int) : Int × Bool :=
  let s := a + b
  if s < -2147483648 then (-2147483648, true) else if 2147483647 < s then (2147483647, true) else (s, false)

/-- Add the products of one activation element to the columns (R157, R158). -/
def intMacStep (st : List Int × Bool) (a : Int) (ws : List Int) : List Int × Bool :=
  let r := List.zipWith (fun acc w => satAdd32 acc (a * w)) st.1 ws
  (r.map (fun x => x.1), st.2 || r.any (fun x => x.2))

/-- One INT32 target row: every product in ascending k (R157). -/
def intMacRow (acc : List Int) (as : List Int) (rows : List (List Int)) : List Int × Bool :=
  (List.zip as rows).foldl (fun st p => intMacStep st p.1 p.2) (acc, false)

/-- Add the products of one activation element to FP32 columns: a BF16 product is rounded first (R157). -/
def fpMacStep (ftz bf : Bool) (st : List Word × Nat) (a : FVal) (ws : List FVal) : List Word × Nat :=
  let r := List.zipWith (fun acc w =>
    let pr := if bf then encode32 ftz (fmulX a w) else ⟨0, 0⟩
    let pv := if bf then decode32 ftz pr.bits else fmulX a w
    let s := encode32 ftz (faddX (decode32 ftz acc) pv)
    (s.bits, s.flags ||| pr.flags)) st.1 ws
  (r.map (fun x => x.1), r.foldl (fun f x => f ||| x.2) st.2)

/-- One FP32 target row (R157). -/
def fpMacRow (ftz bf : Bool) (acc : List Word) (as : List FVal) (rows : List (List FVal)) : List Word × Nat :=
  (List.zip as rows).foldl (fun st p => fpMacStep ftz bf st p.1 p.2) (acc, 0)

/-- The products of one activation row against a block, added to the row's start value: words and TL_NUM_STAT bits; bit
`satBit` marks INT32 saturation of the store (R158). -/
def macRow (ftz : Bool) (wf af : Nat) (block act : List Byte) (start : List Word) (satBit : Nat) : List Word × Nat :=
  if wfmtInt wf then
    let r := intMacRow (start.map (fun w => w.toInt)) (act.map (fun x => sgn x.toNat 8)) (intRows block wf)
    (r.1.map (fun v => BitVec.ofInt 32 v), if r.2 then satBit else 0)
  else fpMacRow ftz (af = 5) start (fmtData af act) (fpRows wf block)

/-- Bytes in memory of the 64 lanes of VX.LD and VX.ST formats (R121). -/
def vfmtBytes (f : Nat) : Nat := if f = 0 then 256 else if f = 3 then 64 else 128

/-- Little-endian 32-bit words of bytes. -/
def words : List Byte → List Word
  | a :: b :: c :: d :: t => w32 (leNat [a, b, c, d]) :: words t
  | _ => []

/-- A BF16 datum widened exactly: the upper half of binary32, a NaN with its payload (R121, R156; DEDUCED, notes/assumptions/90). -/
def widenBf16 (n : Nat) : Word := w32 (n * 65536)

/-- An FP16 datum widened exactly, a NaN with its sign and payload (R121, R156; DEDUCED, notes/assumptions/90). -/
def widenFp16 (n : Nat) : Word :=
  match decodeFp16 n with
  | .nan => w32 ((n / 32768) * 0x80000000 + 0x7F800000 + n % 1024 * 8192)
  | v => widen32 v

/-- VX.LD (R121): 64 lanes from memory. -/
def vxLoad (f : Nat) (b : List Byte) : List Word :=
  if f = 0 then words b
  else if f = 1 then (halves b).map widenBf16
  else if f = 2 then (halves b).map widenFp16
  else b.map (fun x => BitVec.ofInt 32 (sgn x.toNat 8))

/-- VX.ST (R121, R161): the bytes of 64 lanes and the flags. -/
def vxStore (ftz : Bool) (f : Nat) (ls : List Word) : List Byte × Nat :=
  if f = 0 then (ls.flatMap (fun w => leBytes 4 w.toNat), 0)
  else if f = 1 then
    let r := ls.map (fun w => toBf16 (decode32 ftz w))
    (r.flatMap (fun x => leBytes 2 x.1), r.foldl (fun a x => a ||| x.2) 0)
  else if f = 2 then
    let r := ls.map (fun w => toFp16 (decode32 ftz w))
    (r.flatMap (fun x => leBytes 2 x.1), r.foldl (fun a x => a ||| x.2) 0)
  else
    let r := ls.map (fun w =>
      let v := w.toInt
      if v < -128 then ((-128 : Int), fVsat) else if 127 < v then (127, fVsat) else (v, 0))
    (r.map (fun x => BitVec.ofInt 8 x.1), r.foldl (fun a x => a ||| x.2) 0)

/-- Whether VX.ALU takes FUNC with this FP bit (R122). -/
def aluLegal (func : Nat) (fp : Bool) : Bool := func ≤ 14 && !(fp && 6 ≤ func && func ≤ 11)

/-- One lane of VX.ALU with FP = 0 (R122). -/
def aluInt (func : Nat) (a b c : Word) : FRes :=
  match func with
  | 0 => ⟨a + b, 0⟩
  | 1 => ⟨a - b, 0⟩
  | 2 => ⟨a * b, 0⟩
  | 3 => ⟨a * b + c, 0⟩
  | 4 => ⟨if a.toInt < b.toInt then b else a, 0⟩
  | 5 => ⟨if b.toInt < a.toInt then b else a, 0⟩
  | 6 => ⟨a &&& b, 0⟩
  | 7 => ⟨a ||| b, 0⟩
  | 8 => ⟨a ^^^ b, 0⟩
  | 9 => ⟨a <<< (fld b 0 5), 0⟩
  | 10 => ⟨a >>> (fld b 0 5), 0⟩
  | 11 => ⟨a.sshiftRight (fld b 0 5), 0⟩
  | 12 => ⟨intToF32 a.toInt, 0⟩
  | 13 => ⟨if c = 0 then b else a, 0⟩
  | _ => ⟨if a = 0x80000000#32 then 0x7FFFFFFF#32 else if a.toInt < 0 then -a else a, 0⟩

/-- One lane of VX.ALU with FP = 1 (R122, R160). -/
def aluFp (ftz : Bool) (func : Nat) (a b c : Word) : FRes :=
  match func with
  | 0 => fadd ftz a b
  | 1 => encode32 ftz (faddX (decode32 ftz a) (decode32 ftz (fneg b)))
  | 2 => fmul ftz a b
  | 3 => ffma ftz a b c
  | 4 => fmax ftz a b
  | 5 => fmin ftz a b
  | 12 =>
    let r := toInt (-2147483648) 2147483647 (decode32 ftz a)
    ⟨BitVec.ofInt 32 r.1, r.2⟩
  | 13 => ⟨if c = 0 then b else a, 0⟩
  | _ => fabs ftz a

/-- Collect lane results: the words and the flags. -/
def lanesOf (r : List FRes) : List Word × Nat := (r.map FRes.bits, r.foldl (fun a x => a ||| x.flags) 0)

/-- VX.ALU over the lanes (R122). -/
def vxAlu (ftz fp : Bool) (func : Nat) (va vb vc : List Word) : List Word × Nat :=
  lanesOf ((List.zip va (List.zip vb vc)).map (fun x =>
    if fp then aluFp ftz func x.1 x.2.1 x.2.2 else aluInt func x.1 x.2.1 x.2.2))

/-- One combination of VX.RED (R123). -/
def redOp (ftz : Bool) (op : Nat) (a b : Word) : FRes :=
  match op with
  | 0 => ⟨a + b, 0⟩
  | 1 => fadd ftz a b
  | 2 => ⟨if a.toInt < b.toInt then b else a, 0⟩
  | _ => fmax ftz a b

/-- One level of the pairwise tree (R123): neighbours combine. -/
def redLevel (ftz : Bool) (op : Nat) : List Word → List FRes
  | a :: b :: t => redOp ftz op a b :: redLevel ftz op t
  | [a] => [⟨a, 0⟩]
  | [] => []

/-- The tree of `n` levels with the flags collected. -/
def redTree (ftz : Bool) (op : Nat) : Nat → List Word × Nat → List Word × Nat
  | 0, s => s
  | n + 1, s =>
    let r := lanesOf (redLevel ftz op s.1)
    redTree ftz op n (r.1, s.2 ||| r.2)

/-- VX.RED (R123): lane 0 holds the reduction, the others 0. -/
def vxRed (ftz : Bool) (op : Nat) (va : List Word) : List Word × Nat :=
  let r := redTree ftz op 6 (va, 0)
  ((r.1.headD 0) :: List.replicate 63 0, r.2)

/-- The sort key of a lane (R124): signed INT32, or the bits as a sign-magnitude integer with -0 below +0. -/
def sortKey (fp : Bool) (w : Word) : Int :=
  if fp then (if bit w 31 then -(fld w 0 31 : Nat) - 1 else (fld w 0 31 : Nat)) else w.toInt

/-- Insert a lane into an ordered list, after lanes of equal key (R124: stable). -/
def sortInsert (desc : Bool) (x : Int × Nat × Word) : List (Int × Nat × Word) → List (Int × Nat × Word)
  | [] => [x]
  | y :: t =>
    if (if desc then decide (y.1 < x.1) else decide (x.1 < y.1)) then x :: y :: t else y :: sortInsert desc x t

/-- VX.SORT (R124, R167): the ordered keys and their lane numbers. -/
def vxSort (fp desc : Bool) (va : List Word) : List Word × List Word :=
  let keyed := (List.zip (List.range 64) va).map (fun p => (sortKey fp p.2, p.1, p.2))
  let r := keyed.foldl (fun acc x => sortInsert desc x acc) []
  (r.map (fun x => x.2.2), r.map (fun x => w32 x.2.1))

/-- Keep lanes 0 to k - 1 (R124). -/
def keepK (k : Nat) (l : List Word) : List Word := l.take k ++ List.replicate (64 - k) 0

/-- Bytes of an output row of VX.DEQ (R125). -/
def deqRowBytes (o : Nat) : Nat := if o = 0 then 128 else if o = 3 then 256 else 64

/-- One row of VX.DEQ (R125): convert, scale with one rounding, narrow. -/
def vxDeqRow (ftz : Bool) (o : Nat) (isFp : Bool) (row scales : List Word) : List Byte × Nat :=
  let pr := List.zipWith (fun a s => fmul ftz (if isFp then a else intToF32 a.toInt) s) row scales
  let fl := pr.foldl (fun a x => a ||| x.flags) 0
  let nar := pr.map (fun p =>
    if o = 0 then (let r := toBf16 (decode32 ftz p.bits); (leBytes 2 r.1, r.2))
    else if o = 1 then (let r := toInt (-128) 127 (decode32 ftz p.bits); ([BitVec.ofInt 8 r.1], r.2))
    else if o = 2 then (let r := toE4m3 (decode32 ftz p.bits); (leBytes 1 r.1, r.2))
    else (leBytes 4 p.bits.toNat, 0))
  (nar.flatMap (fun x => x.1), nar.foldl (fun a x => a ||| x.2) fl)

/-- A FP32 word of a numeric-mode table at a byte offset. -/
def nmWord (nm : Nat → Byte) (o : Nat) : Word := w32 (leNat [nm o, nm (o + 1), nm (o + 2), nm (o + 3)])

/-- The cubic of segment i of curve c at t (R166): three fused operations. -/
def curveP (ftz : Bool) (nm : Nat → Byte) (c i : Nat) (t : FVal) : FRes :=
  let b := 0x400 + 0x400 * c + 16 * i
  let k (j : Nat) : FVal := decode32 ftz (nmWord nm (b + 4 * j))
  let r1 := fmaV ftz (k 3) t (k 2)
  let r2 := fmaV ftz (decode32 ftz r1.bits) t (k 1)
  let r3 := fmaV ftz (decode32 ftz r2.bits) t (k 0)
  ⟨r3.bits, r1.flags ||| r2.flags ||| r3.flags⟩

/-- Floor of m × 2^e with sign. -/
def floorV (neg : Bool) (m : Nat) (e : Int) : Int :=
  let a : Int := if neg then -(m : Int) else m
  if 0 ≤ e then a * (2 ^ e.toNat : Nat) else a / (2 ^ (-e).toNat : Nat)

/-- Add flags to a result. -/
def FRes.with (r : FRes) (f : Nat) : FRes := ⟨r.bits, r.flags ||| f⟩

/-- Negate a result when asked. -/
def FRes.signed (r : FRes) (neg : Bool) : FRes := ⟨if neg then fneg r.bits else r.bits, r.flags⟩

/-- Curve 0, exp (Table 6-8). -/
def curveExp (ftz : Bool) (nm : Nat → Byte) (x : Word) : FRes :=
  match decode32 ftz x with
  | .nan => ⟨nanBits, fNan⟩
  | .inf neg => ⟨if neg then 0 else 0x7F800000#32, 0⟩
  | .fin a m e =>
    let y := encode32 ftz (fmulX (.fin a m e) (decode32 ftz (nmWord nm 0x40)))
    match decode32 ftz y.bits with
    | .nan => ⟨nanBits, y.flags⟩
    | .inf neg => ⟨if neg then 0 else 0x7F800000#32, y.flags⟩
    | .fin s n f =>
      let k := floorV s n f
      if 128 ≤ k then ⟨0x7F800000#32, y.flags⟩
      else if fltV (.fin s n f) (.fin true 126 0) then ⟨0, y.flags⟩
      else
        -- f = y - k exactly, in units of 2^q
        let q := min f 0
        let fr := (atExp s n f q - k * (2 ^ (-q).toNat : Nat)).toNat
        let i := fr * 64 / 2 ^ (-q).toNat
        let t : FVal := .fin false (fr * 64 - i * 2 ^ (-q).toNat) (q - 6)
        let p := curveP ftz nm 0 (min i 63) t
        (scale2 p.bits k).with (y.flags ||| p.flags)

/-- The normalised mantissa (24 bits) and exponent of a normal FP32 word. -/
def mantOf (x : Word) : Nat × Int := (0x800000 + fld x 0 23, (fld x 23 8 : Int) - 127)

/-- Curve 1, reciprocal (Table 6-8). -/
def curveRecip (ftz : Bool) (nm : Nat → Byte) (x : Word) : FRes :=
  let s := bit x 31
  if fld x 23 8 = 255 then (if fld x 0 23 = 0 then ⟨w32 (withSign s 0 32), 0⟩ else ⟨nanBits, fNan⟩)
  else if fld x 23 8 = 0 then ⟨w32 (withSign s 0x7F800000 32), 0⟩
  else
    let me := mantOf x
    let i := fld x 17 6
    let t : FVal := .fin false (me.1 - 0x800000 - i * 0x20000) (-23)
    let p := curveP ftz nm 1 i t
    ((scale2 p.bits (-me.2)).with p.flags).signed s

/-- Curve 2, rsqrt (Table 6-8). -/
def curveRsqrt (ftz : Bool) (nm : Nat → Byte) (x : Word) : FRes :=
  let s := bit x 31
  if fld x 23 8 = 255 then
    (if fld x 0 23 ≠ 0 then ⟨nanBits, fNan⟩ else if s then ⟨nanBits, fNan⟩ else ⟨0, 0⟩)
  else if fld x 23 8 = 0 then ⟨w32 (withSign s 0x7F800000 32), 0⟩
  else if s then ⟨nanBits, fNan⟩
  else
    let me := mantOf x
    let od := me.2 % 2
    let j := fld x 18 5
    let i := 32 * od.toNat + j
    let t : FVal := .fin false (me.1 - 0x800000 - j * 0x40000) (-23)
    let p := curveP ftz nm 2 i t
    (scale2 p.bits (-((me.2 - od) / 2))).with p.flags

/-- An infinity or the additive tail coefficient for an infinite input (R166). -/
def curveInf (a b : Word) (flip : Bool) : FRes :=
  if fld a 0 31 = 0 then ⟨b, 0⟩ else ⟨w32 (withSign (bit a 31 != flip) 0x7F800000 32), 0⟩

/-- Curves 3 and 4, uniform segments with linear tails (Table 6-8). -/
def curveUniform (ftz : Bool) (nm : Nat → Byte) (c : Nat) (x : Word) : FRes :=
  let h := 0x40 + 32 * c
  let lo := nmWord nm (h + 4)
  let se := sgn (nm (h + 8)).toNat 8
  let aLo := nmWord nm (h + 12)
  let bLo := nmWord nm (h + 16)
  let aHi := nmWord nm (h + 20)
  let bHi := nmWord nm (h + 24)
  match decode32 ftz x with
  | .nan => ⟨nanBits, fNan⟩
  | .inf neg => if neg then curveInf aLo bLo true else curveInf aHi bHi false
  | .fin a m e =>
    let d := encode32 ftz (faddX (.fin a m e) (decode32 ftz (fneg lo)))
    match decode32 ftz d.bits with
    | .nan => ⟨nanBits, d.flags⟩
    | .inf neg => if neg then (ffma ftz aLo x bLo).with d.flags else (ffma ftz aHi x bHi).with d.flags
    | .fin s n f =>
      if s && n ≠ 0 then (ffma ftz aLo x bLo).with d.flags
      else
        let i := (floorV false n (f - se)).toNat
        if 63 < i then (ffma ftz aHi x bHi).with d.flags
        else
          let t := encode32 ftz (faddX (.fin s n f) (.fin true i se))
          (curveP ftz nm c i (decode32 ftz t.bits)).with (d.flags ||| t.flags)

/-- VX.CURVE on one lane (R166). -/
def curveLane (ftz : Bool) (nm : Nat → Byte) (c : Nat) (x : Word) : FRes :=
  flushRes (if c = 0 then curveExp ftz nm x else if c = 1 then curveRecip ftz nm x
            else if c = 2 then curveRsqrt ftz nm x else curveUniform ftz nm c x)

end Sys2Proof.Machine
end

