-- ==== Sys2Proof/Machine/TileMath.lean ====
section
/-! DEFINITION. The matrix and vector instructions (R116 to R125, R154 to R167): checks at the start, then the effect, computed
by Machine/Engine.lean. -/

namespace Sys2Proof.Machine

/-! ## Accumulators, vector registers, the numeric-mode table -/

/-- The bytes of `nm_default` (R165): MAGIC, VERSION, FTZ = 0 and the fields that must be 0 are as R163 and R165 say; the others are
not printed. -/
def nmDef (k : Nat) : Byte :=
  let o := k % 8192
  if o = 0 then 0x4E else if o = 1 then 0x4D else if o = 2 then 0x54 else if o = 3 then 0x42 else if o = 4 then 0x01
  else if o < 0x40 then 0
  else if 0xE0 ≤ o ∧ o < 0x400 then 0
  else if 0x1800 ≤ o then 0
  else if o < 0xE0 then
    let c := (o - 0x40) / 32
    let b := (o - 0x40) % 32
    if c = 0 then (if b < 4 then Config.nmDefaultByte o else 0)
    else if c < 3 then 0
    else if (4 ≤ b ∧ b < 9) ∨ (0xC ≤ b ∧ b < 0x1C) then Config.nmDefaultByte o
    else 0
  else Config.nmDefaultByte o

/-- A byte of a tile's active numeric-mode table. -/
def Dev.nm (d : Dev) (t o : Nat) : Byte := tabGet nmDef d.mem.nmAct (t * 8192 + o)

/-- FTZ of the active table (Table 6-6). -/
def Dev.ftz (d : Dev) (t : Nat) : Bool := bit (d.nm t 6) 0

/-- A row of an accumulator store, and whether it is tagged FP32. -/
def Dev.accRow (d : Dev) (t s r : Nat) : List Word := tabGetList zeroW d.mem.acc (((t * 2 + s) * 64 + r) * 64) 64
def Dev.accIsFp (d : Dev) (t s r : Nat) : Bool := tabGet falseB d.mem.accFp ((t * 2 + s) * 64 + r)

/-- Write a row of an accumulator store. -/
def Dev.setAcc (d : Dev) (t s r : Nat) (fp : Bool) (ws : List Word) : Dev :=
  { d with mem := { d.mem with acc := tabSetList zeroW d.mem.acc (((t * 2 + s) * 64 + r) * 64) ws,
                               accFp := tabSet falseB d.mem.accFp ((t * 2 + s) * 64 + r) fp } }

/-- A vector register. -/
def Dev.vec (d : Dev) (t v : Nat) : List Word := tabGetList zeroW d.mem.vreg ((t * 32 + v) * 64) 64

/-- Write a vector register. -/
def Dev.setVec (d : Dev) (t v : Nat) (ws : List Word) : Dev :=
  { d with mem := { d.mem with vreg := tabSetList zeroW d.mem.vreg ((t * 32 + v) * 64) ws } }

/-- Set bits of TL_NUM_STAT (Table 6-12). -/
def Dev.numStat (d : Dev) (t f : Nat) : Dev := if f = 0 then d else d.orReg (Reg.TL_NUM_STAT t) f

/-! ## MX (R116 to R120) -/

/-- MX instructions start only after the ramp (R210). -/
def mxOk (t : Nat) (d : Dev) (_ : QEntry) : Bool := decide ((d.tile t).rampUntil = 0)

/-- MX.LDW: the block at SA becomes the loaded block (R116). -/
def execMxLdw (t : Fin 64) (ph : Phase) (cf : Option Conflict) (s : State) : Answer :=
  s.runDev fun d => d.queued t 0x20 ph (mxOk t) fun d e =>
    let f := fld e.word 41 3
    let sa := saAddr e.word 25 e.ix
    d.checked t e.pc (spCheck 64 [(sa, wfmtBytes f)]) fun d =>
      d.conflict t e.pc (lineUse 0 sa (wfmtBytes f)) [] cf fun d lim =>
        if lim.isSome then d
        else (d.updTile t (fun ts => { ts with block := some { fmt := f, bytes := d.spadBytes t sa (wfmtBytes f) } })).complete t 0

/-- The checks of the matrix engine (R117): a loaded block, formats that pair, and for an addition rows of the same type. -/
def macCheck (d : Dev) (t : Nat) (blk : Option Block) (af acc row0 rows : Nat) (add : Bool) : Option Nat :=
  match blk with
  | none => some 0x1007
  | some b =>
    if !(fmtPair b.fmt af) then some 0x1007
    else if add && (List.range rows).any (fun i => d.accIsFp t acc (row0 + i) != decide (af ≠ 0)) then some 0x1007
    else none

/-- The effect of MX.MAC on one target row (R117, R157). -/
def macOne (t : Nat) (b : Block) (af acc row0 sa : Nat) (add : Bool) (d : Dev) (i : Nat) : Dev :=
  let start := if add then d.accRow t acc (row0 + i) else List.replicate 64 0
  let act := d.spadBytes t (sa + i * actBytes b.fmt af) (actBytes b.fmt af)
  let r := macRow (d.ftz t) b.fmt af b.bytes act start (2 ^ acc)
  (d.setAcc t acc (row0 + i) (decide (af ≠ 0)) r.1).numStat t r.2

/-- The cycles between two activation reads of MX.MAC (R522). -/
def macStep (af : Nat) : Nat := if af = 5 ∨ af = 6 then 4 else 1

/-- The activation reads of MX.MAC: row i in cycle i, or in cycle 4i for 16-bit formats (R522). -/
def macUse (af sa ra rows : Nat) : PortUse :=
  (List.range (rows * macStep af)).map (fun c => if c % macStep af = 0 then [(0, (sa + c / macStep af * ra, ra))] else [])

/-- MX.MAC: activation rows times the loaded block into a store (R117, R118, R157). -/
def execMxMac (t : Fin 64) (ph : Phase) (cf : Option Conflict) (s : State) : Answer :=
  s.runDev fun d => d.queued t 0x21 ph (mxOk t) fun d e =>
    let w := e.word
    let acc := fld w 43 1
    let af := fld w 38 3
    let rows := fld w 15 7
    let row0 := fld w 9 6
    let add := decide (fld w 41 2 = 1) || (decide (fld w 41 2 = 2) && !e.first)
    let sa := saAddr w 22 e.ix
    let blk := (d.tile t).block
    let ra := actBytes (match blk with | some b => b.fmt | none => 0) af
    d.checked t e.pc (firstOf [spCheck 64 [(sa, rows * ra)], macCheck d t blk af acc row0 rows add]) fun d =>
      match blk with
      | some b => d.conflict t e.pc (macUse af sa ra rows) [] cf fun d lim =>
          ((before lim 0 (macStep af) (List.range rows)).foldl (macOne t b af acc row0 sa add) d).complete t 0
      | none => d

/-- MX.CLR: every row of a store 0 and INT32 (R119). -/
def execMxClr (t : Fin 64) (ph : Phase) (s : State) : Answer :=
  s.runDev fun d => d.queued t 0x22 ph (mxOk t) fun d e =>
    ((List.range 64).foldl (fun d r => d.setAcc t (fld e.word 43 1) r false (List.replicate 64 0)) d).complete t 0

/-! ## VX (R121 to R125) -/

/-- VX instructions start whenever R81 lets them. -/
def anyOk (_ : Dev) (_ : QEntry) : Bool := true

/-- VX.LD: 64 lanes from the scratchpad (R121). -/
def execVxLd (t : Fin 64) (ph : Phase) (cf : Option Conflict) (s : State) : Answer :=
  s.runDev fun d => d.queued t 0x40 ph anyOk fun d e =>
    let f := fld e.word 21 2
    let sa := saAddr e.word 23 e.ix
    d.checked t e.pc (spCheck 64 [(sa, vfmtBytes f)]) fun d => d.conflict t e.pc (lineUse 1 sa (vfmtBytes f)) [] cf fun d lim =>
      if lim.isSome then d
      else (d.setVec t (fld e.word 39 5) (vxLoad f (d.spadBytes t sa (vfmtBytes f)))).complete t 1

/-- VX.ST: 64 lanes to the scratchpad, narrowed (R121, R161). -/
def execVxSt (t : Fin 64) (ph : Phase) (cf : Option Conflict) (s : State) : Answer :=
  s.runDev fun d => d.queued t 0x41 ph anyOk fun d e =>
    let f := fld e.word 21 2
    let sa := saAddr e.word 23 e.ix
    d.checked t e.pc (spCheck 64 [(sa, vfmtBytes f)]) fun d => d.conflict t e.pc (lineUse 2 sa (vfmtBytes f)) [] cf fun d lim =>
      let r := vxStore (d.ftz t) f (d.vec t (fld e.word 39 5))
      ((d.setSpad t sa (before lim 0 1 (chunks 64 (vfmtBytes f / 64) r.1)).flatten).numStat t r.2).complete t 1

/-- Write a vector result and its flags, and complete. -/
def Dev.vecDone (d : Dev) (t v : Nat) (r : List Word × Nat) : Dev := ((d.setVec t v r.1).numStat t r.2).complete t 1

/-- VX.ALU: FUNC lane by lane (R122, R160). -/
def execVxAlu (t : Fin 64) (ph : Phase) (s : State) : Answer :=
  s.runDev fun d => d.queued t 0x42 ph anyOk fun d e =>
    let w := e.word
    d.vecDone t (fld w 33 5)
      (vxAlu (d.ftz t) (bit w 17) (fld w 38 6) (d.vec t (fld w 28 5)) (d.vec t (fld w 23 5)) (d.vec t (fld w 18 5)))

/-- VX.CURVE: a curve of the numeric-mode table on each lane (R123, R166). -/
def execVxCurve (t : Fin 64) (ph : Phase) (s : State) : Answer :=
  s.runDev fun d => d.queued t 0x43 ph anyOk fun d e =>
    let w := e.word
    d.vecDone t (fld w 36 5) (lanesOf ((d.vec t (fld w 31 5)).map (curveLane (d.ftz t) (d.nm t) (fld w 41 3))))

/-- VX.RED: lane 0 holds the reduction of 64 lanes by the pairwise tree (R123). -/
def execVxRed (t : Fin 64) (ph : Phase) (s : State) : Answer :=
  s.runDev fun d => d.queued t 0x44 ph anyOk fun d e =>
    let w := e.word
    d.vecDone t (fld w 37 5) (vxRed (d.ftz t) (fld w 42 2) (d.vec t (fld w 32 5)))

/-- VX.BCAST: one lane in all 64 (R123). -/
def execVxBcast (t : Fin 64) (ph : Phase) (s : State) : Answer :=
  s.runDev fun d => d.queued t 0x45 ph anyOk fun d e =>
    let w := e.word
    d.vecDone t (fld w 39 5) (List.replicate 64 ((d.vec t (fld w 34 5)).getD (fld w 28 6) 0), 0)

/-- VX.SORT: the keys in order and their lane numbers (R124, R167). -/
def execVxSort (t : Fin 64) (ph : Phase) (s : State) : Answer :=
  s.runDev fun d => d.queued t 0x46 ph anyOk fun d e =>
    let w := e.word
    let r := vxSort (bit w 27) (bit w 28) (d.vec t (fld w 29 5))
    ((d.setVec t (fld w 39 5) r.1).setVec t (fld w 34 5) r.2).complete t 1

/-- VX.TOPK: as VX.SORT, lanes from K on 0; with K = 0 nothing changes (R124). -/
def execVxTopk (t : Fin 64) (ph : Phase) (s : State) : Answer :=
  s.runDev fun d => d.queued t 0x47 ph anyOk fun d e =>
    let w := e.word
    let k := fld w 20 7
    if k = 0 then d.complete t 1
    else
      let r := vxSort (bit w 27) (bit w 28) (d.vec t (fld w 29 5))
      ((d.setVec t (fld w 39 5) (keepK k r.1)).setVec t (fld w 34 5) (keepK k r.2)).complete t 1

/-- VX.ACC: a row of a store in a vector register (R123). -/
def execVxAcc (t : Fin 64) (ph : Phase) (s : State) : Answer :=
  s.runDev fun d => d.queued t 0x48 ph anyOk fun d e =>
    let w := e.word
    d.vecDone t (fld w 39 5) (d.accRow t (fld w 38 1) (fld w 32 6), 0)

/-- One output row of VX.DEQ (R125). -/
def deqOne (t acc dst o : Nat) (scales : List Word) (d : Dev) (i : Nat) : Dev :=
  let r := vxDeqRow (d.ftz t) o (d.accIsFp t acc i) (d.accRow t acc i) scales
  (d.setSpad t (dst + i * deqRowBytes o) r.1).numStat t r.2

/-- The accesses of VX.DEQ: the scale lines in cycles 0 to 3, output row i in cycle 3 + i (R522). -/
def deqUse (dst scl rb rows : Nat) : PortUse :=
  if rows = 0 then []
  else (List.range (max 4 (rows + 3))).map (fun c =>
    (if c < 4 then [(1, (scl + c * 64, 64))] else []) ++ (if 3 ≤ c ∧ c < rows + 3 then [(2, (dst + (c - 3) * rb, rb))] else []))

/-- VX.DEQ: accumulator rows converted, scaled and stored (R125). -/
def execVxDeq (t : Fin 64) (ph : Phase) (cf : Option Conflict) (s : State) : Answer :=
  s.runDev fun d => d.queued t 0x49 ph anyOk fun d e =>
    let w := e.word
    let rows := fld w 4 7
    let o := fld w 2 2
    let dst := saAddr w 27 e.ix
    let scl := saAddr w 11 e.ix
    d.checked t e.pc (spCheck 64 [(dst, rows * deqRowBytes o), (scl, if rows = 0 then 0 else 256)]) fun d =>
      let use := deqUse dst scl (deqRowBytes o) rows
      d.conflict t e.pc use (selfHits use) cf fun d lim =>
        let scales := words (d.spadBytes t scl 256)
        ((before lim 3 1 (List.range rows)).foldl (deqOne t (fld w 43 1) dst o scales) d).complete t 1

/-! ## Committing a numeric-mode table (R164) -/

/-- A byte of a tile's shadow table. -/
def Dev.nmShadow (d : Dev) (t o : Nat) : Byte := tabGet nmDef d.mem.nmSh (t * 8192 + o)

/-- Whether every byte of a range of the shadow is 0. -/
def Dev.nmZero (d : Dev) (t o n : Nat) : Bool := (List.range n).all (fun i => decide (d.nmShadow t (o + i) = 0))

/-- The checks of R164 on the shadow: MAGIC and VERSION, the fields that must be 0, SEGEXP of curves 3 and 4. -/
def Dev.nmOk (d : Dev) (t : Nat) : Bool :=
  let b := d.nmShadow t
  decide (b 0 = 0x4E ∧ b 1 = 0x4D ∧ b 2 = 0x54 ∧ b 3 = 0x42 ∧ b 4 = 1 ∧ b 5 = 0 ∧ (b 6).toNat < 2 ∧ b 7 = 0)
    && d.nmZero t 8 56 && d.nmZero t 0xE0 800 && d.nmZero t 0x1800 2048
    && d.nmZero t 0x44 28 && d.nmZero t 0x60 32 && d.nmZero t 0x80 32
    && [3, 4].all (fun c =>
      let h := 0x40 + 32 * c
      d.nmZero t h 4 && d.nmZero t (h + 9) 3 && d.nmZero t (h + 0x1C) 4
        && decide (-24 ≤ sgn (b (h + 8)).toNat 8 ∧ sgn (b (h + 8)).toNat 8 ≤ 8))

/-- A write of TL_NM_COMMIT (R164). -/
def Dev.nmCommit (d : Dev) (t : Nat) (v : Word) : Dev := if bit v 0 then d.orReg (Reg.TL_NM_STAT t) 1 else d

/-- TL_NM_COMMIT: a write of 1 waits for the next edge (R164). -/
def execTlNmCommit (t : Fin 64) (v : Word) (s : State) : Answer := s.runDev fun d => d.nmCommit t v

/-- Take the shadow of a tile at an edge, or refuse it (R164). -/
def Dev.nmEdge (d : Dev) (t : Nat) : Dev :=
  if !(bit (d.reg (Reg.TL_NM_STAT t)) 0) then d
  else if d.nmOk t then
    let lo := t * 8192
    let mine := d.mem.nmSh.filter (fun e => decide (lo ≤ e.1 ∧ e.1 < lo + 8192))
    let act := mine.foldl (fun m e => tabSet nmDef m e.1 e.2) (tabDrop d.mem.nmAct (fun k => decide (lo ≤ k ∧ k < lo + 8192)))
    let crc := if mine.isEmpty then 0x3A61C0D5 else crc32c ((List.range 8192).map (fun o => tabGet nmDef act (lo + o)))
    let d := { d with mem := { d.mem with nmAct := act } }
    (d.setReg (Reg.TL_NM_CRC t) (w32 crc)).setReg (Reg.TL_NM_STAT t) 0
  else (d.setReg (Reg.TL_NM_STAT t) 2).logC 0x100E (tileLog t)

end Sys2Proof.Machine
end

