-- ==== Sys2Proof/Machine/Tick.lean ====
section
/-! DEFINITION. The tick unit (R14, R47 to R53, R74 to R76): requests, the edge and all that it does, commits, overrun; and the composer's commands
(R55 to R57, R63). -/

namespace Sys2Proof.Machine

/-! ## Commit and overrun (R61, R74 to R76) -/

/-- The end of a slot of a committed instance: STEP, and with COMPLETES the completion to be written (R61, R433). The completion stands outside the
guarantee when any instance that contributed to its command does (R25, R27). -/
def Dev.commitBound (d : Dev) (x : Inst) (b : Bound) : Dev :=
  let st := d.sess b.sid
  if x.flags.testBit 0 then
    let d := d.setSess b.sid { st with step := 0, outside := false }
    { d with host := { d.host with jobs := d.host.jobs ++
        [{ bound := b, tenant := x.tenant, status := 0, outside := x.outside || d.outside x.tenant || st.outside,
           tick := d.tick.count, frag := x.frag, sid0 := x.sid0 }] } }
  else
    let d := d.setSess b.sid { st with step := min (st.step + 1) 255, outside := st.outside || x.outside || d.outside x.tenant }
    if st.step = 255 then
      d.logSev 0x000B 0 { atNode nodeComposer with tenant := some x.tenant, frag := x.frag, session := x.sid0 }
    else d

/-- An instance commits (R74): its declared cost counts for learning (R370). -/
def Dev.commitInst (d : Dev) (i : Nat) : Dev :=
  match d.tick.cur[i]? with
  | none => d
  | some x =>
    if x.alive then
      let c := (x.eclass + 1) * x.wc * 2 ^ fldN x.flags 3 2 * popcountN 64 x.mask.toNat
      let d := d.setInst i { x with status := .committed }
      let d := { d with pwr := { d.pwr with learned := d.pwr.learned ++ [(x.phase, c, x.dramB)] } }
      x.bound.foldl (fun d b => d.commitBound x b) d
    else d

/-- INSTANCE_COMMIT: the last tile of instance `i`'s mask has executed END (R74). -/
def execInstanceCommit (i : Nat) (s : State) : Answer :=
  s.runDev fun d =>
    match d.tick.cur[i]? with
    | some x => if x.mask &&& ~~~ x.done = 0 then d.commitInst i else d
    | none => d

/-- Discard one instance at an aborted edge (R76). -/
def Dev.abortInst (d : Dev) (i : Nat) : Dev :=
  match d.tick.cur[i]? with
  | none => d
  | some x =>
    if !x.alive then d
    else if x.flags.testBit 2 then
      let d := (d.setInst i { x with status := .discarded }).stopTiles i 0x000D none
      ({ d with pwr := { d.pwr with spoiled := true } }).unreserveAll x
    else (d.logS 0x000D (instAt d i nodeTick 0)).haltQuiet i 0x000D

/-- Halt the tiles that still run the table and discard what has not committed (R76). -/
def Dev.abortTable (d : Dev) : Dev :=
  (List.range d.tick.cur.length).foldl (fun d i => d.abortInst i) (d.incReg Reg.TK_ABORTS 1)

/-! ## The edge (R14) -/

/-- Take out of the packed table the instances that bind a session whose instance was halted or discarded (R62). -/
def Dev.prune (d : Dev) : Dev :=
  let lost := fun (x : Inst) => match x.status with | .halted _ => true | .discarded => true | _ => false
  let sids := (d.tick.cur.filter lost).flatMap (fun x => x.bound.map (·.sid))
  let out := fun (x : Inst) => x.bound.any (fun b => sids.contains b.sid)
  let d := (d.tick.nxt.filter out).foldl (fun d x => d.unreserveAll x) d
  { d with tick := { d.tick with nxt := d.tick.nxt.filter (fun x => !out x) } }

/-- Count the slip of an edge that was held (R75): not the fixed delay of several stands (R398). -/
def Dev.countSlip (d : Dev) : Dev :=
  match d.tick.slipDue with
  | none => d
  | some t =>
    let t := if d.multi then t + 1024000 / d.fclk else t
    if d.multi && !d.pwr.avsHeld then d
    else
      let dt := d.nowNs - t
      let total := d.tick.slipNs + dt
      let d := d.incReg Reg.TK_SLIP_TICKS 1
      let d := d.setReg Reg.TK_SLIP_US (w32 (min (total / 1000) 0xFFFFFFFF))
      let d := d.setReg Reg.TK_SLIP_MAX_US (w32 (max (d.regN Reg.TK_SLIP_MAX_US) (min (dt / 1000) 0xFFFFFFFF)))
      { d with tick := { d.tick with slipNs := total } }

/-- The tick counter advances and the records of one tick start afresh (R53); an exit's duration is known at its first edge. -/
def Dev.newTick (d : Dev) : Dev :=
  let d := if d.pwr.firstEdge.isSome then d.setReg Reg.PW_EXIT_US (w32 (min ((d.nowNs - d.pwr.wakeNs) / 1000) 0xFFFFFFFF)) else d
  { d with tick := { d.tick with count := (d.tick.count + 1) % 2 ^ 64, edgeNs := d.nowNs, timerNs := d.nowNs, started := true, held := false,
                                 slipDue := none, onced := [], withdrawn := [], withdrawnAll := false },
           pwr := { d.pwr with avsHeld := false } }

/-- The tiles start the table (R14 step 2): an instance with no tile commits at once (R56). -/
def Dev.startTable (d : Dev) : Dev :=
  let t := d.tick.nxt
  let ran := fun k => t.any (fun x => decide (x.tenant = k))
  let d := { d with
    tick := { d.tick with cur := t, nxt := [] }
    sec := { d.sec with lastRun := (List.range 8).map (fun k => ran k || d.sec.lastRun.getD k false),
                        cleared := (List.range 8).map (fun k => !ran k && d.sec.cleared.getD k false) }
    pwr := { d.pwr with gatedNs := if t.any (fun x => decide (x.mask ≠ 0)) then none else some (d.pwr.gatedNs.getD d.nowNs) } }
  let d := d.tiles.foldl (fun d e => d.updTile e.1 (fun ts => { ts with firstDone := false })) d
  (List.range t.length).foldl (fun d i => match d.tick.cur[i]? with
    | some x => if x.mask = 0 then d.commitInst i else d
    | none => d) d

/-- The fragment store, the rules, the batch regions and the ramp as written take effect (R55, R57, R63, R212, R521). -/
def Dev.storeEdge (d : Dev) : Dev :=
  let t := d.tick
  let valid := t.validPend.foldl (fun v e => match e.2 with | some b => tabSet falseB v e.1 b | none => v) t.valid
  let rules := if t.rulePend then d.shadowRules (min (fld (d.reg Reg.TK_RULE_COUNT) 0 9) 256) else t.rules
  { d with
    tick := { t with valid := valid, validPend := [], validE2 := t.validE1, validE1 := valid, rules := rules, rulePend := false,
                     fstoreUse := d.reg64 Reg.TK_FSTORE_BASE_LO Reg.TK_FSTORE_BASE_HI,
                     batchUse := (List.range 8).map (fun k => d.reg64 (Reg.TK_BATCH_BASE_LO k) (Reg.TK_BATCH_BASE_HI k)) }
    pwr := { d.pwr with rampUse := (List.range 8).map (fun i => d.reg (Reg.CAP_RAMP_STEP i)) ++
                                     [d.reg Reg.CAP_RAMP_MAP, d.reg Reg.CAP_RAMP_CHIP] } }

/-- Whether the period, the fraction and the policy come from the tick master's flits: on every chip under HERTIA, and on the master itself those
that it sent when it decided the edge (R52). -/
def Dev.fromMaster (d : Dev) (src : Nat) : Bool := (decide (src = 3) || d.isMaster) && decide (d.lk.perRx ≠ 0)

/-- TK_CTRL and TK_PERIOD as written come in use (R49); under HERTIA the master's period, fraction and policy (R52). With several stands the
policy is ABORT (R398). -/
def Dev.latchTick (d : Dev) : Dev :=
  let c := d.reg Reg.TK_CTRL
  let p := d.reg Reg.TK_PERIOD
  let src := fld c 0 2
  let moved := decide (src ≠ d.source)
  let far := d.fromMaster src
  { d with tick := { d.tick with
      ctrlUse := c, periodUse := if far then d.lk.perRx else fld p 0 16, pctUse := if far then d.lk.pctRx else fld p 16 7,
      abort := (if far then d.lk.polRx else bit c 3) || d.multi,
      fallback := d.tick.fallback && !moved && (decide (src ≠ 1) || bit c 2), srcLost := d.tick.srcLost && !moved,
      unsync := d.tick.unsync && !moved } }

/-- The units whose settings come in force at an edge. -/
def Dev.unitsEdge (d : Dev) (maps : List DramEv) : Dev :=
  let d := d.opTableEdge.standEdge.mapEdge maps
  let d := (List.range 64).foldl (fun d t => d.nmEdge t) d
  d.planEdge.dramEdge.linkEdge.storeEdge.latchTick

/-- Edge N: the thermal level and OP take effect, the tiles start table N, the composer takes its snapshot, and the next table is packed under
the budget and the OP that are announced (R14). -/
def State.makeEdge (s : State) (env : EdgeEnv) : State :=
  let d := (s.dev.countSlip.endTick env).prune
  let fNow := d.fixMw d.opAnn
  let (d, th) := thermalInstant d.newTick s.th true
  let d := d.opSwitch th
  let d := { d with pwr := { d.pwr with firstEdge := none } }
  let d := d.barEdge.startTable.unitsEdge env.maps
  let (snaps, d) := d.snapshot
  let d := match env.sram with
    | .clean => d
    | .corrected => d.sramCe nodeComposer
    | .uncorrectable => d.raise 0x000F (atNode nodeComposer)
  let d := d.opAnnounce th
  let (uj, d) := d.handOver th fNow
  { s with dev := d.pack snaps uj (d.opEntry d.opAnn).2, th := th }

/-! ## Whether a due edge occurs (R75, R76, R330, R332, R352, R356, R366, R398) -/

/-- Hold an edge that is due. -/
def Dev.holdEdge (d : Dev) : Dev :=
  { d with tick := { d.tick with slipDue := some (d.tick.slipDue.getD d.nowNs) } }

/-- Hold an edge for the voltage or the keep list (R356, R366). -/
def Dev.holdPower (d : Dev) : Dev :=
  let d := d.holdEdge
  let d := { d with pwr := { d.pwr with avsHeld := true } }
  if d.pwr.avsWait.isSome then
    let (f, d) := d.once (0x7006, 0)
    if f then (d.orReg Reg.AVS_STAT 0x10000).logC 0x7006 nodePower else d
  else d

/-- Whether every chip that the master waits for has reported the end of the table (R332). -/
def Dev.allFinished (d : Dev) : Bool :=
  let need := (d.reg Reg.HT_TICK_WAIT) &&& ~~~ (d.reg Reg.HT_LOST)
  (bitsOf need.toNat 16).all (fun c => d.lk.finish.getLsbD c)

/-- The master decides an edge: TICK flits leave, and its own edge follows after the lead (R330), with the policy, period and fraction that they
carry (R52). -/
def Dev.decideEdge (d : Dev) : Dev :=
  let due := (d.nowNs + d.regN Reg.HT_TICK_LEAD) * 16
  let pol := bit (d.reg Reg.TK_CTRL) 3
  let p := d.reg Reg.TK_PERIOD
  let d := d.fwdTick (d.tick.count + 1) due pol (fld p 0 16) (fld p 16 7)
  { d with lk := { d.lk with due := some due, polRx := pol, perRx := fld p 0 16, pctRx := fld p 16 7 } }

/-- Whether the edge must still wait for what the power unit or several stands ask. -/
def Dev.edgeWaits (d : Dev) : Option Dev :=
  if d.pwr.avsWait.isSome || (d.pwr.restoring && d.pwr.firstEdge.isNone) then some d.holdPower
  else if d.multi then
    match d.tick.slipDue with
    | none => some d.holdEdge
    | some t => if t + 1024000 / d.fclk ≤ d.nowNs then none else some d
  else none

/-- Under ABORT the tiles that still run the table are halted at the edge (R52, R76). -/
def Dev.haltAtEdge (d : Dev) : Dev := if d.tableRunning then d.abortTable else d

/-- The master's part of a due edge: under SLIP it waits for the other chips (R332), then it decides, and after the lead it makes its own edge
(R330). Under ABORT every chip halts at the edge (R52). -/
def State.masterEdge (s : State) (env : EdgeEnv) : State :=
  match s.dev.lk.due with
  | some t => if t ≤ s.dev.nowNs * 16 then (s.onDev Dev.haltAtEdge).makeEdge env else s
  | none =>
    if !s.dev.allFinished && !s.dev.tick.abort then s.onDev Dev.holdEdge
    else
      let s := s.onDev Dev.decideEdge
      if s.dev.regN Reg.HT_TICK_LEAD = 0 then (s.onDev Dev.haltAtEdge).makeEdge env else s

/-- A due edge: held under SLIP while the table runs, after the abort under ABORT, replaced by the entry to a requested state, or made. -/
def State.edge (s : State) (env : EdgeEnv) : State :=
  let s := s.onDev Dev.promote
  let d := s.dev
  if d.entering || d.exiting || decide (1 ≤ d.pstate) || !d.tickOn then s
  else if d.tableRunning && !d.tick.abort then s.onDev Dev.holdEdge
  else if d.isMaster && d.pwr.req.isNone && d.edgeWaits.isNone then s.masterEdge env
  else
    let d := d.haltAtEdge
    match d.pwr.req with
    | some v => { s with dev := d.beginEntry v }
    | none => match d.edgeWaits with
      | some d => { s with dev := d }
      | none => ({ s with dev := d }).makeEdge env

/-- TICK_EDGE: an edge falls due by the timer, a slip, the first after an exit, or the tick tree (R14, R47, R357). -/
def execTickEdge (env : EdgeEnv) (s : State) : Answer := s.run fun s => if s.dev.edgeDue then s.edge env else s

/-- TABLE_FINISH: the last instance of the table has ended (R75): FINISH goes to the master (R332), and a held edge occurs. -/
def execTableFinish (env : EdgeEnv) (s : State) : Answer :=
  s.run fun s =>
    let d := s.dev
    if d.tableRunning || !d.tick.started then s
    else
      let (first, d) := d.once (0xF001, 0)
      let d := if first then
          let d := { d with pwr := { d.pwr with gatedNs := some (d.pwr.gatedNs.getD d.nowNs) } }
          if d.source = 3 && !d.isMaster && !d.relay then
            d.queuePkt { dchip := Config.tickMaster % 16, schip := d.chipId, kind := 3, cls := 1, mc := 0, epoch := 0, nlines := 0,
                         seq := d.tick.count % 65536, body := [] }
          else d
        else d
      let s := { s with dev := d }
      if d.tick.slipDue.isSome then s.edge env else s

/-- OVERRUN_ABORT: under ABORT an edge is due while the table runs (R76). -/
def execOverrunAbort (env : EdgeEnv) (s : State) : Answer :=
  s.run fun s => if s.dev.edgeDue && s.dev.tableRunning && s.dev.tick.abort then s.edge env else s

/-! ## Requests (R50, R51) -/

/-- A request is dropped and counted. -/
def Dev.dropReq (d : Dev) : Dev := d.incReg Reg.TK_DROPPED 1

/-- An accepted request ends the fallback (R51). -/
def Dev.acceptReq (d : Dev) : Dev := { d with tick := { d.tick with fallback := false, srcLost := false } }

/-- A request of source `src` by the time since the previous edge (R50, R357, R472); in S1 to S3 a wake event (Table 15-4). -/
def State.request (s : State) (src : Nat) (env : EdgeEnv) : State :=
  let d := s.dev
  if d.source ≠ src ∨ d.tick.periodUse = 0 ∨ d.booting = true ∨ d.relay = true then s
  else if d.asleep 3 then s.onDev (fun d => d.wakeBy 0 3 true)
  else if 1 ≤ d.pstate then s
  else match d.pwr.firstEdge with
    | some t => if src = 1 ∧ t ≤ d.nowNs then (s.onDev Dev.acceptReq).edge env else s
    | none =>
      if d.tick.held || d.tick.slipDue.isSome || d.lk.due.isSome then s.onDev Dev.dropReq
      else if !d.tick.started || decide (d.perNs * 17 ≤ d.sinceEdge * 20) then (s.onDev Dev.acceptReq).edge env
      else if d.sinceEdge * 2 < d.perNs then s.onDev Dev.dropReq
      else s.onDev (fun d => { d.acceptReq with tick := { d.acceptReq.tick with held := true } })

/-- TICK_IN_REQUEST: an edge of the ball, which falls where the ball stood high; it is a request where TICKIN_FALL selects that edge (R47, R50,
R517). -/
def execTickInRequest (env : EdgeEnv) (s : State) : Answer :=
  s.run fun s =>
    let fall := s.dev.pins.tickIn
    let s := s.onDev fun d => { d with pins := { d.pins with tickIn := !fall } }
    if bit s.dev.tick.ctrlUse 4 = fall then s.request 1 env else s

/-- TK_KICK: a write of 1 is a request under KICK (R47, R50). -/
def execTkKick (v : Word) (env : EdgeEnv) (s : State) : Answer := s.run fun s => if bit v 0 then s.request 2 env else s

/-- HELD_REQUEST_DUE: 0.85 P after the previous edge, a held request makes its edge (R50). -/
def execHeldRequestDue (env : EdgeEnv) (s : State) : Answer :=
  s.run fun s =>
    let d := s.dev
    if d.tick.held && d.tick.slipDue.isNone && decide (d.perNs * 17 ≤ d.sinceEdge * 20) then s.edge env else s

/-- TICK_SRC_LOST: no request by 1.5 P (R51). -/
def execTickSrcLost (env : EdgeEnv) (s : State) : Answer :=
  s.run fun s =>
    let d := s.dev
    if d.source = 1 ∧ d.tickOn = true ∧ d.pstate = 0 ∧ d.entering = false ∧ d.tick.fallback = false ∧ d.tick.held = false ∧
       d.tick.slipDue.isNone = true ∧ d.booting = false ∧ d.perNs * 3 ≤ (d.nowNs - d.tick.timerNs) * 2 then
      let d := if d.tick.srcLost then d else d.logC 0x0002 nodeTick
      let d := { d with tick := { d.tick with srcLost := true } }
      if bit d.tick.ctrlUse 2 then
        ({ s with dev := { d with tick := { d.tick with fallback := true } } }).edge env
      else { s with dev := d }
    else s

/-! ## The period (R48, R49) -/

/-- Whether a written period and fraction lie in range, and the values used (R48). -/
def periodIn (v : Word) : Nat × Nat × Nat :=
  let p := fld v 0 16
  let q := fld v 16 7
  let p' := if p = 0 then 0 else clampN 250 40000 p
  let q' := clampN 50 98 q
  (p', q', b2n (decide (p' ≠ p)) + b2n (decide (q' ≠ q)))

/-- A write of TK_PERIOD (R48, R49): 0 cancels the next edge at once; after 0 the tick restarts. A chip that follows a tick master does not use
its own period (R52). -/
def Dev.periodWrite (d : Dev) (v : Word) : Dev :=
  let (p, q, n) := periodIn v
  let d := (List.range n).foldl (fun d _ => d.logC 0x0001 nodeTick) d
  let d := d.setReg Reg.TK_PERIOD (w32 (p + q * 65536))
  if d.fromMaster d.source && !d.isMaster then d
  else if p = 0 then
    let d := d.cancelNext
    { d with tick := { d.tick with periodUse := 0, held := false, slipDue := none }, lk := { d.lk with due := none } }
  else if d.tick.periodUse = 0 then
    { d with tick := { d.tick with periodUse := p, pctUse := q, timerNs := d.nowNs, ctrlUse := d.reg Reg.TK_CTRL,
                                   fallback := false, srcLost := false, unsync := false } }
  else d

/-- TK_PERIOD_WRITE (R48, R49). -/
def execTkPeriodWrite (v : Word) (s : State) : Answer := s.runDev fun d => d.periodWrite v

/-- A write of TK_CNT_CLR. -/
def Dev.cntClr (d : Dev) (v : Word) : Dev :=
  if bit v 0 then
    { d.resetRegs [Reg.TK_SLIP_TICKS, Reg.TK_SLIP_US, Reg.TK_SLIP_MAX_US, Reg.TK_ABORTS, Reg.TK_DROPPED, Reg.TK_TRUNC] with
      tick := { d.tick with slipNs := 0 } }
  else d

/-- TK_CNT_CLR: a write of 1 clears the counters at 0x018 to 0x02C (Table 3-15). -/
def execTkCntClr (v : Word) (s : State) : Answer := s.runDev fun d => d.cntClr v

/-! ## The end of a packing (R71, R351) -/

/-- The allowance of a lane is spent: shown once for a packing. -/
def Dev.showTrunc (d : Dev) : Dev :=
  let (f, d) := d.once (0xF002, 0)
  if f then ({ d with tick := { d.tick with trunc := true } }).incReg Reg.TK_TRUNC 1 else d

/-- ALLOWANCE_SPENT: a lane of the present packing ends by its allowance (R71). -/
def execAllowanceSpent (s : State) : Answer := s.runDev fun d => if d.tick.truncPend then d.showTrunc else d

/-- The unit's own request after a run of empty tables (R351). -/
def Dev.autoReq (d : Dev) : Dev :=
  let a := d.reg Reg.PW_AUTO
  let st := fld a 8 3
  if bit a 15 && decide (max (fld a 0 8) 1 ≤ d.tick.empties) then d.pwReq (if st = 4 ∨ st = 5 then 3 else st) else d

/-- TABLE_FINAL: 0.85 P after the edge the packing has ended (R71, R351). -/
def execTableFinal (s : State) : Answer :=
  s.runDev fun d =>
    if d.tick.started && !d.tick.final && decide (d.pstate = 0) && d.tickOn && decide (d.perNs * 17 ≤ d.sinceEdge * 20) then
      let d := if d.tick.truncPend then d.showTrunc else { d with tick := { d.tick with trunc := false } }
      let e := if d.tick.nxt.isEmpty then d.tick.empties + 1 else 0
      ({ d with tick := { d.tick with final := true, empties := e } }).autoReq
    else d

/-! ## The fragment store (R55 to R57) -/

/-- A read of the fragment store: none where it cannot complete (R55). -/
def Dev.fsRead (d : Dev) (a n : Nat) : Option (List Byte) × Dev :=
  if !d.dramReady then (none, d.notReady nodeComposer)
  else if d.outOfDram a n then (none, d)
  else match d.readDram a n 0 none .ok with
    | (some _, d) => (none, d)
    | (none, d) => (some (d.dramBytes a n), d)

/-- Checks 1 to 4 of R55 on a header. -/
def headerOk (id : Nat) (b : List Byte) : Bool :=
  decide (leAt b 0 4 = 0x5446524E ∧ leAt b 4 2 = 1 ∧ leAt b 6 2 = id ∧ leAt b 0xA 2 < 32 ∧ leAt b 0xD 3 = 0 ∧ leAt b 0x34 72 = 0 ∧
    leAt b 8 1 < 64 ∧ leAt b 9 1 < 16 ∧ leAt b 0xC 1 ≤ 16)

/-- Read the images that a code directory names, in its order. -/
def Dev.readImages (d : Dev) (addr : Nat) : List (List Byte) → Option (List Byte) × Dev
  | [] => (some [], d)
  | e :: es =>
    match d.fsRead (addr + leAt e 0 4) (8 * leAt e 4 2) with
    | (none, d) => (none, d)
    | (some x, d) => match d.readImages addr es with
      | (none, d) => (none, d)
      | (some y, d) => (some (x ++ y), d)

/-- The checks of VALIDATE (R55). -/
def Dev.checkFrag (d : Dev) (id : Nat) : Bool × Dev :=
  match d.fsRead (d.tick.fstoreUse + 8 * id) 8 with
  | (none, d) => (false, d)
  | (some e, d) =>
    let addr := d.tick.fstoreUse + leNat e
    match d.fsRead addr 128 with
    | (none, d) => (false, d)
    | (some b, d) =>
      if !headerOk id b then (false, d)
      else
        let h := fragHdr addr b
        let n := popcountN 64 h.mask.toNat
        match d.fsRead (addr + h.codeDir) (8 * n) with
        | (none, d) => (false, d)
        | (some dir, d) =>
          let es := (List.range n).map (fun i => (dir.drop (8 * i)).take 8)
          if es.any (fun e => decide (8192 < leAt e 4 2 + leAt e 6 2)) then (false, d)
          else match d.readImages addr es with
            | (none, d) => (false, d)
            | (some imgs, d) => (decide (crc32c (b.take 0x7C ++ dir ++ imgs) = leAt b 0x7C 4), d)

/-- The default of a pending valid bit. -/
def noValid (_ : Nat) : Option Bool := none

/-- Give a valid bit its value of the next edge (R55). -/
def Dev.setValid (d : Dev) (id : Nat) (b : Bool) : Dev :=
  { d with tick := { d.tick with validPend := tabSet noValid d.tick.validPend id (some b) } }

/-- Validate one fragment to the end (R55); its images are resident no longer (R96). -/
def Dev.validate (d : Dev) (id : Nat) : Dev :=
  let (ok, d) := (d.unload (fun f => decide (f = id))).checkFrag id
  let d := (d.setValid id ok)
  let d := { d with tick := { d.tick with pass := ok, lastId := id } }
  if ok then d else d.logSev 0x0004 0 { atNode nodeComposer with frag := id }

/-- A command of the fragment store runs to its end: 1 VALIDATE, 2 INVALIDATE, 3 INVALIDATE ALL. -/
def Dev.fsDo (d : Dev) (op id : Nat) : Dev :=
  let d := { d with tick := { d.tick with fsOp := 0, lastId := id } }
  if op = 1 then d.validate id
  else if op = 2 then (d.unload (fun f => decide (f = id))).setValid id false
  else
    let ids := d.tick.valid.map (·.1) ++ d.tick.validPend.map (·.1)
    ids.foldl (fun d i => d.setValid i false) (d.unload (fun _ => true))

/-- The end of a command that a write of TK_FSTORE_CMD started, or the whole command where none is under way; a command written while another
runs is dropped (R55). -/
def Dev.fsRun (d : Dev) (op id : Nat) : Dev :=
  if d.tick.fsOp = 0 ∨ (d.tick.fsOp = op ∧ (op = 3 ∨ d.tick.lastId = id)) then d.fsDo op (if op = 3 ∧ d.tick.fsOp = 3 then d.tick.lastId else id)
  else d.logC 0x0005 nodeComposer

/-- A write of TK_FSTORE_CMD starts a command: BUSY reads 1 until it ends (R55). -/
def Dev.fsCmd (d : Dev) (v : Word) : Dev :=
  let op := fld v 16 2
  if op = 0 then d
  else if d.tick.fsOp ≠ 0 then d.logC 0x0005 nodeComposer
  else { d with tick := { d.tick with fsOp := op, lastId := fld v 0 16 } }

/-- VALIDATE (R55). -/
def execValidate (frag : BitVec 16) (s : State) : Answer := s.runDev fun d => d.fsRun 1 frag.toNat

/-- INVALIDATE (R55). -/
def execInvalidate (frag : BitVec 16) (s : State) : Answer := s.runDev fun d => d.fsRun 2 frag.toNat

/-- INVALIDATE_ALL (R55, R57); its FRAG_ID is 0 where no write of TK_FSTORE_CMD gave one. -/
def execInvalidateAll (s : State) : Answer := s.runDev fun d => d.fsRun 3 0

/-- Whether a valid bit is set now or was set at one of the two most recent edges (R57). -/
def Dev.storeHeld (d : Dev) : Bool :=
  let t := d.tick
  !t.valid.isEmpty || !t.validE1.isEmpty || !t.validE2.isEmpty || t.validPend.any (fun e => decide (e.2 = some true))

/-- TK_FSTORE_BASE_WRITE: a write of one half of the base (R57). -/
def Dev.fsBase (d : Dev) (hi : Bool) (v : Word) : Dev :=
  if d.storeHeld then d.logC 0x0005 nodeComposer
  else if hi then d.setReg Reg.TK_FSTORE_BASE_HI v else d.setReg Reg.TK_FSTORE_BASE_LO (v &&& 0xFFFFF000)

/-- TK_FSTORE_BASE_WRITE (R57). -/
def execTkFstoreBaseWrite (hi : Bool) (v : Word) (s : State) : Answer := s.runDev fun d => d.fsBase hi v

/-- A write of TK_RULE_COMMIT (R63). -/
def Dev.ruleCommit (d : Dev) (v : Word) : Dev := if bit v 0 then { d with tick := { d.tick with rulePend := true } } else d

/-- TK_RULE_COMMIT: a write of 1 makes the next edge copy the shadow rules (R63). -/
def execTkRuleCommit (v : Word) (s : State) : Answer := s.runDev fun d => d.ruleCommit v

end Sys2Proof.Machine
end

