-- ==== Sys2Proof/Machine/Bar0.lean ====
section
/-! DEFINITION. BAR0 (R4 to R10, R141, R142, R397, R416, R425, R473): what each offset decodes to for a function, what a 32-bit read returns and
leaves, what a 32-bit write does, and the other accesses of R7. -/

namespace Sys2Proof.Machine

/-! ## Decoding (Table 0-4) -/

/-- What a word of BAR0 is: a register, a service port's register, a word of the log, of a ring context, of an MSI-X table or PBA, of a doorbell,
a counter, or a word of a tile's scratchpad, instruction memory or shadow table. -/
inductive Spot where
  | reg (r : RegSpec)
  | port (n o : Nat)
  | log (i k : Nat)
  | ring (r k : Nat)
  | msix (k : Nat)
  | pba (k : Nat)
  | bell (r k : Nat)
  | ctr (t i : Nat)
  | spad (t a : Nat)
  | imem (t a : Nat)
  | nm (t o : Nat)
  deriving DecidableEq, Repr

/-- What an offset in a tile's window is (Table 6-2). -/
def Dev.tileSpot (d : Dev) (t o off : Nat) : Option Spot :=
  if o < 0x20000 then some (.spad t (fld (d.reg (Reg.TL_SP_PAGE t)) 0 2 * 0x20000 + o))
  else if o < 0x30000 then some (.imem t (o - 0x20000))
  else if o < 0x32000 then some (.nm t (o - 0x30000))
  else (regAt off).map .reg

/-- What an aligned offset is for the physical function (R9, R10, R425). -/
def Dev.pfSpot (d : Dev) (off : Nat) : Option Spot :=
  if 0x50000 ≤ off ∧ off < 0x50200 then (if off % 0x100 ≤ 0x40 then some (.port ((off - 0x50000) / 0x100) (off % 0x100)) else none)
  else if 0x78000 ≤ off ∧ off < 0x80000 then some (.log ((off - 0x78000) / 32) (off % 32 / 4))
  else if 0x80000 ≤ off ∧ off < 0xC0000 then some (.ring ((off - 0x80000) / 16) (off % 16 / 4))
  else if 0xD0000 ≤ off ∧ off < 0xD8000 then some (.msix ((off - 0xD0000) / 4))
  else if 0xD8000 ≤ off ∧ off < 0xD8100 then some (.pba ((off - 0xD8000) / 4))
  else if 0x100000 ≤ off ∧ off < 0x200000 then some (.bell ((off - 0x100000) / 64) (off % 64 / 4))
  else if 0x500000 ≤ off ∧ off < 0x580000 then some (.ctr ((off - 0x500000) / 8192) ((off - 0x500000) / 4 % 2048))
  else if 0x1000000 ≤ off ∧ off < 0x2000000 then d.tileSpot ((off - 0x1000000) / 0x40000) (off % 0x40000) off
  else (regAt off).map .reg

/-- Whether the virtual function of a tenant reaches a tile (R397). -/
def Dev.vfTile (d : Dev) (tenant t : Nat) : Bool :=
  decide (d.tileTenant t = tenant) && decide (d.sec.clear.getD tenant .idle = .idle)

/-- Whether the virtual function of a tenant decodes a word (R397, R416). -/
def Dev.vfSees (d : Dev) (tenant off : Nat) : Spot → Bool
  | .reg _ =>
    decide (off < 0x10) ||
    (decide (0x14000 ≤ off ∧ off < 0x18000) && decide (d.sidTenant ((off - 0x14000) / 4) = tenant)) ||
    decide (off = Reg.RC_COAL_US tenant) || decide (0xC1000 ≤ off ∧ off < 0xC1200) ||
    (decide (0x1000000 ≤ off) && d.vfTile tenant ((off - 0x1000000) / 0x40000))
  | .port _ _ => false
  | .log _ _ => false
  | .ring r _ => decide (d.sidTenant (r / 4) = tenant)
  | .bell r _ => decide (d.sidTenant (r / 4) = tenant)
  | .msix k => decide (k < 1024)
  | .pba k => decide (k < 8)
  | .ctr t _ => d.vfTile tenant t
  | .spad t _ => d.vfTile tenant t
  | .imem t _ => d.vfTile tenant t
  | .nm t _ => d.vfTile tenant t

/-- What an aligned offset is for a function; none where it is unmapped. During a boot only the global block and the reset and boot block are
mapped, except for the boot table itself (`own`; R473, R476). -/
def Dev.spot (d : Dev) (fn : Nat) (own : Bool) (off : Nat) : Option Spot :=
  if d.booting && !own && !decide (off < 0x10000 ∨ (0x60000 ≤ off ∧ off < 0x70000)) then none
  else match d.pfSpot off with
    | some x => if fn = 0 ∨ d.vfSees (fn - 1) off x = true then some x else none
    | none => none

/-! ## Registers whose value is computed -/

/-- 32.768 kHz periods since PORST_N (Table 15-9). -/
def Dev.aonCount (d : Dev) : Nat := (d.nowNs - d.porstNs) * 32768 / 1000000000

/-- The tick block (Tables 3-13 to 3-15, 14-6). -/
def Dev.tickView (d : Dev) (off : Nat) : Word :=
  let t := d.tick
  let act := fun (f : MapTab → Nat) (base : Nat) => match d.map.active.getD ((off - base) / 4) none with | some m => w32 (f m) | none => 0
  if off = Reg.TK_STAT then
    w32 (b2n d.tableRunning + 2 * b2n (t.held || t.slipDue.isSome) + 4 * b2n t.srcLost + 8 * b2n t.unsync + 16 * b2n t.trunc
      + 32 * b2n (decide (t.periodUse = 0)))
  else if off = Reg.TK_COUNT_LO then w32 t.count
  else if off = Reg.TK_COUNT_HI then t.latchHi
  else if off = Reg.TK_FSTORE_STAT then w32 (t.lastId * 65536 + 2 * b2n t.pass + b2n (decide (t.fsOp ≠ 0)))
  else if off = Reg.MP_STAT then w32 d.mpStat
  else if 0x10160 ≤ off ∧ off < 0x10180 then act (·.id) 0x10160
  else if 0x10180 ≤ off ∧ off < 0x101A0 then act (·.lcrc) 0x10180
  else if 0x101A0 ≤ off ∧ off < 0x101C0 then act (·.crc) 0x101A0
  else d.reg off

/-- The thermal block (Tables 16-4 to 16-6, 16-10). -/
def thView (d : Dev) (th : ThSt) (off : Nat) : Word :=
  if off = Reg.TH_STAT then
    (d.reg off &&& 0xE00) ||| w32 (th.level + 8 * b2n th.fault + 16 * b2n (bit (d.reg Reg.CAL_STAT) 0) + 32 * b2n th.guard
      + 256 * b2n th.pend + 4096 * b2n th.curveBad)
  else if off = Reg.TH_DWELL then w32 th.dwell
  else if off = Reg.FAN_STAT then setFld (d.reg off) 0 7 th.duty
  else d.reg off

/-- The security block (Table 17-9). -/
def Dev.secView (d : Dev) (off : Nat) : Word :=
  if off = Reg.SEC_STAND_STAT then (d.reg off &&& 2) ||| w32 (b2n d.sec.standPend)
  else if off = Reg.SEC_CLEAR_STAT then w32 d.clearStat
  else if off = Reg.SEC_KEY_STAT then (d.reg off &&& 0x20000) ||| w32 d.sec.prov.toNat
  else if off = Reg.SEC_FUSE_STAT then w32 d.fuseStat
  else if off = Reg.SEC_ROLLBACK then w32 d.sec.rollUse
  else if 0x40180 ≤ off ∧ off < 0x401B0 then w32 (d.sec.rootUse.toNat / 2 ^ (8 * (off - 0x40180)))
  else d.reg off

/-- The memory and fabric units, and the links (Tables 7-10, 9-11, 10-12, 11-6, 12-7, 13-7, 17-4). -/
def Dev.unitView (d : Dev) (off : Nat) : Word :=
  if off = Reg.DR_GSTAT then w32 (b2n d.dram.ready + 2 * b2n d.dram.training + 4 * b2n d.dram.restored + 256 * d.dram.failMask)
  else if off = Reg.FL_GSTAT then d.flGstat
  else if 0x310000 ≤ off ∧ off < 0x320000 then w32 (leNat (d.bbtBytes (off - 0x310000) 4))
  else if off = Reg.CD_TBL_STAT then w32 d.plan.tblPend
  else if off = Reg.MT_CCH then w32 d.dram.cchMib
  else if Reg.MT_PEND 0 ≤ off ∧ off < Reg.MT_PEND 8 then w32 (d.mtPend ((off - Reg.MT_PEND 0) / 4))
  else if off = Reg.CN_STAND then
    w32 ((List.range 8).foldl (fun n r => n + d.rowTenant r * 8 ^ r) 0 + 2 ^ 24 * b2n d.multi)
  else if Reg.HT_PORT_STAT 0 ≤ off ∧ off < Reg.HT_PORT_STAT 4 then w32 (d.portStat ((off - Reg.HT_PORT_STAT 0) / 4))
  else if off = Reg.HT_FENCED then w32 d.htFenced
  else if off = Reg.HT_STAT then (d.reg off &&& 0x3FF) ||| w32 (65536 * b2n d.htQuiet)
  else d.reg off

/-- A tile's registers (Tables 4-9, 4-10, 6-14). -/
def Dev.tileView (d : Dev) (off : Nat) : Word :=
  let ts := d.tile ((off - 0x1000000) / 0x40000)
  let o := off % 0x40000
  if o = 0x3F004 then
    let q := fun k => b2n (!(ts.queues.getD k []).isEmpty)
    w32 (b2n ts.cur.isSome + 2 * b2n ts.loading + 4 * b2n ts.align + 8 * b2n ts.drain + 16 * b2n ts.halted
      + 2048 * q 0 + 1024 * q 1 + 512 * q 2 + 256 * q 3 + 65536 * ts.frag)
  else if o = 0x3F008 then w32 ts.pc
  else if o = 0x3F00C then w32 (ts.faultCode * 65536 + ts.faultPc)
  else d.reg off

/-- A register's value at an offset; `link` is the PCIe link as HI_LINK shows it (Table 18-10). -/
def regValue (d : Dev) (th : ThSt) (link : Word) (off : Nat) : Word :=
  if off < 0x10000 then d.reg off
  else if off < 0x20000 then d.tickView off
  else if off = Reg.PW_AON_TIME_LO then w32 d.aonCount
  else if off < 0x30000 then d.reg off
  else if off < 0x40000 then thView d th off
  else if off < 0x50000 then d.secView off
  else if off = Reg.HI_LINK then link
  else if off < 0x200000 then d.reg off
  else if off < 0x1000000 then d.unitView off
  else d.tileView off

/-! ## Reads -/

/-- A log entry as bytes (Table 21-4). -/
def LogEntry.bytes (e : LogEntry) : List Byte :=
  leBytes 2 e.code ++ leBytes 1 e.flags ++ leBytes 1 e.node ++ leBytes 4 e.seq ++ leBytes 8 e.tick ++ leBytes 4 e.timeUs ++
    leBytes 2 e.frag ++ leBytes 2 e.session ++ leBytes 8 e.detail

/-- The bits of a mark word that a function sees (R416). -/
def Dev.markMask (d : Dev) (fn w : Nat) : Word :=
  if fn = 0 then 0xFFFFFFFF else w32 (((List.range 32).filter (fun i => d.fnSees fn (32 * w + i))).foldl (fun n i => n + 2 ^ i) 0)

/-- The value of a word. -/
def State.value (s : State) (fn off : Nat) (link : Word) : Spot → Word
  | .reg r =>
    let v := regValue s.dev s.th link off &&& w32 r.readable
    if 0xC1000 ≤ off ∧ off < 0xC1200 then v &&& s.dev.markMask fn ((off - 0xC1000) / 4) else v
  | .port n o => ((s.sp.port n).peek s.dev o).getD 0
  | .log i k => w32 (leAt (tabGet (fun _ => LogEntry.zero) s.dev.log i).bytes (4 * k) 4)
  | .ring r k => s.dev.ringRead r k
  | .msix k => tabGet msixDef s.dev.host.msix (fn * 8192 + k)
  | .pba k => w32 ((List.range 32).foldl (fun n i => n + b2n (tabGet falseB s.dev.host.pba (vecKey fn (32 * k + i))) * 2 ^ i) 0)
  | .bell r k => if k = 0 then (s.dev.ring r).db else 0
  | .ctr t i => s.dev.ctr t i
  | .spad t a => w32 (leNat (s.dev.spadBytes t a 4))
  | .imem t a => w32 (leNat (s.dev.imemBytes t a 4))
  | .nm t o => w32 (leNat (tabGetList nmDef s.dev.mem.nmSh (t * 8192 + o) 4))

/-- The array that a word lies in, by the node that logs its errors (Table 21-3); none where it has no check. -/
def Spot.array (off : Nat) : Spot → Option Nat
  | .reg _ => if 0x12000 ≤ off ∧ off < 0x18000 then some nodeComposer else none
  | .log _ _ => some nodeErr
  | .ring _ _ => some nodeHost
  | .ctr t _ => some (tileLog t)
  | .spad t _ => some (tileLog t)
  | .imem t _ => some (tileLog t)
  | _ => none

/-- An error of an array at a tile that stops no instance (R481). -/
def Dev.tileSramUe (d : Dev) (t : Nat) : Dev := d.logS 0x1011 { atNode (tileLog t) with tenant := some (d.tileTenant t) }

/-- What an uncorrectable error in an array does when the host reads it (Table 21-3). -/
def Dev.arrayUe (d : Dev) : Spot → Dev
  | .reg _ => d.raise 0x000F (atNode nodeComposer)
  | .ring r _ => d.ringUe r
  | .ctr t i => { d.tileSramUe t with mem := { d.mem with ctrBad := tabSet falseB d.mem.ctrBad (t * 2048 + i) true } }
  | .spad t _ => d.tileSramUe t
  | .imem t _ => d.tileSramUe t
  | .log i _ => { d with log := tabDrop d.log (fun j => decide (j = i)) }
  | _ => d

/-- The check of an array on a read of `v` (R485): what the host reads. A withheld word is a free value (notes/assumptions/34), but an entry of
the log reads as all 0. -/
def Dev.checkRead (d : Dev) (off : Nat) (x : Spot) (ecc : SramEv) (v : Word) : Word × Dev :=
  match x.array off, ecc with
  | some n, .corrected => (v, d.sramCe n)
  | some n, .uncorrectable => if n = nodeErr then (0, d.arrayUe x) else let (k, d) := (d.arrayUe x).draw; (Config.freeWord k, d)
  | _, _ => (v, d)

/-- What a 32-bit read leaves in a word (R6, R53, R442, R444; PW_AON_TIME latches). -/
def State.readFx (s : State) (off : Nat) (ev : Word) : Spot → State
  | .port n o => { s with sp := s.sp.setPort n ((s.sp.port n).readFx o ev) }
  | .reg r =>
    s.onDev fun d =>
      if off = Reg.TK_COUNT_LO then { d with tick := { d.tick with latchHi := w32 (d.tick.count / 2 ^ 32) } }
      else if off = Reg.PW_AON_TIME_LO then d.setReg Reg.PW_AON_TIME_HI (w32 (d.aonCount / 2 ^ 32))
      else if r.rc = 0 then d else d.setReg off (r.afterRead (d.reg off) ev)
  | _ => s

/-- The flits of one access of the host port to a tile, over the Trail and back: `ty` is the type of a write's flit (R11, R178; DEDUCED,
notes/assumptions/114.md). -/
def Dev.hostTrip (d : Dev) (t ty : Nat) (write : Bool) : Dev :=
  let n := tileNode t
  let h : Node := ⟨1, 9⟩
  if write then (d.traffic h n ty 1).traffic n h tyWACK 1 else (d.traffic h n tyRD 1).traffic n h tyRDATA 1

/-- Count the flits of an access to a word of a tile's window or of the sync counter window (R11, R142, R178, R198). -/
def Dev.hostFlits (d : Dev) (off : Nat) (write : Bool) : Dev :=
  if 0x1000000 ≤ off ∧ off < 0x2000000 then d.hostTrip ((off - 0x1000000) / 0x40000) tyWR write
  else if 0x500000 ≤ off ∧ off < 0x580000 then d.hostTrip ((off - 0x500000) / 0x2000) tyCSET write
  else d

/-- A 32-bit read of an aligned offset: its value and what it leaves (R4, R7). -/
def State.read32 (s : State) (fn : Nat) (own : Bool) (off : Nat) (m : RegEnv) : Word × State :=
  match s.dev.spot fn own off with
  | none => (0, s.onDev Dev.badAccess)
  | some x =>
    let (v, d) := s.dev.checkRead off x m.ecc (s.value fn off m.link x)
    (v, ({ s with dev := d.hostFlits off false }).readFx off m.ev x)

/-! ## Writes -/

/-- CAP_LIMIT and CAP_WINDOW: a value outside the limits is used as the nearer limit (R367). -/
def Dev.capWrite (d : Dev) (off len lo hi : Nat) (v : Word) : Dev :=
  let x := fld v 0 len
  let u := clampN lo hi x
  let d := d.setReg off (w32 u)
  if u = x then d else d.logC 0x7008 nodePower

/-- Writes of the tick, power, security and boot blocks that do more than store. -/
def Dev.coreWrite (d : Dev) (off : Nat) (v : Word) (m : RegEnv) : Option Dev :=
  if off = Reg.TK_PERIOD then some (d.periodWrite v)
  else if off = Reg.TK_CNT_CLR then some (d.cntClr v)
  else if off = Reg.TK_FSTORE_BASE_LO then some (d.fsBase false v)
  else if off = Reg.TK_FSTORE_BASE_HI then some (d.fsBase true v)
  else if off = Reg.TK_FSTORE_CMD then some (d.fsCmd v)
  else if off = Reg.TK_RULE_COMMIT then some (d.ruleCommit v)
  else if off = Reg.MP_COMMIT then some (d.mpCommit v)
  else if 0x14000 ≤ off ∧ off < 0x18000 then some (d.attrWrite ((off - 0x14000) / 4) v)
  else if off = Reg.PW_REQ then some (d.pwReq (fld v 0 3))
  else if off = Reg.CAP_LIMIT then some (d.capWrite off 16 6000 45000 v)
  else if off = Reg.CAP_WINDOW then some (d.capWrite off 10 1 1000 v)
  else if off = Reg.OP_COMMIT then some (d.opCommit v)
  else if off = Reg.SEC_STAND_CMD then some (d.standGo v)
  else if off = Reg.SEC_CLEAR then some (d.clearWrite v)
  else if off = Reg.SEC_KEY_CMD then some (d.keyCmd v m.noEntropy)
  else if off = Reg.SEC_FUSE_CMD then some (d.fuseCmd v)
  else if off = Reg.RB_RESET then some (d.warmWrite v m.boot)
  else if off = Reg.RB_TILE_RST_LO then some (d.tileRst false v)
  else if off = Reg.RB_TILE_RST_HI then some (d.tileRst true v)
  else if off = Reg.ERR_LOG_RD then some (d.logRd v)
  else if off = Reg.TH_TRIP_LAST then some (if bit v 31 then d.setReg off 0 else d)
  else none

/-- Writes of the memory, fabric, link and tile registers that do more than store. -/
def Dev.unitWrite (d : Dev) (off : Nat) (v : Word) (m : RegEnv) : Option Dev :=
  if off = Reg.DR_GCTRL then some (d.dramStart v)
  else if off = Reg.DR_GCFG then some (d.drCfgWrite 8 v)
  else if 0x200000 ≤ off ∧ off < 0x208000 ∧ off % 0x1000 = 0 then some (d.drCfgWrite ((off - 0x200000) / 0x1000) v)
  else if off = Reg.FL_GCFG then some (d.flGcfg v)
  else if off = Reg.FL_GCTRL then some (if bit v 0 then d.flashStart else d)
  else if off = Reg.FL_CMD_OP then some (d.flCmd v m.dram)
  else if 0x302000 ≤ off ∧ off < 0x302400 ∧ off % 0x40 < 8 then some (d.regionWrite off ((off - 0x302000) / 0x40) v)
  else if off = Reg.CD_TBL_COMMIT then some (d.tblCommit v)
  else if off = Reg.CN_PERF_SEL then some (d.cnPerfSel v)
  else if off = Reg.HT_CHIP then some (d.chipWrite false v)
  else if off = Reg.HT_TOPO then some (d.chipWrite true v)
  else if off = Reg.HT_ROUTE_COMMIT then some (d.routeCommit v)
  else if off = Reg.HT_CHAN_CMD then some ((d.chanOpen v).chanClose v)
  else if 0x1000000 ≤ off ∧ off % 0x40000 = 0x3E020 then some (d.nmCommit ((off - 0x1000000) / 0x40000) v)
  else none

/-- Whether a virtual function may only read a register (R416). -/
def vfReadOnly (fn off : Nat) : Bool := decide (fn ≠ 0) && decide (off < 0x10 ∨ (0x14000 ≤ off ∧ off < 0x18000))

/-- A write of a register: its own action, or its fields by their access codes (R4 to R6). -/
def State.regWrite (s : State) (fn off : Nat) (v : Word) (m : RegEnv) (r : RegSpec) : State :=
  if vfReadOnly fn off then s.onDev Dev.badAccess
  else if off = Reg.TK_KICK then (if bit v 0 then s.request 2 m.edge else s)
  else if off = Reg.TH_COMMIT then { s with th := s.th.commit v }
  else s.onDev fun d =>
    match if off < 0x80000 then d.coreWrite off v m else d.unitWrite off v m with
    | some d => d
    | none =>
      let v := if 0xC1000 ≤ off ∧ off < 0xC1200 then v &&& d.markMask fn ((off - 0xC1000) / 4) else v
      d.setReg off (r.write (d.reg off) v m.ev)

/-- A write of a word (R4, R7, R141, R198, R425). -/
def State.spotWrite (s : State) (fn off : Nat) (v : Word) (m : RegEnv) : Spot → State
  | .reg r => s.regWrite fn off v m r
  | .port n o => s.portWrite n o v m.ev
  | .log _ _ => s
  | .ring r k => s.onDev (·.ringWrite fn r k v)
  | .msix k => s.onDev (·.msixWrite fn k v)
  | .pba _ => s
  | .bell r k => s.onDev fun d => if k = 0 then d.dbWrite r v m.ecc else d.badAccess
  | .ctr t i => s.onDev (·.assign t i v)
  | .spad t a => s.onDev (·.setSpad t a (leBytes 4 v.toNat))
  | .imem _ _ => s.onDev Dev.badAccess
  | .nm t o => s.onDev fun d => { d with mem := { d.mem with nmSh := tabSetList nmDef d.mem.nmSh (t * 8192 + o) (leBytes 4 v.toNat) } }

/-- A 32-bit write of an aligned offset. -/
def State.write32 (s : State) (fn : Nat) (own : Bool) (off : Nat) (v : Word) (m : RegEnv) : State :=
  match s.dev.spot fn own off with
  | none => s.onDev Dev.badAccess
  | some x => (s.onDev (·.hostFlits off true)).spotWrite fn off v m x

/-! ## The host's accesses (R7) -/

/-- Record what a host read returns. -/
def State.answer (s : State) (bs : List Byte) : State := s.onDev fun d => { d with host := { d.host with rdData := bs } }

/-- The aligned words that an access covers. -/
def wordsOf (off n : Nat) : List Nat := if n = 0 then [] else (List.range ((off + n - 1) / 4 + 1 - off / 4)).map (fun i => 4 * (i + off / 4))

/-- A read without side effects (R7): the bytes of each mapped word, with one HOST_BAD_ACCESS where a word is unmapped. -/
def State.oddBytes (s : State) (fn : Nat) (own : Bool) (off n : Nat) (m : RegEnv) : List Byte × Dev :=
  let ws := wordsOf off n
  let word := fun (x : List Byte × Dev) (w : Nat) => match s.dev.spot fn own w with
    | none => (x.1 ++ leBytes 4 0, x.2)
    | some sp =>
      let (v, d) := x.2.checkRead w sp (if w = ws.headD 0 then m.ecc else .clean) (s.value fn w m.link sp)
      (x.1 ++ leBytes 4 v.toNat, d)
  let (bs, d) := ws.foldl word ([], s.dev)
  ((bs.drop (off % 4)).take n, if ws.any (fun w => (s.dev.spot fn own w).isNone) then d.badAccess else d)

/-- A host read of `n` bytes: of 4 or 8 naturally aligned bytes as 32-bit accesses, the lower address first, or without side effects. Each half of an
aligned 64-bit access has the effects of a 32-bit access, the log entry of an unmapped word included, so two unmapped words log twice
(DEDUCED, notes/assumptions/32.md). -/
def State.hostRead (s : State) (fn off n : Nat) (m m2 : RegEnv) : State :=
  if n = 4 ∧ off % 4 = 0 then
    let (v, s) := s.read32 fn false off m
    s.answer (leBytes 4 v.toNat)
  else if n = 8 ∧ off % 8 = 0 then
    let (v, s) := s.read32 fn false off m
    let (v2, s) := s.read32 fn false (off + 4) m2
    s.answer (leBytes 4 v.toNat ++ leBytes 4 v2.toNat)
  else
    let (bs, d) := s.oddBytes fn false off n m
    ({ s with dev := d }).answer bs

/-- A poisoned host write is discarded and logged (R38); the stand is that of the function that wrote, none for the physical function. -/
def Dev.poisonedWrite (d : Dev) (fn : Nat) : Dev :=
  (d.orReg Reg.HI_STAT 2).logS 0x9002 { atNode nodeHost with tenant := if fn = 0 then none else some (fn - 1) }

/-- A host write: of 4 or 8 naturally aligned bytes as 32-bit accesses, or dropped whole; a poisoned one is discarded (R7, R38). -/
def State.hostWrite (s : State) (fn off : Nat) (bs : List Byte) (m m2 : RegEnv) : State :=
  let word := fun i => w32 (leAt bs i 4)
  if m.poison then s.onDev (·.poisonedWrite fn)
  else if bs.length = 4 ∧ off % 4 = 0 then s.write32 fn false off (word 0) m
  else if bs.length = 8 ∧ off % 8 = 0 then (s.write32 fn false off (word 0) m).write32 fn false (off + 4) (word 4) m2
  else s.onDev Dev.badAccess

/-- An access of the host reaches the port, whose buffers are checked (R485); not in S4 and S5, when the link is down (R421). -/
def State.access (s : State) (m : RegEnv) (f : State → State) : State :=
  if 4 ≤ s.dev.pstate then s
  else match s.dev.portBuf m.port with
    | .error d => { s with dev := d }
    | .ok d => f { s with dev := d }

/-- BAR0_IRREGULAR_ACCESS: an access of any size and place (R7). -/
def execBar0IrregularAccess (fn : Fin 9) (off : BitVec 26) (acc : HostAcc) (m m2 : RegEnv) (s : State) : Answer :=
  s.run fun s => s.access m fun s =>
    match acc with
    | .read n => s.hostRead fn off.toNat n m m2
    | .write bs => s.hostWrite fn off.toNat bs m m2

/-- REGISTER_WRITE: a 32-bit write (R4). -/
def execRegisterWrite (fn : Fin 9) (off : BitVec 26) (v : Word) (m : RegEnv) (s : State) : Answer :=
  s.run fun s => s.access m (·.hostWrite fn off.toNat (leBytes 4 v.toNat) m m)

/-- READ_CLEAR: a 32-bit read (R4, R6). -/
def execReadClear (fn : Fin 9) (off : BitVec 26) (m : RegEnv) (s : State) : Answer :=
  s.run fun s => s.access m (·.hostRead fn off.toNat 4 m m)

/-- TK_COUNT_READ: a read of TK_COUNT_LO by the physical function (R53). -/
def execTkCountRead (s : State) : Answer := s.run fun s => s.access .ok (·.hostRead 0 Reg.TK_COUNT_LO 4 .ok .ok)

/-- PW_AON_TIME_READ: a read of PW_AON_TIME_LO by the physical function (Table 15-9). -/
def execPwAonTimeRead (s : State) : Answer := s.run fun s => s.access .ok (·.hostRead 0 Reg.PW_AON_TIME_LO 4 .ok .ok)

/-- SYNC_COUNTER_WINDOW_WRITE: a write of counter `i` of tile `t` in the window (R10, R198). -/
def execSyncCounterWindowWrite (fn : Fin 9) (t : Fin 64) (i : Fin 2048) (v : Word) (s : State) : Answer :=
  s.run fun s => s.access .ok (·.write32 fn false (0x500000 + (t * 2048 + i) * 4) v .ok)

end Sys2Proof.Machine
end

