-- ==== Sys2Proof/Machine/BootTab.lean ====
section
/-! DEFINITION. The execution of a boot table, entry by entry (R473, R475 to R477). -/

namespace Sys2Proof.Machine

/-- The entry that is executed, when it is of an operation. -/
def Dev.bootAt (d : Dev) (op : Nat) : Option BootEntry :=
  if d.booting && d.boot.running then
    match d.boot.entries[d.boot.next]? with
    | some x => if (bootEntry x).op = op then some (bootEntry x) else none
    | none => none
  else none

/-- Take a step of the present entry when it is of an operation. -/
def State.bootRow (s : State) (op : Nat) (act : State → BootEntry → State) : State :=
  match s.dev.bootAt op with
  | some e => act s e
  | none => s

/-- BOOT_END: END ends the execution of the table (Table 20-6). -/
def execBootEnd (s : State) : Answer := s.run fun s => s.bootRow 0 fun s _ => s.onDev (·.bootEnd true)

/-! ## Register accesses -/

/-- Whether a write starts another boot, which abandons this one (R468, R469). -/
def Dev.reboots (d : Dev) (off : Nat) (v : Word) : Bool :=
  decide (off = Reg.RB_RESET) && decide (fld v 16 16 = 0xA5C3) && bit v 0 && !d.outranked 2

/-- A 32-bit write of the boot table: a misaligned one is dropped (R7). -/
def State.bootWrite (s : State) (off : Nat) (v : Word) (m : RegEnv) : State :=
  if off % 4 = 0 then s.write32 0 true off v m else s.onDev Dev.badAccess

/-- Writes one after another; none where one of them has started another boot. -/
def State.bootWrites (s : State) (m : RegEnv) : List (Nat × Word) → State × Bool
  | [] => (s, true)
  | (o, v) :: ws =>
    let again := s.dev.reboots o v
    let s := s.bootWrite o v m
    if again then (s, false) else s.bootWrites m ws

/-- Writes of an entry, and the end of it. -/
def State.bootStore (s : State) (m : RegEnv) (ws : List (Nat × Word)) : State :=
  let (s, more) := s.bootWrites m ws
  if more then s.onDev Dev.bootDone else s

/-- BOOT_WRITE32: WRITE32 writes B to offset A (Table 20-6). -/
def execBootWrite32 (m : RegEnv) (s : State) : Answer :=
  s.run fun s => s.bootRow 1 fun s e => s.bootStore m [(e.a, w32 e.b)]

/-- A read of the boot table at any offset (R7). -/
def State.bootRead (s : State) (off : Nat) (m : RegEnv) : Word × State :=
  if off % 4 = 0 then s.read32 0 true off m
  else
    let (bs, d) := s.oddBytes 0 true off 4 m
    (w32 (leNat bs), { s with dev := d })

/-- BOOT_POLL32: one read of POLL32: its entry ends when (value AND B) = C, and fails when TMO ms have passed since its first read (Table 20-6). -/
def execBootPoll32 (m : RegEnv) (s : State) : Answer :=
  s.run fun s => s.bootRow 2 fun s e =>
    let since := s.dev.boot.waitNs.getD s.dev.nowNs
    let (v, s) := s.bootRead e.a m
    s.onDev fun d =>
      if v &&& w32 e.b = w32 e.c then d.bootDone
      else if since + e.tmo * 1000000 ≤ d.nowNs then d.bootFail 0xB003
      else { d with boot := { d.boot with waitNs := some since } }

/-- BOOT_DELAY: DELAY begins, or ends when A µs have passed (Table 20-6). -/
def execBootDelay (s : State) : Answer :=
  s.run fun s => s.bootRow 3 fun s e => s.onDev fun d =>
    let since := d.boot.waitNs.getD d.nowNs
    if since + e.a * 1000 ≤ d.nowNs then d.bootDone else { d with boot := { d.boot with waitNs := some since } }

/-! ## LOAD (R477) -/

/-- Copy the units of a LOAD in order from unit `u`: whether all were read. `evs` is how the read of each ends. -/
def Dev.loadUnits (d : Dev) (e : BootEntry) (evs : List PageEv) : Nat → Nat → Bool × Dev
  | 0, _ => (true, d)
  | n + 1, u =>
    let ch := u % 16
    match d.unitPage ch 0 (e.a + u / 16) with
    | none => (false, d.logS 0x4004 (d.flAt ch))
    | some pg => match d.readPage pg false (evs.getD u (.decodes 0 0)) with
      | (none, d) => (false, d.logS 0x4007 { d.flAt ch with detail := d.regN (Reg.FL_CH_UE_ADDR ch) })
      | (some bs, d) => (d.writeDram (e.c * 64 + u * 16384) 0 bs .ok).loadUnits e evs n (u + 1)

/-- The check of what a LOAD has brought (R410, R411, R477). -/
def Dev.loadCheck (d : Dev) (e : BootEntry) : Dev :=
  let len := 256 + leNat (d.dramBytes (e.c * 64 + 0xC) 4)
  if e.b * 16384 < len then d.bootFail 0xB003
  else match d.judgeImage (d.dramBytes (e.c * 64) len) with
    | (some c, _) => (d.logC c nodeSec).bootFail 0xB003
    | (none, true) => d.bootDone
    | (none, false) => (d.logC 0x800B nodeSec).bootDone

/-- LOAD. -/
def Dev.bootLoad (d : Dev) (e : BootEntry) (evs : List PageEv) : Dev :=
  if e.b = 0 then d.bootDone
  else if !d.flash.ready then (d.raise 0x4001 (atNode nodeBoot)).bootFail 0xB003
  else if !d.dramReady then (d.notReady nodeBoot).bootFail 0xB003
  else if d.outOfDram (e.c * 64) (e.b * 16384) then (d.logC 0x9001 nodeBoot).bootFail 0xB003
  else match d.loadUnits e evs e.b 0 with
    | (true, d) => d.loadCheck e
    | (false, d) => d.bootFail 0xB003

/-- BOOT_LOAD: LOAD copies stripe units into DRAM and checks their envelope (R477); `evs` is how the reads of the units end, the rest at once. -/
def execBootLoad (evs : List PageEv) (s : State) : Answer :=
  s.run fun s => s.bootRow 4 fun s e => s.onDev (·.bootLoad e evs)

/-! ## COPY and VALIDATE -/

/-- The words that COPY writes: to consecutive offsets, or to each tile's window in turn. -/
def copyWords (e : BootEntry) (bs : List Byte) : List (Nat × Word) :=
  let ws := (List.range e.c).map (fun i => (e.b + 4 * i, w32 (leAt bs (4 * i) 4)))
  if e.flags.testBit 0 then (List.range 64).flatMap (fun t => ws.map (fun w => (0x1000000 + t * 0x40000 + w.1, w.2))) else ws

/-- BOOT_COPY: COPY writes DRAM words to BAR0 words (Table 20-6). DRAM that cannot be read leaves the entry without effect, and the error is
logged (R245). -/
def execBootCopy (dr : DramEv) (m : RegEnv) (s : State) : Answer :=
  s.run fun s => s.bootRow 5 fun s e =>
    let d := s.dev
    if e.c = 0 then s.onDev Dev.bootDone
    else if !d.dramReady then s.onDev fun d => (d.notReady nodeBoot).bootDone
    else if d.outOfDram (e.a * 64) (4 * e.c) then s.onDev fun d => d.badAccess.bootDone
    else match d.readDram (e.a * 64) (4 * e.c) 0 none dr with
      | (some _, d) => { s with dev := d.bootDone }
      | (none, d) => ({ s with dev := d }).bootStore m (copyWords e (d.dramBytes (e.a * 64) (4 * e.c)))

/-- Validate fragments one after another (R55, R476). -/
def Dev.validateAll (d : Dev) (a n : Nat) : Dev :=
  let d := if d.tick.fsOp = 0 then d else d.fsDo d.tick.fsOp d.tick.lastId
  (List.range n).foldl (fun d i => d.validate (a + i)) d

/-- BOOT_VALIDATE: VALIDATE of fragments A to A + B − 1 (Table 20-6). -/
def execBootValidate (s : State) : Answer :=
  s.run fun s => s.bootRow 6 fun s e => s.onDev fun d => (if e.b = 0 then d else d.validateAll e.a e.b).bootDone

/-- BOOT_TIMEOUT: RB_BOOT_TO ms, at least 10, have passed since the reset's release (R476, Table 20-9). -/
def execBootTimeout (s : State) : Answer :=
  s.runDev fun d =>
    if d.booting && decide (d.boot.startNs + max (d.regN Reg.RB_BOOT_TO) 10 * 1000000 ≤ d.nowNs) then d.bootFail 0xB005 else d

end Sys2Proof.Machine
end

