-- ==== Sys2Proof/Machine/Dm.lean ====
section
/-! DEFINITION. The data-movement instructions (R126 to R133, R152, R153). A local copy is made at the instruction's start; what
other nodes must do travels as flits (R172, R179), and the instruction completes once its reads have returned (R80). -/

namespace Sys2Proof.Machine

/-! ## The DM stream -/

/-- The ordinal of the DM instruction that starts. -/
def Dev.dmOrd (d : Dev) (t : Nat) : Nat := (d.tile t).comp.getD 2 0 + (d.tile t).dmOps.length

/-- A DM instruction that waits for nothing. -/
def dmOp (ord pc : Nat) : DmOp :=
  { ord := ord, pc := pc, todo := [], reads := 0, land := [], own := 0, fwd := [], fwdTag := 0, fwdDst := 0, fwdSrc := 0,
    region := (0, 0) }

/-- Enter a started DM instruction. -/
def Dev.addDm (d : Dev) (t : Nat) (o : DmOp) : Dev := d.updTile t (fun ts => { ts with dmOps := ts.dmOps ++ [o] })

/-- Whether two ranges of lines (first, count) meet. -/
def meets (a b : Nat × Nat) : Bool := decide (a.1 < b.1 + b.2 ∧ b.1 < a.1 + a.2)

/-- Whether a DM instruction may start beside those that are not complete: they have issued every read request and forwarded every line
(R113, R190), the lines it reads or writes in the tile's own scratchpad are none that their data still land on (R79), and `tx` TXIDs are free for
its write transfers (R172). -/
def Dev.dmFree (d : Dev) (t : Nat) (rd wr : List (Nat × Nat)) (tx : Nat) : Bool :=
  decide (tx ≤ (d.tile t).freeCount) &&
  (d.tile t).dmOps.all (fun o => o.todo.isEmpty && o.fwd.isEmpty && o.land.all (fun l => !((rd ++ wr).any (meets l))))

/-- The lines of a byte range. -/
def linesOf (a n : Nat) : Nat × Nat := (a / 64, n / 64)

/-- Every line of a scratchpad. -/
def allLines : Nat × Nat := (0, 8192)

/-- A line of a tile's scratchpad. -/
def Dev.spadLine (d : Dev) (t line : Nat) : Line := bytesLine (d.spadBytes t (line * 64) 64)

/-- The lines of a byte range of a tile as the flits of a transfer to consecutive addresses from `a`. -/
def Dev.spadLines (d : Dev) (t sa n a : Nat) : List (Nat × Line) :=
  (List.range (n / 64)).map (fun i => (a + i, d.spadLine t (sa / 64 + i)))

/-- Send one write transfer (R172, R180): WR flits, LAST on the final one, or one WRZ at `a0` where there is no line. `mc` is the
multicast form and its MEND, `left` the WACKs due, `ctr` the destination counter. -/
def Dev.transfer (d : Dev) (t ord : Nat) (dst : Node) (mc : Nat × Nat) (left : Nat) (ctr : Option Nat) (a0 : Nat)
    (lines : List (Nat × Line)) : Dev :=
  let (id, d) := d.openTx t true false left (some ord)
  let tag := fun (ty : Nat) (last : Bool) (a : Nat) =>
    tagMcast (mkTag (tileNode t) dst ty (d.tileTenant t) last id (last && ctr.isSome) (if last then ctr.getD 0 else 0) a) mc.1 mc.2
  if lines.isEmpty then d.sendAll (tag tyWRZ true a0) 0
  else (lines.zipIdx).foldl (fun d e => d.sendAll (tag tyWR (decide (e.2 + 1 = lines.length)) e.1.1) e.1.2) d

/-- The read requests for `n` lines at a node's address `a`, landing from line `ret` (Table 7-4: at most 64 lines each). -/
def rdJobs (node : Nat → Node) (a n ret : Nat) : List RdJob :=
  (cutLines 64 n a 0 n).map (fun c => { x := (node c.1).x, y := (node c.1).y, addr := c.1, n := c.2.2, ret := ret + c.2.1 })

/-- The target tile lies in the issuing stand (R133). -/
def Dev.tileCheck (d : Dev) (t u : Nat) : Option Nat := if d.sameStand t u then none else some 0x8001

/-! ## Copies out of the own scratchpad -/

/-- A row of a copy: where it is read, where it is written, and its bytes' number. -/
structure CopyRow where
  src : Nat
  dst : Nat
  n   : Nat
  deriving DecidableEq, Repr

/-- The first `k` lines of rows. -/
def cutRows : Nat → List CopyRow → List CopyRow
  | _, [] => []
  | k, r :: rs => if k = 0 then [] else if r.n / 64 ≤ k then r :: cutRows (k - r.n / 64) rs else [{ r with n := k * 64 }]

/-- The lines of a copy of consecutive bytes, each a row of its own: read as it stands in its cycle (R522). -/
def lineRows (sa da n : Nat) : List CopyRow := (List.range (n / 64)).map (fun i => { src := sa + i * 64, dst := da + i * 64, n := 64 })

/-- The tile-port accesses of a copy: one line read in each cycle, and written where the destination is the own tile (R146, R522). -/
def copyUse (own : Bool) (rows : List CopyRow) : PortUse :=
  rows.flatMap (fun r => (List.range (r.n / 64)).map (fun i =>
    (3, (r.src + i * 64, 64)) :: (if own then [(4, (r.dst + i * 64, 64))] else [])))

/-- Copy rows to the own tile in ascending order, each read in full before it is written (R127), or to another tile as one
transfer; after a conflict under HALT only the lines before it, and nothing to another tile. -/
def Dev.copyRows (d : Dev) (t ord u : Nat) (rows : List CopyRow) (lim : Option Nat) : Dev :=
  if u = t then
    (match lim with | none => rows | some k => cutRows k rows).foldl (fun d (r : CopyRow) => d.setSpad t r.dst (d.spadBytes t r.src r.n)) d
  else if lim.isSome then d
  else d.transfer t ord (tileNode u) (0, 0) 1 none ((rows.head?.map (·.dst / 64)).getD 0)
    (rows.flatMap (fun r => d.spadLines t r.src r.n (r.dst / 64)))

/-- Whether a copy needs a TXID. -/
def copyTx (t u : Nat) : Nat := if u = t then 0 else 1

/-- DM.MOVE: LEN × 64 bytes from SSA here to DSA in tile DTILE (R126). -/
def execDmMove (t : Fin 64) (ph : Phase) (cf : Option Conflict) (s : State) : Answer :=
  s.runDev fun d =>
    let f := fun (e : QEntry) => (fld e.word 38 6, saAddr e.word 22 e.ix, saAddr e.word 6 e.ix, fld e.word 0 6 * 64)
    d.queued t 0x60 ph
      (fun d e => let (u, da, sa, n) := f e
        d.dmFree t [linesOf sa n] (if u = t then [linesOf da n] else []) (copyTx t u))
      fun d e =>
        let (u, da, sa, n) := f e
        d.checked t e.pc (firstOf [spCheck 64 [(sa, n), (da, n)], d.tileCheck t u]) fun d =>
          let rows := lineRows sa da n
          let use := copyUse (decide (u = t)) rows
          d.conflict t e.pc use (selfHits use) cf fun d lim =>
            let ord := d.dmOrd t
            (d.copyRows t ord u rows lim).addDm t (dmOp ord e.pc)

/-- DM.MOVE.RD: LEN × 64 bytes from SSA in tile STILE to DSA here (R126). -/
def execDmMoveRd (t : Fin 64) (ph : Phase) (s : State) : Answer :=
  s.runDev fun d =>
    let f := fun (e : QEntry) => (fld e.word 38 6, saAddr e.word 22 e.ix, saAddr e.word 6 e.ix, fld e.word 0 6 * 64)
    d.queued t 0x61 ph
      (fun d e => let (_, _, da, n) := f e
        d.dmFree t [] [linesOf da n] 0)
      fun d e =>
        let (u, sa, da, n) := f e
        d.checked t e.pc (firstOf [spCheck 64 [(sa, n), (da, n)], d.tileCheck t u]) fun d =>
          d.addDm t { dmOp (d.dmOrd t) e.pc with todo := rdJobs (fun _ => tileNode u) (sa / 64) (n / 64) (da / 64),
                                                 land := [linesOf da n] }

/-- DM.MOVE.DS: LEN × 64 bytes from DRAM to SA here (R126). -/
def execDmMoveDs (t : Fin 64) (ph : Phase) (s : State) : Answer :=
  s.runDev fun d =>
    let f := fun (e : QEntry) => (ixAt e.ix (fld e.word 40 4), saAddr e.word 21 e.ix, fld e.word 9 12 * 64)
    d.queued t 0x62 ph
      (fun d e => let (_, sa, n) := f e
        d.dmFree t [] [linesOf sa n] 0)
      fun d e =>
        let (a, sa, n) := f e
        d.checked t e.pc (firstOf [spCheck 64 [(sa, n)], d.dramCheck t a n true]) fun d =>
          d.addDm t { dmOp (d.dmOrd t) e.pc with todo := rdJobs d.dramNode a (n / 64) (sa / 64), land := [linesOf sa n] }

/-- The write transfers of a copy to DRAM: one for each granule, since each has its own channel (R215); to a multicast window the
WACKs of every member are due, and without a member nothing is sent (R322). A zero length sends a WRZ through a window only. -/
def Dev.toDram (d : Dev) (t ord sa a n : Nat) : Dev :=
  let one := fun (d : Dev) (a o k : Nat) =>
    let w := d.lk.winUse.getD (a / 2 ^ 29 - 1) 0
    let left := if 0x20000000 ≤ a ∧ fld w 1 2 ≠ 0 then (d.mcMembers (fld w 1 2)).length else 1
    if left = 0 then d
    else d.transfer t ord (d.dramNode a) (0, 0) left none a (d.spadLines t (sa + o * 64) (k * 64) a)
  if n = 0 then (if 0x20000000 ≤ a then one d a 0 0 else d)
  else (cutLines 512 (n / 64) a 0 (n / 64)).foldl (fun d c => one d c.1 c.2.1 c.2.2) d

/-- How many write transfers a copy to DRAM opens. -/
def sdTx (a n : Nat) : Nat :=
  if n = 0 then (if 0x20000000 ≤ a then 1 else 0) else (cutLines 512 (n / 64) a 0 (n / 64)).length

/-- DM.MOVE.SD: LEN × 64 bytes from SA here to DRAM (R126). -/
def execDmMoveSd (t : Fin 64) (ph : Phase) (cf : Option Conflict) (s : State) : Answer :=
  s.runDev fun d =>
    let f := fun (e : QEntry) => (ixAt e.ix (fld e.word 40 4), saAddr e.word 21 e.ix, fld e.word 9 12 * 64)
    d.queued t 0x63 ph
      (fun d e => let (a, sa, n) := f e
        d.dmFree t [linesOf sa n] [] (sdTx a n))
      fun d e =>
        let (a, sa, n) := f e
        d.checked t e.pc (firstOf [spCheck 64 [(sa, n)], d.dramCheck t a n false]) fun d =>
          d.conflict t e.pc (lineUse 3 sa n) [] cf fun d lim =>
            let ord := d.dmOrd t
            (if lim.isSome then d else d.toDram t ord sa a n).addDm t (dmOp ord e.pc)

/-! ## Gathers (R91, R128) -/

/-- The entries of an index list in the own scratchpad. -/
def Dev.listEntries (d : Dev) (t la cnt : Nat) : List Nat :=
  (List.range cnt).map (fun i => leNat (d.spadBytes t (la + 4 * i) 4))

/-- The bytes of the lines that a list of entries takes. -/
def listLen (cnt : Nat) : Nat := (4 * cnt + 63) / 64 * 64

/-- Of the checks of several elements the failure that R110 names first: range, firebreak, Hertia. -/
def worst (cs : List (Option Nat)) : Option Nat :=
  if cs.contains (some 0x1005) then some 0x1005
  else if cs.contains (some 0x8001) then some 0x8001
  else firstOf cs

/-- An entry outside the window (R91). -/
def gatherCheck (es : List Nat) (count : Nat) : Option Nat := if es.any (fun e => decide (count ≤ e)) then some 0x1006 else none

/-- DM.MOVE.G: elements of a DRAM window, chosen by the list at LSA, to consecutive places from DSA (R128). -/
def execDmMoveG (t : Fin 64) (ph : Phase) (cf : Option Conflict) (s : State) : Answer :=
  s.runDev fun d =>
    let cntOf := fun (d : Dev) (e : QEntry) =>
      let c := fld e.word 3 5
      if c < 16 then ixAt e.ix c else ((d.tile t).p.getD (c - 16) 0).toNat
    let f := fun (d : Dev) (e : QEntry) => (cntOf d e, saAddr e.word 24 e.ix, saAddr e.word 8 e.ix, grpAt e.word e.ix 2)
    d.queued t 0x64 ph
      (fun d e => let (cnt, da, la, len) := f d e
        d.dmFree t [linesOf la (listLen cnt)] [linesOf da (cnt * len * 64)] 0)
      fun d e =>
        let (cnt, da, la, len) := f d e
        d.checked t e.pc (spCheck 64 [(la, listLen cnt), (da, cnt * len * 64)]) fun d =>
          let es := d.listEntries t la cnt
          let win := grpAt e.word e.ix 1
          let place := fun i => (grpAt e.word e.ix 0 + i * len) % 2 ^ 32
          d.checked t e.pc (firstOf
              [if len = 0 then none
               else worst ((es.filter (fun i => decide (i < win))).map (fun i => d.dramCheck t (place i) (len * 64) true)),
               gatherCheck es win]) fun d =>
            d.conflict t e.pc (lineUse 3 la (listLen cnt)) [] cf fun d _ =>
              d.addDm t { dmOp (d.dmOrd t) e.pc with
                        todo := (es.zipIdx).flatMap (fun p => rdJobs d.dramNode (place p.1) len (da / 64 + p.2 * len)),
                        land := [linesOf da (cnt * len * 64)] }

/-- The start checks of rows of equal length at strided addresses (R110, R127). -/
def famCheck (as : List Acc) : Option Nat := spCheck 64 as

/-- DM.STRIDE: rows from strided places here to strided places in tile DTILE (R127). -/
def execDmStride (t : Fin 64) (ph : Phase) (cf : Option Conflict) (s : State) : Answer :=
  s.runDev fun d =>
    d.queued t 0x65 ph (fun d e => d.dmFree t [allLines] [allLines] (copyTx t (fld e.word 38 6)))
      fun d e =>
        let u := fld e.word 38 6
        let g := grpAt e.word e.ix
        let n := g 1 * 64
        let rows : List CopyRow := if n = 0 then [] else (List.range (g 0)).map (fun i =>
          { src := (saAddr e.word 6 e.ix + i * g 2) % 2 ^ 32, dst := (saAddr e.word 22 e.ix + i * g 3) % 2 ^ 32, n := n })
        d.checked t e.pc (firstOf [famCheck (rows.flatMap (fun r => [(r.src, n), (r.dst, n)])), d.tileCheck t u]) fun d =>
          let use := copyUse (decide (u = t)) rows
          d.conflict t e.pc use (selfHits use) cf fun d lim =>
            let ord := d.dmOrd t
            (d.copyRows t ord u rows lim).addDm t (dmOp ord e.pc)

/-- DM.STRIDE.G: elements of a window of the own scratchpad, chosen by the list at LSA, to strided places in tile DTILE (R128). -/
def execDmStrideG (t : Fin 64) (ph : Phase) (cf : Option Conflict) (s : State) : Answer :=
  s.runDev fun d =>
    d.queued t 0x66 ph (fun d e => d.dmFree t [allLines] [allLines] (copyTx t (fld e.word 38 6)))
      fun d e =>
        let u := fld e.word 38 6
        let g := grpAt e.word e.ix
        let la := saAddr e.word 6 e.ix
        let n := g 2 * 64
        let dst := fun i => (saAddr e.word 22 e.ix + i * g 3) % 2 ^ 32
        d.checked t e.pc (spCheck 64 ((la, listLen (g 4)) ::
            (if n = 0 ∨ g 4 = 0 then [] else (g 0 % 64, 64) :: (List.range (g 4)).map (fun i => (dst i, n))))) fun d =>
          let es := d.listEntries t la (g 4)
          let src := fun i => (g 0 + i * n) % 2 ^ 32
          d.checked t e.pc (firstOf [spCheck 64 ((es.filter (fun i => decide (i < g 1))).map (fun i => (src i, n))), d.tileCheck t u,
              gatherCheck es (g 1)]) fun d =>
            let rows : List CopyRow := if n = 0 then [] else (es.zipIdx).map (fun p => { src := src p.1, dst := dst p.2, n := n })
            let scan := lineUse 3 la (listLen (g 4))
            let use := scan ++ copyUse (decide (u = t)) rows
            d.conflict t e.pc use (selfHits use) cf fun d lim =>
              let ord := d.dmOrd t
              (d.copyRows t ord u rows (lim.map (· - scan.length))).addDm t (dmOp ord e.pc)

/-! ## Transpose (R126, R152) -/

/-- Output line `c` of the transpose of 64 rows of 64 elements of `z` bytes at `sa`: one transposed column (R152). -/
def Dev.xposeLine (d : Dev) (t sa z c : Nat) : List Byte :=
  (List.range (64 / z)).flatMap (fun i => d.spadBytes t (sa + ((c % z * (64 / z) + i) * 64 + c / z) * z) z)

/-- The tile-port accesses of DM.XPOSE: a column of 64 lines in each cycle, and the line written with it in the own tile (R152, R522). -/
def xposeUse (own : Bool) (sa da z : Nat) : PortUse :=
  (List.range (64 * z)).map (fun c => (3, (sa + c % z * 4096, 4096)) :: (if own then [(4, (da + c * 64, 64))] else []))

/-- DM.XPOSE: 64 rows of 64 elements from SSA, transposed to DSA in tile DTILE; each column is read as it stands in its cycle (R522). -/
def execDmXpose (t : Fin 64) (ph : Phase) (cf : Option Conflict) (s : State) : Answer :=
  s.runDev fun d =>
    let f := fun (e : QEntry) => (fld e.word 38 6, saAddr e.word 22 e.ix, saAddr e.word 6 e.ix, fld e.word 5 1 + 1)
    d.queued t 0x68 ph
      (fun d e => let (u, da, sa, z) := f e
        d.dmFree t [linesOf sa (4096 * z)] (if u = t then [linesOf da (4096 * z)] else []) (copyTx t u))
      fun d e =>
        let (u, da, sa, z) := f e
        d.checked t e.pc (firstOf [spCheck 4096 [(sa, 4096 * z), (da, 4096 * z)], d.tileCheck t u]) fun d =>
          let use := xposeUse (decide (u = t)) sa da z
          d.conflict t e.pc use (selfHits use) cf fun d lim =>
            let ord := d.dmOrd t
            let d := if u = t then
                (before lim 0 1 (List.range (64 * z))).foldl (fun d c => d.setSpad t (da + c * 64) (d.xposeLine t sa z c)) d
              else if lim.isSome then d
              else d.transfer t ord (tileNode u) (0, 0) 1 none (da / 64)
                ((List.range (64 * z)).map (fun c => (da / 64 + c, bytesLine (d.xposeLine t sa z c))))
            d.addDm t (dmOp ord e.pc)

/-! ## Multicast and forwarding (R129, R130, R179) -/

/-- The operands of DM.MCAST and DM.FWD: FIRST, COUNT, destination counter, source counter, bytes, DSA, SSA. -/
structure McOps where
  first : Nat
  count : Nat
  dctr  : Nat
  sctr  : Nat
  n     : Nat
  da    : Nat
  sa    : Nat
  deriving DecidableEq, Repr

/-- Read them from an entry. -/
def mcOps (e : QEntry) : McOps :=
  { first := fld e.word 40 3, count := fld e.word 36 4, dctr := grpAt e.word e.ix 0 % 2048,
    sctr := grpAt e.word e.ix 0 / 65536 % 2048, n := grpAt e.word e.ix 1, da := saAddr e.word 16 e.ix,
    sa := saAddr e.word 0 e.ix }

/-- The tiles of a range in the sender's row or column. -/
def mcTiles (t : Nat) (col : Bool) (o : McOps) : List Nat :=
  (List.range o.count).map (fun i => if col then (o.first + i) * 8 + t % 8 else tileRow t * 8 + o.first + i)

/-- The first node of the range, and the multicast form with its MEND. -/
def mcForm (t : Nat) (col : Bool) (o : McOps) : Node × Nat × Nat :=
  if col then (⟨tileX t, o.first + 1⟩, 2, o.first + o.count) else (⟨o.first + 1, tileY t⟩, 1, o.first + o.count)

/-- The start checks of both. -/
def Dev.mcCheck (d : Dev) (t : Nat) (col : Bool) (o : McOps) : Option Nat :=
  firstOf [spCheck 64 [(o.sa, o.n), (o.da, o.n)],
           if (mcTiles t col o).all (d.sameStand t) then none else some 0x8001]

/-- What a multicast that includes the sender writes in the sender's own scratchpad: the lines, and how many (R79, R80, R129). -/
def ownLand (t : Nat) (col : Bool) (o : McOps) : List (Nat × Nat) × Nat :=
  if (mcTiles t col o).contains t ∧ o.n ≠ 0 then ([linesOf o.da o.n], o.n / 64) else ([], 0)

/-- The TXIDs of a multicast: none with COUNT 0. -/
def mcTx (e : QEntry) : Nat := if (mcOps e).count = 0 then 0 else 1

/-- The lines of the own scratchpad that a multicast writes. -/
def mcWr (t : Nat) (e : QEntry) (col : Bool) : List (Nat × Nat) := (ownLand t col (mcOps e)).1

/-- DM.MCAST: a copy to each tile of the range, with each destination's counter on its LAST flit and the source counter once every flit
is sent (R129). -/
def execDmMcast (t : Fin 64) (ph : Phase) (cf : Option Conflict) (s : State) : Answer :=
  s.runDev fun d =>
    d.queued t 0x69 ph
      (fun d e => d.dmFree t [linesOf (mcOps e).sa (mcOps e).n] (mcWr t e (bit e.word 43)) (mcTx e))
      fun d e =>
        let o := mcOps e
        let col := bit e.word 43
        d.checked t e.pc (d.mcCheck t col o) fun d => d.conflict t e.pc (lineUse 3 o.sa o.n) [] cf fun d lim =>
          let ord := d.dmOrd t
          let (node, form) := mcForm t col o
          if lim.isSome then d
          else
            let d := if o.count = 0 then d
              else d.transfer t ord node form o.count (some o.dctr) (o.da / 64) (d.spadLines t o.sa o.n (o.da / 64))
            let own := ownLand t col o
            (d.addDm t { dmOp ord e.pc with land := own.1, own := own.2 }).addCtr t o.sctr 1

/-- DM.FWD: each line of the region is forwarded down the column once its arrival bit is set (R130). -/
def execDmFwd (t : Fin 64) (ph : Phase) (cf : Option Conflict) (s : State) : Answer :=
  s.runDev fun d =>
    d.queued t 0x6A ph (fun d e => d.dmFree t [linesOf (mcOps e).sa (mcOps e).n] (mcWr t e true) (mcTx e))
      fun d e =>
        let o := mcOps e
        d.checked t e.pc (d.mcCheck t true o) fun d => d.conflict t e.pc (lineUse 3 o.sa o.n) [] cf fun d lim =>
          let ord := d.dmOrd t
          let (node, form) := mcForm t true o
          let own := ownLand t true o
          let op := { dmOp ord e.pc with region := linesOf o.sa o.n, land := own.1, own := own.2 }
          if lim.isSome then d
          else if o.count = 0 then (d.addDm t op).addCtr t o.sctr 1
          else if o.n = 0 then ((d.transfer t ord node form o.count (some o.dctr) (o.da / 64) []).addDm t op).addCtr t o.sctr 1
          else
            let (id, d) := d.openTx t true false o.count (some ord)
            d.addDm t { op with
                        fwd := (List.range (o.n / 64)).map (fun i => (o.sa / 64 + i, o.da / 64 + i)),
                        fwdTag := tagMcast (mkTag (tileNode t) node tyWR (d.tileTenant t) false id false 0 0) form.1 form.2,
                        fwdDst := o.dctr, fwdSrc := o.sctr }

/-! ## Requests to the units of the row's east node (R131, R132, R225) -/

/-- The east node of a tile's row. -/
def eastNode (t : Nat) : Node := ⟨9, tileY t⟩

/-- Send a CMD flit with a descriptor; the instruction is complete once the unit has accepted it (Table 5-3). -/
def Dev.command (d : Dev) (t pc : Nat) (desc : Nat → Desc) : Dev :=
  let ord := d.dmOrd t
  let (id, d) := d.openTx t false false 1 (some ord)
  let d := d.send (mkTag (tileNode t) (eastNode t) tyCMD (d.tileTenant t) true id false 0 0) 0
  let d := { d with plan := { d.plan with descs := d.plan.descs ++ [desc id] } }
  d.addDm t { dmOp ord pc with reads := 1 }

/-- The check of one DRAM unit that a codec operation names: no codec reaches the Hertia window (R110, R133, R321). -/
def Dev.codecAt (d : Dev) (t : Nat) (enc : Bool) (a : Nat) : Option Nat :=
  if 0x20000000 ≤ a then some (if d.multi then 0x8001 else 0x6009) else d.dramCheck t a 64 (!enc)

/-- The DRAM addresses of a codec operation that its registers fix: the first block's, and with a slot stride every slot's (R131, R133). -/
def codecAddrs (enc : Bool) (a cnt stride : Nat) : List Nat :=
  if cnt = 0 then []
  else if stride = 0 then [a]
  else (List.range (if enc then (cnt + 16383) / 16384 else cnt)).map (fun i => a + i * stride)

/-- DM.CODEC: decode blocks of DRAM to tile DTILE, or encode own bytes to DRAM (R131). The codec signals both
counters, for a count of 0 at once. -/
def execDmCodec (t : Fin 64) (ph : Phase) (cf : Option Conflict) (s : State) : Answer :=
  s.runDev fun d =>
    d.queued t 0x6C ph
      (fun d e => d.dmFree t (if bit e.word 43 then [linesOf (saAddr e.word 21 e.ix) (grpAt e.word e.ix 2)] else []) [] 1)
      fun d e =>
        let enc := bit e.word 43
        let u := fld e.word 37 6
        let sa := saAddr e.word 21 e.ix
        let g := grpAt e.word e.ix
        let cnt := g 2
        let place := worst ((codecAddrs enc (g 0) cnt (g 3)).map (d.codecAt t enc))
        d.checked t e.pc (firstOf [
            if enc then spCheck 64 [(sa, cnt)]
            else if sa % 64 ≠ 0 then some 0x1004 else if cnt ≠ 0 ∧ 524288 ≤ sa then some 0x1005 else none,
            if place = some 0x1005 then place else none, d.tileCheck t u, place]) fun d =>
          d.conflict t e.pc (if enc then lineUse 3 sa cnt else []) [] cf fun d _ =>
            let dctr := g 1 % 2048
            let sctr := g 1 / 65536 % 2048
            let inst := (d.tile t).cur
            let ten := d.tileTenant t
            let ord := d.dmOrd t
            d.command t e.pc fun id => .codec
              { id := 0, tile := t, ord := ord, txid := id, inst := inst, tenant := ten, enc := enc, dtile := u, sa := sa,
                addr := g 0, count := cnt, stride := g 3, ctrD := dctr, ctrS := sctr, num := 0, nextA := g 0 * 64, nextO := sa,
                prof := d.plan.encCfg.getD ten 0, cand := d.plan.encCand.getD ten 0,
                data := if enc then d.spadBytes t sa cnt else [], open_ := 0, held := false, failed := false,
                seq := 0, sent := 0 }

/-- DM.PREF: hand steps of the instance's plan to the prefetcher (R132). -/
def execDmPref (t : Fin 64) (ph : Phase) (s : State) : Answer :=
  s.runDev fun d =>
    d.queued t 0x6D ph (fun d e => d.dmFree t [] [] (if fld e.word 16 12 = 0 then 0 else 1))
      fun d e =>
        let first := fld e.word 28 16
        let cnt := fld e.word 16 12
        match d.instOf t with
        | none => d
        | some x =>
          d.checked t e.pc (if cnt ≠ 0 ∧ x.planLen < 32 * (first + cnt) then some 0x1009 else none) fun d =>
            if cnt = 0 then d.addDm t (dmOp (d.dmOrd t) e.pc)
            else
              let inst := (d.tile t).cur
              let ten := d.tileTenant t
              d.command t e.pc fun id =>   .pref t id inst ten (x.hdrAddr + x.planOff) first cnt

end Sys2Proof.Machine
end

