-- ==== Sys2Proof/Machine/Seq.lean ====
section
/-! DEFINITION. The sequencer: instances on a tile, code loads, the watchdog (R83, R95 to R100) and the CT instructions (R92,
R97, R98, R114, R115, R140). -/

namespace Sys2Proof.Machine

/-! ## Instances (R95, R96) -/

/-- Where a tile's entry of the code directory lies (R54). -/
def Inst.entryAt (x : Inst) (t : Nat) : Nat := x.hdrAddr + x.codeDir + 8 * popcountN t x.mask.toNat

/-- The entry of a tile in the code directory (R54): image address, length in instructions, load address. -/
def Dev.codeEntry (d : Dev) (x : Inst) (t : Nat) : Nat × Nat × Nat :=
  let e := d.dramBytes (x.entryAt t) 8
  (x.hdrAddr + leNat (e.take 4), leNat ((e.drop 4).take 2), leNat (e.drop 6) % 8192)

/-- The next instance of a tile in table order. -/
def nextInst : List Inst → Nat → Nat → Option (Nat × Inst)
  | [], _, _ => none
  | x :: xs, t, i => if x.mask.getLsbD t && !(x.done.getLsbD t) && x.alive then some (i, x) else nextInst xs t (i + 1)

/-- The next instance of a tile after the one that it runs. -/
def Dev.nextAfter (d : Dev) (t i : Nat) : Option (Nat × Inst) := nextInst (d.tick.cur.drop (i + 1)) t (i + 1)

/-- Two images share a part of instruction memory (R96). -/
def Resident.overlaps (r : Resident) (base len : Nat) : Bool := decide (r.base < base + len ∧ base < r.base + r.len)

/-- Begin dispatch at the image's load address: the image is resident from now on, and those it overlaps are not (R96). -/
def Dev.beginCode (d : Dev) (t base : Nat) : Dev :=
  (d.updTile t (fun ts =>
    { ts with loading := false, ready := true, pc := base,
              resident := ts.resident.filter (fun r => !(r.overlaps ts.imgBase ts.imgLen)) ++
                [{ frag := ts.frag, base := ts.imgBase, len := ts.imgLen }] })).advance t base

/-- Read the directory entry of a tile (R39, R54): the code of an error that withholds it, or the entry. -/
def Dev.readEntry (d : Dev) (x : Inst) (t : Nat) (who : Option Nat) : Option Nat × Dev :=
  if d.outOfDram (x.entryAt t) 8 then (some 0x1005, d) else d.readDram (x.entryAt t) 8 0 who .ok

/-- INSTANCE_START: a tile that has completed its previous instance begins the next in table order (R83, R95, R116, R130). An image that is resident,
or that the loader has preloaded, needs no load (R96). -/
def execInstanceStart (t : Fin 64) (s : State) : Answer :=
  s.runDev fun d =>
    let ts := d.tile t
    match nextInst d.tick.cur t 0 with
    | some (i, x) =>
      if d.inRun && ts.cur.isNone && !ts.inReset then
        let (_, len, base) := d.codeEntry x t
        let ctl := d.reg (Reg.SQ_CTRL t)
        let img : Resident := { frag := x.frag, base := base, len := len }
        let (err, d) := d.readEntry x t (some i)
        let d := d.setInst i { x with status := .running }
        let d := d.updTile t (fun ts =>
          { ts with cur := some i, loading := true, ready := false, drain := false, align := false, halted := false,
                    frag := x.frag, pc := base, imgBase := base, imgLen := len, ix := List.replicate 16 0,
                    lc := List.replicate 8 0, p := (x.params ++ List.replicate 16 0).take 16, loops := [],
                    queues := [[], [], [], []], disp := [0, 0, 0, 0], comp := [0, 0, 0, 0], pendIx := [],
                    mxw := [false, false], vxr := [false, false], aligns := 0, cyc := 0, cycNs := d.nowNs,
                    divLog := fld (w32 x.flags) 3 2, wdogMult := fld ctl 0 4,
                    confHalt := bit (d.reg (Reg.TL_CTRL t)) 0, confSeen := false, preload := bit ctl 8, block := none, arrived := [],
                    resident := match ts.pre with
                      | some r => ts.resident.filter (fun q => !(q.overlaps r.base r.len)) ++ [r]
                      | none => ts.resident,
                    pre := none, firstDone := true })
        let d := if ts.firstDone then d else d.ramp t
        match err with
        | some code => d.haltQuiet i code
        | none => if (d.tile t).resident.contains img then d.beginCode t base else d
      else d
    | none => d

/-- What a load reads of DRAM (R39, R96): the directory entry, then the image; the code of an error that withholds either. An image beyond the
installed capacity, which a store changed since VALIDATE can name, draws TILE_ADDR_RANGE (R521; DESIGN CHOICE, notes/assumptions/104). -/
def Dev.loadRead (d : Dev) (x : Inst) (t : Nat) (who : Option Nat) (dr : DramEv) : Option Nat × Dev :=
  let (src, len, _) := d.codeEntry x t
  match d.readEntry x t who with
  | (some c, d) => (some c, d)
  | (none, d) => if d.outOfDram src (len * 8) then (some 0x1005, d) else d.readDram src (len * 8) 0 who dr

/-- The bytes of an image reach a tile's instruction memory (R95), as write flits of the composer over the Trail (R11, R178). -/
def Dev.putImage (d : Dev) (x : Inst) (t : Nat) : Dev :=
  let (src, len, base) := d.codeEntry x t
  let d := (d.traffic ⟨2, 9⟩ (tileNode t) tyWR ((len * 8 + 63) / 64)).traffic (tileNode t) ⟨2, 9⟩ tyWACK 1
  d.setImem t (base * 8) (d.dramBytes src (len * 8))

/-- CODE_LOAD_COMPLETE while an instance runs: its successor's image is preloaded, where PRELOAD lets it and the images do not overlap (R96). An
image that an error withholds stays to be loaded after END. -/
def Dev.preloadDone (d : Dev) (t i : Nat) (dr : DramEv) (poison : Bool) : Dev :=
  let ts := d.tile t
  match d.nextAfter t i with
  | some (_, x) =>
    let (_, len, base) := d.codeEntry x t
    let img : Resident := { frag := x.frag, base := base, len := len }
    if !ts.ready || !ts.preload || ts.pre.isSome || ts.resident.contains img || img.overlaps ts.imgBase ts.imgLen then d
    else match d.loadRead x t none dr with
      | (some _, d) => d
      | (none, d) => if poison then d else (d.putImage x t).updTile t (fun ts => { ts with pre := some img })
  | none => d

/-- CODE_LOAD_COMPLETE: the whole image is in instruction memory and dispatch begins (R95, R96); an uncorrectable error on its path halts the
instance with that error's own code. -/
def execCodeLoadComplete (t : Fin 64) (dr : DramEv) (poison : Bool) (s : State) : Answer :=
  s.runDev fun d =>
    match (d.tile t).cur, d.instOf t with
    | some i, some x =>
      if !d.inRun then d
      else if !(d.tile t).loading then d.preloadDone t i dr poison
      else
        match d.loadRead x t (some i) dr with
        | (some code, d) => d.haltQuiet i code
        | (none, d) =>
          if poison then d.haltTile t 0x2003
          else (d.putImage x t).beginCode t (d.codeEntry x t).2.2
    | _, _ => d

/-- WATCHDOG: the instance's divided cycles exceed (WDOG_MULT + 1) × WC_CYCLES (R100). -/
def execWatchdog (t : Fin 64) (s : State) : Answer :=
  s.runDev fun d =>
    match d.instOf t with
    | some x => if ((d.tile t).wdogMult + 1) * x.wc < d.divCycles t then d.haltTile t 0x1003 else d
    | none => d

/-! ## CT instructions (R92 to R98, R114, R115) -/

/-- NOP (R114). -/
def execNopOp (t : Fin 64) (ecc : SramEv) (s : State) : Answer := s.runDev fun d => d.ctRow t 0x00 ecc (fun _ ts _ => ts.ix)

/-- IX.SET: ix[IXD] := IMM (R115). -/
def execIxSet (t : Fin 64) (ecc : SramEv) (s : State) : Answer :=
  s.runDev fun d => d.ctRow t 0x05 ecc (fun _ ts w => setAt ts.ix (fld w 40 4) (w32 (fld w 0 32)))

/-- IX.ADD: ix[IXD] + IMM modulo 2^32 (R115). -/
def execIxAdd (t : Fin 64) (ecc : SramEv) (s : State) : Answer :=
  s.runDev fun d => d.ctRow t 0x06 ecc (fun _ ts w => ixAdd ts.ix (fld w 40 4) (fld w 0 32))

/-- The value of an SRC field: an index register or a parameter register (R115). -/
def srcVal (ts : TileSt) (w : Word64) : Word :=
  let s := fld w 35 5
  if s < 16 then ts.ix.getD s 0 else ts.p.getD (s - 16) 0

/-- IX.MOV: SRC shifted left by SH (R115). -/
def execIxMov (t : Fin 64) (ecc : SramEv) (s : State) : Answer :=
  s.runDev fun d => d.ctRow t 0x07 ecc (fun _ ts w => setAt ts.ix (fld w 40 4) (srcVal ts w <<< fld w 32 3))

/-- IX.MADD: ix[IXD] + SRC × IMM modulo 2^32 (R115). -/
def execIxMadd (t : Fin 64) (ecc : SramEv) (s : State) : Answer :=
  s.runDev fun d => d.ctRow t 0x08 ecc (fun _ ts w => ixAdd ts.ix (fld w 40 4) ((srcVal ts w).toNat * fld w 0 24))

/-- RDCLK: the divided cycle count; the instance is outside the guarantee (R102, R115). -/
def execRdclk (t : Fin 64) (ecc : SramEv) (s : State) : Answer :=
  s.runDev fun d => d.dispatch t (fun o => decide (o = 0x09)) ecc (fun _ _ => false) fun d ts w =>
    let d := if predHolds w ts.ix ts.p then
        (d.updTile t (fun x => { x with ix := setAt x.ix (fld w 40 4) (w32 (d.divCycles t)) })).flagOutside t
      else d
    d.advance t (ts.pc + 1)

/-- LOOP: the counter takes the count, and the body runs or is skipped (R88, R92, R114). -/
def execLoopOp (t : Fin 64) (ecc : SramEv) (s : State) : Answer :=
  s.runDev fun d => d.dispatch t (fun o => decide (o = 0x03)) ecc (fun _ _ => false) fun d ts w =>
    let n := if !(predHolds w ts.ix ts.p) then 0
      else if bit w 40 then (ts.p.getD (fld w 24 4) 0).toNat else fld w 24 16
    let c := fld w 41 3
    let endAt := ts.pc + 1 + fld w 11 13
    let d := d.updTile t (fun x =>
      { x with lc := setAt x.lc c (w32 n),
               loops := if n = 0 then x.loops else { lc := c, top := ts.pc + 1, endAt := endAt, count := n } :: x.loops })
    d.advance t (if n = 0 then endAt + 1 else ts.pc + 1)

/-- ENDLOOP: the counter falls by 1; back to the top, or on (R92). -/
def execEndloop (t : Fin 64) (ecc : SramEv) (s : State) : Answer :=
  s.runDev fun d => d.dispatch t (fun o => decide (o = 0x04)) ecc (fun _ _ => false) fun d ts _ =>
    match ts.loops with
    | f :: outer =>
      let v := ts.lc.getD f.lc 0 - 1
      let d := d.updTile t (fun x => { x with lc := setAt x.lc f.lc v, loops := if v = 0 then outer else x.loops })
      d.advance t (if v = 0 then ts.pc + 1 else f.top)
    | [] => d

/-- Whether every tile of an instance waits at its TICKWAIT of one ordinal (R97). -/
def Dev.aligned (d : Dev) (i : Nat) (x : Inst) : Bool :=
  let ms := (List.range 64).filter (fun t => x.mask.getLsbD t)
  match ms with
  | [] => false
  | t0 :: _ => ms.all (fun t => decide ((d.tile t).cur = some i) && (d.tile t).align
      && decide ((d.tile t).aligns = (d.tile t0).aligns))

/-- A tile's TICKWAIT completes: dispatch resumes, as a ramp release (R97, R210). -/
def Dev.alignDone (d : Dev) (t : Nat) : Dev := (d.updTile t (fun ts => { ts with align := false })).ramp t

/-- TICKWAIT: the tile waits for the other tiles of the mask; in an instance of one tile it completes at once (R97). -/
def execTickwait (t : Fin 64) (ecc : SramEv) (s : State) : Answer :=
  s.runDev fun d => d.dispatch t (fun o => decide (o = 0x02)) ecc (fun _ _ => false) fun d ts _ =>
    let one := match d.instOf t with | some x => decide (popcountN 64 x.mask.toNat = 1) | none => false
    let d := d.updTile t (fun x => { x with align := true, aligns := x.aligns + 1 })
    let d := d.advance t (ts.pc + 1)
    if one && (d.tile t).align then d.alignDone t else d

/-- TICKWAIT_ALIGN: the last tile of the mask has dispatched its TICKWAIT, and every waiting one completes (R97). -/
def execTickwaitAlign (i : Nat) (s : State) : Answer :=
  s.runDev fun d =>
    match d.tick.cur[i]? with
    | some x => if d.aligned i x then
        ((List.range 64).filter (fun t => x.mask.getLsbD t)).foldl (fun d t => d.alignDone t) d
      else d
    | none => d

/-- END: the tile's part of the instance ends once the queues are empty and its writes are visible (R98). -/
def execEndOp (t : Fin 64) (ecc : SramEv) (s : State) : Answer :=
  s.runDev fun d => d.dispatch t (fun o => decide (o = 0x01)) ecc (fun _ _ => false) fun d _ _ =>
    d.updTile t (fun x => { x with drain := true })

/-- UNASSIGNED_OPCODE: an opcode that Table 5-11 does not list halts the instance with TILE_BAD_INSTR (R99, R140). -/
def execUnassignedOpcode (t : Fin 64) (ecc : SramEv) (s : State) : Answer :=
  s.runDev fun d => d.dispatch t (fun o => !(opAssigned o)) ecc (fun _ _ => false) fun d _ _ => d

/-- RAMP_RELEASE: the ramp delay has passed, so the MX stream may start instructions again (R210). -/
def execRampRelease (t : Fin 64) (s : State) : Answer :=
  s.runDev fun d =>
    let ts := d.tile t
    if ts.rampUntil ≠ 0 ∧ ts.rampUntil ≤ d.nowNs then d.setTile t { ts with rampUntil := 0 } else d

end Sys2Proof.Machine
end

