-- ==== Sys2Proof/Machine/TestEngine.lean ====
section
/-! DEFINITION. The test engine (R497 to R502, R505): the acceptance of a request, and the end of its run. -/

namespace Sys2Proof.Machine

/-- Whether a session attribute word has ENABLE set. -/
def Dev.anySession (d : Dev) : Bool := d.regs.any (fun e => decide (0x14000 ≤ e.1 ∧ e.1 < 0x18000) && bit e.2 15)

/-- Whether the engine accepts a request (R498, R501): `deep` tells that it sets any of tests 0 to 2. -/
def Dev.testOk (d : Dev) (deep : Bool) : Bool :=
  decide (d.pstate = 0) && !d.test.busy &&
  (!deep || (!d.anySession && d.sec.clear.all (fun c => decide (c = .idle)) && d.plan.steps.isEmpty && d.plan.wait.isEmpty))

/-- Whether the preconditions of a test hold (R498). -/
def Dev.testRuns (d : Dev) (n : Nat) : Bool :=
  if n = 3 then !d.host.linkUp
  else if n = 4 then (List.range 4).any (fun p => !bit (d.reg (Reg.HT_PORT_CFG p)) 0)
  else if n = 5 then d.dram.ready else if n = 6 then d.flash.ready else true

/-- The tests of a SELECT that run, as RAN shows them. -/
def Dev.testSet (d : Dev) (sel : Nat) : Nat := ((bitsOf sel 8).filter d.testRuns).foldl (fun n i => n + 2 ^ i) 0

/-- Start a run: at OP15 (R498). -/
def Dev.testStart (d : Dev) (t : TestSt) : Dev := { d.atOp15 with test := t }

/-! ## SENSORS (Table 22-4) -/

/-- The filtered value of a valid sensor. -/
def ThSt.filtered (th : ThSt) (s : Nat) : Option Int := medianOf (th.hist.getD s [])

/-- The median of the filtered values of some sensors: of an even number, a value that the spec does not settle. -/
def middle (l : List Int) : Int :=
  let s := sortI l
  let n := s.length
  if n % 2 = 1 then s.getD (n / 2) 0 else Config.midpoint (s.getD (n / 2 - 1) 0) (s.getD (n / 2) 0)

/-- The first unit that fails SENSORS: a sensor, or 16 for PREF. -/
def sensorsFail (d : Dev) (th : ThSt) : Option Nat :=
  let on := bitsOf (d.regN Reg.TH_SENSOR_EN) 16
  let m := middle (on.filterMap th.filtered)
  let bad := fun s => match th.filtered s with | some t => decide (40 < (t - m).natAbs) | none => true
  match on.find? bad with
  | some s => some s
  | none => let p := d.regN Reg.CAL_PREF
    if 98 * 32768 ≤ p * 100 ∧ p * 100 ≤ 102 * 32768 then none else some 16

/-- RESULT (R499): the tests that ran and those of them that failed, with the unit of the lowest. -/
def resultOf (ran fails unit : Nat) : Nat :=
  match bitsOf (ran &&& fails) 8 with
  | [] => ran
  | t :: _ => ran + (ran &&& fails) * 256 + unit * 65536 + t * 16777216

/-- The end of tests of memory or logic (R500): the rows are scrubbed, no fragment is valid, and the numeric-mode tables are the default. -/
def Dev.testScrub (d : Dev) : Dev :=
  let d := (d.scrubTiles (fun _ => true)).nmDefault (fun _ => true)
  { d with plan := { d.plan with caches := [] }, tick := { d.tick with valid := [], validPend := [] } }

/-- The same for one tile (R505). -/
def Dev.tileScrub (d : Dev) (t : Nat) : Dev := (d.scrubTiles (fun n => decide (n = t))).nmDefault (fun n => decide (n = t))

/-- DIAG as it captures at the end of a private test (Table 22-7): the unit, DONE, and of a failure its BIT, WORD and ARRAY. -/
def diagOf (unit : Nat) (fail : Bool) (diag : BitVec 64) : BitVec 64 :=
  BitVec.ofNat 64 (unit * 65536 + 1) ||| (if fail then (diag &&& 0xFFFFFFFFFF000000) ||| 2 else 0)

/-- The end of a private instruction's run (R505). -/
def State.privEnd (s : State) (code unit : Nat) (fail : Bool) (diag : BitVec 64) : State :=
  let s := s.onDev fun d => { (if code = 0x42 then d else d.tileScrub unit) with test := TestSt.idle }
  { s with tap := { s.tap with diag := diagOf unit fail diag, done := true } }

/-- The end of a selected run: RESULT goes to the test access port, and to the service port that asked (R499, R504). -/
def State.runEnd (s : State) (fails unit : Nat) : State :=
  let t := s.dev.test
  let sens := if t.ran.testBit 7 then sensorsFail s.dev s.th else none
  let f := fails % 128 + 128 * b2n sens.isSome
  let u := if (t.ran &&& f) % 128 = 0 then sens.getD 0 else unit % 256
  let r := resultOf t.ran f u
  let s := s.onDev fun d => { (if t.ran % 8 = 0 then d else d.testScrub) with test := TestSt.idle }
  let s := { s with tap := { s.tap with done := true, result := w32 r } }
  match t.port with
  | none => s
  | some n => s.onPort n fun d p => match p.exec with
    | some e => svcDone d { p.respond e.cmd e.seq 0 (leBytes 4 r) with svcCnt := satAdd p.svcCnt 1 }
    | none => (d, p)

/-- TEST_RUN_END: the run ends (R499, R500, R505): `fails` are the tests that failed, `unit` the unit of the lowest, `diag` what a private test
captures. SENSORS is judged here. -/
def execTestRunEnd (fails : BitVec 8) (unit : BitVec 8) (diag : BitVec 64) (s : State) : Answer :=
  s.run fun s =>
    if !s.dev.test.busy then s
    else (match s.dev.test.priv with
      | some (code, u, _) => s.privEnd code u (decide (fails ≠ 0)) diag
      | none => s.runEnd fails.toNat unit.toNat).onDev Dev.promote

/-- Make a request with a SELECT (R497, R498): whether it is accepted; a SELECT of 0 completes at once. -/
def State.testRequest (s : State) (sel : Nat) (port : Option Nat) : Bool × State :=
  if !s.dev.testOk (decide (sel % 8 ≠ 0)) then (false, { s with tap := { s.tap with refused := true } })
  else
    let s := { s with tap := { s.tap with refused := false, done := decide (sel = 0), result := 0 } }
    if sel = 0 then (true, s)
    else (true, s.onDev fun d => d.testStart { busy := true, ran := d.testSet sel, priv := none, port := port })

end Sys2Proof.Machine
end

