-- ==== Sys2Proof/Machine/Service.lean ====
section
/-! DEFINITION. What the commands of the service protocol do (R458 to R461, R504). -/

namespace Sys2Proof.Machine

/-- What a command answers: its STATUS and what follows it, or that its end is still to come. -/
abbrev SvcAnswer : Type := Option (Nat × List Byte)

/-- Whether a STATUS is a refusal of the frame by the port, which is logged and not counted as executed (R458, R459). -/
def sportCode (st : Nat) : Bool := decide (st / 4096 = 0xA)

/-- The response to the frame that a port executes. -/
def svcAnswer (fr : SvcFrame) (st : Nat) (pay : List Byte) (d : Dev) (p : SpPort) : Dev × SpPort :=
  let p := p.respond fr.cmd fr.seq st pay
  if sportCode st then svcDone (d.logC st nodeBoot) p else svcDone d { p with svcCnt := satAdd p.svcCnt 1 }

/-- Execute the frame of a port when it carries a command (R457, R464). -/
def State.svcRow (s : State) (n cmd : Nat) (act : State → SvcFrame → SvcAnswer × State) : State :=
  let p := s.sp.port n
  match p.exec with
  | some fr =>
    if fr.cmd = cmd ∧ fr.begun = false ∧ p.on s.dev = true then
      match act s fr with
      | (some (st, pay), s) => s.onPort n (svcAnswer fr st pay)
      | (none, s) => s.onPort n fun d p => (d, { p with exec := some { fr with begun := true } })
    else s
  | none => s

/-! ## READ32 and WRITE32 (R459) -/

/-- Why an ADDR is refused. -/
def Dev.addrRefusal (d : Dev) (a : Nat) : Option Nat :=
  if a % 4 ≠ 0 then some 0xA003
  else if d.sec.lockUse && !decide (a < 0x40000 ∨ (0x50000 ≤ a ∧ a < 0x80000)) then some 0xA004 else none

/-- READ32: a 32-bit read as the physical function (R459, R473). -/
def execRead32 (n : Fin 2) (m : RegEnv) (s : State) : Answer :=
  s.run fun s => s.svcRow n 1 fun s fr =>
    let a := leAt fr.payload 0 4
    match s.dev.addrRefusal a with
    | some c => (some (c, []), s)
    | none => let (v, s) := s.read32 0 false a m; (some (0, leBytes 4 v.toNat), s)

/-- WRITE32: a 32-bit write as the physical function (R459, R473). -/
def execWrite32 (n : Fin 2) (m : RegEnv) (s : State) : Answer :=
  s.run fun s => s.svcRow n 2 fun s fr =>
    let a := leAt fr.payload 0 4
    match s.dev.addrRefusal a with
    | some c => (some (c, []), s)
    | none => (some (0, []), s.write32 0 false a (w32 (leAt fr.payload 4 4)) m)

/-! ## The flash commands (R460) -/

/-- Refuse a flash command with a code, logged at the node of its channel. -/
def Dev.svcFlRefuse (d : Dev) (pg code : Nat) : Nat × Dev :=
  (code, if sevOf code = 1 then d.logS code (d.flAt (pgCh pg)) else d.logC code (flNode (pgCh pg)))

/-- Why an operation on a page is refused: a host command is under way, or R279. -/
def Dev.svcRefusal (d : Dev) (op pg : Nat) : Option Nat := if d.flash.cmd.isSome then some 0x400A else d.flRefusal op pg

/-- FLASH_READ: a page is read with correction and retry, and its bytes from OFFSET are returned. In S3 the flash interface is idle and the command
waits (R285). -/
def execFlashRead (n : Fin 2) (ev : PageEv) (s : State) : Answer :=
  s.run fun s => if 3 ≤ s.dev.pstate then s else s.svcRow n 3 fun s fr =>
    let b := fr.payload
    let pg := leAt b 0 4
    let len := leAt b 6 2
    if len = 0 then (some (0, []), s)
    else match s.dev.svcRefusal 1 pg with
      | some c => let (st, d) := s.dev.svcFlRefuse pg c; (some (st, []), { s with dev := d })
      | none => match s.dev.readPage pg (bit (w32 (leAt b 8 1)) 0 || inBoot pg) ev with
        | (some bs, d) => (some (0, (bs.drop (leAt b 4 2)).take len), { s with dev := d })
        | (none, d) =>
          (some (0x4007, []), { s with dev := d.logS 0x4007 { d.flAt (pgCh pg) with detail := d.regN (Reg.FL_CH_UE_ADDR (pgCh pg)) } })

/-- Erase where asked, then program the buffer: its STATUS. -/
def Dev.svcProgram (d : Dev) (pg : Nat) (slc erase eraseOk progOk : Bool) (data : List Byte) : Nat × Dev :=
  match (if erase then d.svcRefusal 3 pg else none), d.svcRefusal 2 pg with
  | some c, _ => d.svcFlRefuse pg c
  | none, some c => d.svcFlRefuse pg c
  | none, none =>
    if erase && !eraseOk then (0x4009, d.flBadBlock pg 0x4009 8)
    else
      let d := if erase then d.eraseBlock pg slc else d
      if progOk then (0, d.programPage pg data slc) else (0x4008, (d.undefPage pg).flBadBlock pg 0x4008 4)

/-- FLASH_PROGRAM: data enters the private buffer; FINAL programs it, and the buffer is erased when it has been used. -/
def execFlashProgram (n : Fin 2) (eraseOk progOk : Bool) (s : State) : Answer :=
  s.run fun s => if 3 ≤ s.dev.pstate then s else s.svcRow n 4 fun s fr =>
    let b := fr.payload
    let pg := leAt b 0 4
    let fl := leAt b 6 1
    if s.dev.sec.lockUse then let (st, d) := s.dev.svcFlRefuse pg 0x400C; (some (st, []), { s with dev := d })
    else
      let page := tabSetList flashDef s.sp.page (leAt b 4 2) (b.drop 7)
      let s := { s with sp := { s.sp with page := page } }
      if !fl.testBit 1 then (some (0, []), s)
      else
        let was := s.dev
        let (st, d) := was.svcProgram pg (fl.testBit 0) (fl.testBit 2) eraseOk progOk (tabGetList flashDef page 0 16384)
        (some (st, []), { s with dev := d, sp := { s.sp with page := if st = 0 ∨ st = 0x4008 then [] else page } })

/-! ## Tests, telemetry and reset (R456, R461, R504) -/

/-- BIST_RUN: a request of the test engine; the response comes when the run has ended, or at once. -/
def execBistRun (n : Fin 2) (s : State) : Answer :=
  s.run fun s => s.svcRow n 5 fun s fr =>
    let sel := leAt fr.payload 0 2
    match s.testRequest sel (some n) with
    | (false, s) => (some (0xA004, leBytes 4 0), s)
    | (true, s) => (if sel = 0 then some (0, leBytes 4 0) else none, s)

/-- TELEMETRY_NOW: the current line without CR LF. -/
def execTelemetryNow (n : Fin 2) (s : State) : Answer :=
  s.run fun s => s.svcRow n 6 fun s _ => (some (0, telemetry s.dev s.th), s)

/-- The response of RESET has been sent: the reset that KIND names (R461, R465). -/
def State.svcApply (s : State) (n : Nat) (fr : SvcFrame) (env : BootEnv) : State :=
  if leAt fr.payload 0 1 = 1 then s.porst env
  else
    let s := s.onDev (·.warm 4 false env)
    s.onPort n svcDone

/-- RESET: the response is formed; once the transmitter is idle the reset is applied (R461). -/
def execSvcReset (n : Fin 2) (env : BootEnv) (s : State) : Answer :=
  s.run fun s =>
    let p := s.sp.port n
    match p.exec with
    | some fr =>
      if fr.cmd = 7 ∧ p.on s.dev = true then
        if !fr.begun then
          s.onPort n fun d p => (d, { p.respond fr.cmd fr.seq 0 [] with exec := some { fr with begun := true }, svcCnt := satAdd p.svcCnt 1 })
        else if p.quiet then s.svcApply n fr env else s
      else s
    | none => s

end Sys2Proof.Machine
end

