-- ==== Sys2Proof/Machine/Sy.lean ====
section
/-! DEFINITION. The synchronisation instructions (R133 to R139, R192, R193, R204 to R208). One SY instruction is under way at a
time; a counter update or barrier arrival leaves once the writes it covers have taken effect. -/

namespace Sys2Proof.Machine

/-- Whether no SY instruction is under way. -/
def syIdle (t : Nat) (d : Dev) (_ : QEntry) : Bool := (d.tile t).syOps.isEmpty

/-- Whether also every counter update of the tile has been acknowledged (R195). -/
def syAcked (t : Nat) (d : Dev) (e : QEntry) : Bool := syIdle t d e && decide ((d.tile t).unacked = 0)

/-- Enter a SY instruction. -/
def Dev.beginSy (d : Dev) (t : Nat) (o : SyOp) : Dev := d.updTile t (fun ts => { ts with syOps := [o] })

/-- The writes that a release covers: those of the DM instructions complete at its start (R134, R192). -/
def Dev.releaseCov (d : Dev) (t : Nat) : List Nat := (d.tile t).covered ((d.tile t).comp.getD 2 0)

/-- The node and address of a counter operation's target (R171, R200), and the check it must pass (R133, R321). -/
def Dev.ctrTarget (d : Dev) (t : Nat) (w : Word64) : Option Nat × Node × Nat :=
  let u := fld w 33 6
  let a := u * 2048 + fld w 22 11
  if bit w 43 then (if d.sameStand t u then none else some 0x8001, tileNode u, a)
  else
    let c := fld w 39 4
    let p := d.routeTo c
    (if d.multi then some 0x8001 else if c = d.chipId ∨ bit (d.reg Reg.HT_ROLES) c then some 0x6009 else none,
     portNode (if p < 4 then p else 0), c * 2 ^ 17 + a)

/-- A counter update (R134): a flit of the given type to the counter, after the writes it covers. -/
def Dev.ctrUpdate (d : Dev) (t : Nat) (e : QEntry) (ty : Nat) : Dev :=
  let (c, node, a) := d.ctrTarget t e.word
  d.checked t e.pc c fun d =>
    d.beginSy t (.hold e.pc (mkTag (tileNode t) node ty (d.tileTenant t) true 0 false 0 a) (scOperand e.word e.ix)
      (d.releaseCov t))

/-- SC.ADD: add the operand modulo 2^32 to a counter (R134). -/
def execScAdd (t : Fin 64) (ph : Phase) (s : State) : Answer :=
  s.runDev fun d => d.queued t 0x80 ph (syIdle t) fun d e => d.ctrUpdate t e tyCADD

/-- SC.SET: write the operand to a counter (R134). -/
def execScSet (t : Fin 64) (ph : Phase) (s : State) : Answer :=
  s.runDev fun d => d.queued t 0x81 ph (syIdle t) fun d e => d.ctrUpdate t e tyCSET

/-- SC.SIGNAL: SC.ADD that starts once every earlier instruction of all four streams is complete (R134; see `needOf`). -/
def execScSignal (t : Fin 64) (ph : Phase) (s : State) : Answer :=
  s.runDev fun d => d.queued t 0x82 ph (syIdle t) fun d e => d.ctrUpdate t e tyCADD

/-- Whether a counter that an instruction reads is poisoned: the instance halts (R485). -/
def Dev.poisoned (d : Dev) (t : Nat) (is : List Nat) : Option Nat :=
  if is.any (d.ctrBad t) then some 0x1011 else none

/-- A wait that starts while its condition does not hold is late when an accepted, unfinished step of the tenant names one of its
counters (R233). -/
def Dev.lateWait (d : Dev) (t : Nat) (holds : Bool) (is : List Nat) : Option Nat × Dev :=
  let ten := d.tileTenant t
  if !holds && d.plan.steps.any (fun p => decide (p.tenant = ten ∧ p.dtile = t) && is.contains p.cidx) then
    let d := (d.incReg (Reg.MT_LATE_CNT ten) 1).orReg Reg.MT_STAT 4
    let (f, d) := d.once (0x3012, ten)
    (some d.nowNs, if f then d.logT 0x3012 (tileLog t) ten else d)
  else (none, d)

/-- The FCLK cycles of a late wait are counted when it completes (R233). -/
def Dev.lateEnd (d : Dev) (t : Nat) (late : Option Nat) : Dev :=
  match late with
  | some ns => d.incReg (Reg.MT_LATE_CYC (d.tileTenant t)) ((d.nowNs - ns) * d.fclk / 1000)
  | none => d

/-- SC.WAIT: wait for a condition on a counter of the tile (R136). -/
def execScWait (t : Fin 64) (ph : Phase) (s : State) : Answer :=
  s.runDev fun d => d.queued t 0x83 ph (syIdle t) fun d e =>
    let i := fld e.word 33 11
    d.checked t e.pc (d.poisoned t [i]) fun d =>
      let v := scOperand e.word e.ix
      let (late, d) := d.lateWait t (ctrCond (d.ctr t i) (bit e.word 32) v) [i]
      d.beginSy t (.wait e.pc late i (bit e.word 32) v false)

/-- A value reaches the index register that SC.READ or WAIT.ANY names, which dispatch may read again (R85). -/
def Dev.giveIx (d : Dev) (t r : Nat) (v : Word) : Dev :=
  d.updTile t (fun ts => { ts with ix := setAt ts.ix r v, pendIx := ts.pendIx.erase r })

/-- SC.READ: the value of a counter of the tile to an index register (R137). -/
def execScRead (t : Fin 64) (ph : Phase) (s : State) : Answer :=
  s.runDev fun d => d.queued t 0x84 ph (syAcked t) fun d e =>
    let i := fld e.word 29 11
    d.checked t e.pc (d.poisoned t [i]) fun d => (d.giveIx t (fld e.word 40 4) (d.ctr t i)).complete t 3

/-- A condition of WAIT.ANY: counter, EQ and operand (R137). -/
def waitCond (n : Nat) : Nat × Bool × Word := (fldN n 0 11, n.testBit 11, w32 (fldN n 32 32))

/-- WAIT.ANY: wait for any of N conditions read from SA (R137). -/
def execWaitAny (t : Fin 64) (ph : Phase) (s : State) : Answer :=
  s.runDev fun d => d.queued t 0x85 ph (syAcked t) fun d e =>
    let sa := saAddr e.word 21 e.ix
    let raw := (List.range (fld e.word 37 3 + 1)).map (fun i => leNat (d.spadBytes t (sa + 8 * i) 8))
    let conds := raw.map waitCond
    d.checked t e.pc (firstOf [spCheck 64 [(sa, 64)], if raw.any (fun n => decide (fldN n 12 20 ≠ 0)) then some 0x1001 else none,
        d.poisoned t (conds.map (·.1))]) fun d =>
      let (late, d) := d.lateWait t (conds.any (fun c => ctrCond (d.ctr t c.1) c.2.1 c.2.2)) (conds.map (·.1))
      d.beginSy t (.any e.pc late (fld e.word 40 4) conds none)

/-- WAIT_CONDITION_MET: the SC.WAIT or WAIT.ANY under way, whose condition has held, completes (R136, R137). -/
def execWaitConditionMet (t : Fin 64) (s : State) : Answer :=
  s.runDev fun d =>
    match (d.tile t).syOps with
    | [.wait pc late i _ _ met] =>
      if met then (d.checked t pc (d.poisoned t [i]) fun d => (d.lateEnd t late).endSy t).settle t else d
    | [.any pc late r cs (some n)] =>
      (d.checked t pc (d.poisoned t (cs.map (·.1))) fun d => ((d.lateEnd t late).giveIx t r (w32 n)).endSy t).settle t
    | _ => d

/-- FENCE.P: complete once every write of the instructions complete at its start is visible (R138). -/
def execFenceP (t : Fin 64) (ph : Phase) (s : State) : Answer :=
  s.runDev fun d => d.queued t 0x86 ph (syIdle t) fun d e => d.beginSy t (.fence e.pc (d.releaseCov t))

/-- The checks of a slot's descriptor (R208, R133, R206). -/
def Dev.barCheck (d : Dev) (t slot : Nat) : Option Nat :=
  let b := d.barDesc (d.tileTenant t) slot
  if !b.ok then some 0x100D
  else if b.tileMask &&& ~~~ d.standMask (d.tileTenant t) ≠ 0 then some 0x8001
  else if b.system && decide (b.chipMask ≠ 0) && !(b.chipMask.testBit d.chipId) then some 0x100C
  else none

/-- Arrivals that a tile has sent at a slot in this tick. -/
def Dev.barSent (d : Dev) (t slot : Nat) : Nat := tabGet (fun _ => 0) (d.barOf t slot).sent t

/-- BAR.ARRIVE: the tile's next arrival at a slot, after the writes it covers (R139, R204). -/
def execBarArrive (t : Fin 64) (ph : Phase) (s : State) : Answer :=
  s.runDev fun d => d.queued t 0x87 ph (syIdle t) fun d e =>
    let slot := fld e.word 38 6
    let g := d.barSent t slot
    d.checked t e.pc (firstOf [d.barCheck t slot, if 65536 ≤ g then some 0x100B else none]) fun d =>
      let ten := d.tileTenant t
      let k := barKey ten slot
      let b := d.bar k
      (d.setBar k { b with sent := tabSet (fun _ => 0) b.sent t (g + 1) }).beginSy t
        (.hold e.pc (barTag (tileNode t) nTick tyBARR ten slot) (w32 (g % 65536 + t.val * 65536)) (d.releaseCov t))

/-- BAR.WAIT: wait for the release of the generation of the tile's latest arrival (R139, R204). -/
def execBarWait (t : Fin 64) (ph : Phase) (s : State) : Answer :=
  s.runDev fun d => d.queued t 0x88 ph (syIdle t) fun d e =>
    let slot := fld e.word 38 6
    let g := d.barSent t slot
    d.checked t e.pc (firstOf [d.barCheck t slot, if g = 0 then some 0x100B else none]) fun d =>
      d.beginSy t (.bar e.pc slot (g - 1))

end Sys2Proof.Machine
end

