-- ==== Sys2Proof/Machine/Tap.lean ====
section
/-! DEFINITION. The test access port (R489 to R496, R503, R505): each row loads the instruction register and makes one scan of the data register that
it selects. The port runs in every power state, and whatever the core does. -/

namespace Sys2Proof.Machine

/-- The codes that hold the core (Table 22-2). -/
def holdCode (c : Nat) : Bool := [0, 3, 4, 5, 6].contains c

/-- Whether a code is one of the private instructions. -/
def privCode (c : Nat) : Bool := [0x40, 0x41, 0x42].contains c

/-- The length of the data register that a code selects (Table 22-2, R490, R491). -/
def drLength (c : Nat) (debugDis : Bool) : Nat :=
  if [0, 1, 5, 6].contains c then 1212
  else if c = 2 then 32 else if c = 0x10 then 40
  else if privCode c && !debugDis then 64 else 1

/-- Load the instruction register (R490, R494): what Capture-IR loaded, the data register selected, and the reset applied when the holding
instructions are left. The reset of the core leaves the port as it is (R489). -/
def State.loadIr (s : State) (code : Nat) (env : BootEnv) : State :=
  let cap := 1 + 4 * b2n s.dev.sec.dbgUse + 8 * b2n s.dev.test.busy
  let s := if s.tap.held && !holdCode code then s.porst env else s
  { s with tap := { s.tap with ir := code, irCap := BitVec.ofNat 8 cap, drLen := drLength code s.dev.sec.dbgUse, held := holdCode code,
                               hiz := decide (code = 4), acTest := if code = 5 then 1 else if code = 6 then 2 else 0 } }

/-- Set what Capture-DR loaded. -/
def State.captureDr (s : State) (v : Nat) : State := { s with tap := { s.tap with drCap := v } }

/-- The cells of Table 22-3 that capture and drive while the supplies in range are as given: [0] VDD_FIO, [1] VDD_DDQ, [2] VDD_SERDES (R494). -/
def cellMask (sup : BitVec 3) : BitVec 1212 :=
  let part := fun (n : Nat) (on : Bool) => if on then BitVec.allOnes n else 0#n
  part 34 true ++ part 120 (sup.getLsbD 2) ++ part 529 (sup.getLsbD 1) ++ part 529 (sup.getLsbD 0)

/-- A scan of the boundary register: the balls are captured, the cells updated (R493). -/
def State.scanCells (s : State) (pins cells : BitVec 1212) (sup : BitVec 3) : State :=
  let m := cellMask sup
  let cap := (pins &&& m) ||| (s.tap.captured &&& ~~~ m)
  ({ s with tap := { s.tap with captured := cap, cells := cells } }).captureDr cap.toNat

/-- TRST_N: the ball low, PORST_N's ball low, or five clocks with TMS high: the port and its test registers reset (R489); held instructions are
left (R494). -/
def execTrstN (env : BootEnv) (s : State) : Answer :=
  let s' := if s.tap.held then s.porst env else s
  .next { s' with tap := { TapSt.reset with cells := s.tap.cells, captured := s.tap.captured } }

/-- EXTEST: the core is held, and a scan of the boundary register drives and captures levels (R494, R496). -/
def execTapExtest (pins cells : BitVec 1212) (sup : BitVec 3) (env : BootEnv) (s : State) : Answer :=
  .next ((s.loadIr 0x00 env).scanCells pins cells sup)

/-- SAMPLE_PRELOAD: a scan of the boundary register while the core runs (R490). -/
def execSamplePreload (pins cells : BitVec 1212) (sup : BitVec 3) (env : BootEnv) (s : State) : Answer :=
  .next ((s.loadIr 0x01 env).scanCells pins cells sup)

/-- IDCODE: the identification register captures 0x2726_09B3 (R492). -/
def execTapIdcode (env : BootEnv) (s : State) : Answer := .next ((s.loadIr 0x02 env).captureDr 0x272609B3)

/-- CLAMP: the core is held, the cells drive, the bypass register is selected (R494). -/
def execTapClamp (env : BootEnv) (s : State) : Answer := .next ((s.loadIr 0x03 env).captureDr 0)

/-- HIGHZ: the core is held with its outputs at high impedance (R494). -/
def execTapHighz (env : BootEnv) (s : State) : Answer := .next ((s.loadIr 0x04 env).captureDr 0)

/-- EXTEST_PULSE: the lanes drive the pulse of IEEE 1149.6 (R496). -/
def execExtestPulse (pins cells : BitVec 1212) (sup : BitVec 3) (env : BootEnv) (s : State) : Answer :=
  .next ((s.loadIr 0x05 env).scanCells pins cells sup)

/-- EXTEST_TRAIN: the lanes drive the train of IEEE 1149.6 (R496). -/
def execExtestTrain (pins cells : BitVec 1212) (sup : BitVec 3) (env : BootEnv) (s : State) : Answer :=
  .next ((s.loadIr 0x06 env).scanCells pins cells sup)

/-- LEAVE_EXTEST: another code is loaded; leaving the five codes applies PORST_N (R494). -/
def execLeaveExtest (code : BitVec 8) (env : BootEnv) (s : State) : Answer := .next (s.loadIr code.toNat env)

/-- BYPASS: its code, an unlisted one, or a private one that DEBUG_DIS hides selects the bypass register (R490, R491). Other codes select what
Table 22-2 gives, and are scanned by the rows of their own. -/
def execTapBypass (code : BitVec 8) (env : BootEnv) (s : State) : Answer :=
  let s := s.loadIr code.toNat env
  .next (if s.tap.drLen = 1 then s.captureDr 0 else s)

/-! ## The test registers -/

/-- The TEST register as it captures (Table 22-6). -/
def State.testWord (s : State) : Nat :=
  s.tap.result.toNat + 2 ^ 32 * b2n s.dev.test.busy + 2 ^ 33 * b2n s.tap.done + 2 ^ 34 * b2n s.tap.refused

/-- FIELD_TEST: TEST is captured; an update with GO set and [38:16] clear makes a request (R503). A held port has been left, so the core runs. -/
def execFieldTest (v : BitVec 40) (env : BootEnv) (s : State) : Answer :=
  let s := s.loadIr 0x10 env
  let s := s.captureDr s.testWord
  .next (if bit v 39 && decide (fld v 16 23 = 0) && s.live then (s.testRequest (fld v 0 8) none).2 else s)

/-- Whether a private instruction's unit exists, and whether its test's preconditions hold (R498, R505). -/
def privUnit (code unit : Nat) : Bool := if code = 0x42 then decide (unit < 36) else decide (unit < 64)
def Dev.privRuns (d : Dev) (code unit : Nat) : Bool :=
  decide (code ≠ 0x42) || decide (unit < 4) || !bit (d.reg (Reg.HT_PORT_CFG ((unit - 4) / 8))) 0

/-- A private instruction's request (R505): refused, at once done where its test is skipped or lasts 0 ms, or under way. -/
def State.privRequest (s : State) (code unit ms : Nat) : State :=
  if !privUnit code unit then s
  else if !s.dev.testOk (decide (code ≠ 0x42)) then { s with tap := { s.tap with refused := true } }
  else
    let s := { s with tap := { s.tap with refused := false, done := false, result := 0, diag := BitVec.ofNat 64 (unit * 65536) } }
    if !s.dev.privRuns code unit || (decide (code = 0x42) && decide (ms = 0)) then
      { s with tap := { s.tap with done := true, diag := diagOf unit false 0 } }
    else s.onDev fun d => d.testStart
      { busy := true, ran := if code = 0x40 then 1 else if code = 0x41 then 4 else 16, priv := some (code, unit, ms), port := none }

/-- A scan under a private instruction: DIAG is captured; an update with GO set makes the request. With DEBUG_DIS in effect it is BYPASS (R491). -/
def State.privScan (s : State) (code : Nat) (v : BitVec 64) (env : BootEnv) : State :=
  let s := s.loadIr code env
  if s.dev.sec.dbgUse then s.captureDr 0
  else
    let s := s.captureDr s.tap.diag.toNat
    if bit v 0 && s.live then s.privRequest code (fld v 8 8) (fld v 16 8) else s

/-- MBIST: the memory test of one tile (R505). -/
def execMbist (v : BitVec 64) (env : BootEnv) (s : State) : Answer := .next (s.privScan 0x40 v env)

/-- LBIST: the logic test of one tile (R505). -/
def execLbist (v : BitVec 64) (env : BootEnv) (s : State) : Answer := .next (s.privScan 0x41 v env)

/-- SERDES_LB: the loopback of one lane (R505). -/
def execSerdesLb (v : BitVec 64) (env : BootEnv) (s : State) : Answer := .next (s.privScan 0x42 v env)

end Sys2Proof.Machine
end

