-- ==== Sys2Proof/Machine/Dispatch.lean ====
section
/-! DEFINITION. One arm for each command: its meaning, or its refusal by name. -/

namespace Sys2Proof.Machine

def exec (i : Instr) (s : State) : Host.Outcome State Fault Refusal :=
  match i with
  | .bar0IrregularAccess fn off acc m m2 => Sys2Proof.Machine.execBar0IrregularAccess fn off acc m m2 s
  | .registerWrite fn off v m => Sys2Proof.Machine.execRegisterWrite fn off v m s
  | .readClear fn off m => Sys2Proof.Machine.execReadClear fn off m s
  | .tkCountRead => Sys2Proof.Machine.execTkCountRead s
  | .pwAonTimeRead => Sys2Proof.Machine.execPwAonTimeRead s
  | .tickEdge env => Sys2Proof.Machine.execTickEdge env s
  | .tableFinal => Sys2Proof.Machine.execTableFinal s
  | .allowanceSpent => Sys2Proof.Machine.execAllowanceSpent s
  | .tickInRequest env => Sys2Proof.Machine.execTickInRequest env s
  | .heldRequestDue env => Sys2Proof.Machine.execHeldRequestDue env s
  | .tkKick v env => Sys2Proof.Machine.execTkKick v env s
  | .tickSrcLost env => Sys2Proof.Machine.execTickSrcLost env s
  | .tkPeriodWrite v => Sys2Proof.Machine.execTkPeriodWrite v s
  | .tableFinish env => Sys2Proof.Machine.execTableFinish env s
  | .overrunAbort env => Sys2Proof.Machine.execOverrunAbort env s
  | .validate frag => Sys2Proof.Machine.execValidate frag s
  | .invalidate frag => Sys2Proof.Machine.execInvalidate frag s
  | .invalidateAll => Sys2Proof.Machine.execInvalidateAll s
  | .tkFstoreBaseWrite hi v => Sys2Proof.Machine.execTkFstoreBaseWrite hi v s
  | .tkRuleCommit v => Sys2Proof.Machine.execTkRuleCommit v s
  | .tkCntClr v => Sys2Proof.Machine.execTkCntClr v s
  | .instanceStart t => Sys2Proof.Machine.execInstanceStart t s
  | .codeLoadComplete t dr poison => Sys2Proof.Machine.execCodeLoadComplete t dr poison s
  | .watchdog t => Sys2Proof.Machine.execWatchdog t s
  | .instanceCommit k => Sys2Proof.Machine.execInstanceCommit k s
  | .nopOp t ecc => Sys2Proof.Machine.execNopOp t ecc s
  | .endOp t ecc => Sys2Proof.Machine.execEndOp t ecc s
  | .tickwait t ecc => Sys2Proof.Machine.execTickwait t ecc s
  | .tickwaitAlign k => Sys2Proof.Machine.execTickwaitAlign k s
  | .loopOp t ecc => Sys2Proof.Machine.execLoopOp t ecc s
  | .endloop t ecc => Sys2Proof.Machine.execEndloop t ecc s
  | .ixSet t ecc => Sys2Proof.Machine.execIxSet t ecc s
  | .ixAdd t ecc => Sys2Proof.Machine.execIxAdd t ecc s
  | .ixMov t ecc => Sys2Proof.Machine.execIxMov t ecc s
  | .ixMadd t ecc => Sys2Proof.Machine.execIxMadd t ecc s
  | .rdclk t ecc => Sys2Proof.Machine.execRdclk t ecc s
  | .mxLdw t ph cf => Sys2Proof.Machine.execMxLdw t ph cf s
  | .mxMac t ph cf => Sys2Proof.Machine.execMxMac t ph cf s
  | .mxClr t ph => Sys2Proof.Machine.execMxClr t ph s
  | .vxLd t ph cf => Sys2Proof.Machine.execVxLd t ph cf s
  | .vxSt t ph cf => Sys2Proof.Machine.execVxSt t ph cf s
  | .vxAlu t ph => Sys2Proof.Machine.execVxAlu t ph s
  | .vxCurve t ph => Sys2Proof.Machine.execVxCurve t ph s
  | .vxRed t ph => Sys2Proof.Machine.execVxRed t ph s
  | .vxBcast t ph => Sys2Proof.Machine.execVxBcast t ph s
  | .vxSort t ph => Sys2Proof.Machine.execVxSort t ph s
  | .vxTopk t ph => Sys2Proof.Machine.execVxTopk t ph s
  | .vxAcc t ph => Sys2Proof.Machine.execVxAcc t ph s
  | .vxDeq t ph cf => Sys2Proof.Machine.execVxDeq t ph cf s
  | .dmMove t ph cf => Sys2Proof.Machine.execDmMove t ph cf s
  | .dmMoveRd t ph => Sys2Proof.Machine.execDmMoveRd t ph s
  | .dmMoveDs t ph => Sys2Proof.Machine.execDmMoveDs t ph s
  | .dmMoveSd t ph cf => Sys2Proof.Machine.execDmMoveSd t ph cf s
  | .dmMoveG t ph cf => Sys2Proof.Machine.execDmMoveG t ph cf s
  | .dmStride t ph cf => Sys2Proof.Machine.execDmStride t ph cf s
  | .dmStrideG t ph cf => Sys2Proof.Machine.execDmStrideG t ph cf s
  | .dmXpose t ph cf => Sys2Proof.Machine.execDmXpose t ph cf s
  | .dmMcast t ph cf => Sys2Proof.Machine.execDmMcast t ph cf s
  | .dmFwd t ph cf => Sys2Proof.Machine.execDmFwd t ph cf s
  | .dmCodec t ph cf => Sys2Proof.Machine.execDmCodec t ph cf s
  | .dmPref t ph => Sys2Proof.Machine.execDmPref t ph s
  | .scAdd t ph => Sys2Proof.Machine.execScAdd t ph s
  | .scSet t ph => Sys2Proof.Machine.execScSet t ph s
  | .scSignal t ph => Sys2Proof.Machine.execScSignal t ph s
  | .scWait t ph => Sys2Proof.Machine.execScWait t ph s
  | .scRead t ph => Sys2Proof.Machine.execScRead t ph s
  | .waitAny t ph => Sys2Proof.Machine.execWaitAny t ph s
  | .waitConditionMet t => Sys2Proof.Machine.execWaitConditionMet t s
  | .fenceP t ph => Sys2Proof.Machine.execFenceP t ph s
  | .barArrive t ph => Sys2Proof.Machine.execBarArrive t ph s
  | .barWait t ph => Sys2Proof.Machine.execBarWait t ph s
  | .rampRelease t => Sys2Proof.Machine.execRampRelease t s
  | .droopDetect t mv => Sys2Proof.Machine.execDroopDetect t mv s
  | .wrFlit f => Sys2Proof.Machine.execWrFlit f s
  | .wrz f => Sys2Proof.Machine.execWrz f s
  | .rdFlit f => Sys2Proof.Machine.execRdFlit f s
  | .cmd f => Sys2Proof.Machine.execCmd f s
  | .rdata f => Sys2Proof.Machine.execRdata f s
  | .wack f => Sys2Proof.Machine.execWack f s
  | .errFlit f => Sys2Proof.Machine.execErrFlit f s
  | .cadd f => Sys2Proof.Machine.execCadd f s
  | .cset f => Sys2Proof.Machine.execCset f s
  | .barr f => Sys2Proof.Machine.execBarr f s
  | .brel f => Sys2Proof.Machine.execBrel f s
  | .reqAfterGrant x y port waited => Sys2Proof.Machine.execReqAfterGrant x y port waited s
  | .syncCounterWindowWrite fn t k v => Sys2Proof.Machine.execSyncCounterWindowWrite fn t k v s
  | .cnPerfSelWrite v => Sys2Proof.Machine.execCnPerfSelWrite v s
  | .unitRead row => Sys2Proof.Machine.execUnitRead row s
  | .pageRead ch host ev => Sys2Proof.Machine.execPageRead ch host ev s
  | .blockLanded row src ev => Sys2Proof.Machine.execBlockLanded row src ev s
  | .blockReread row ev => Sys2Proof.Machine.execBlockReread row ev s
  | .blockDecoded row => Sys2Proof.Machine.execBlockDecoded row s
  | .tableFetch row dr => Sys2Proof.Machine.execTableFetch row dr s
  | .blockEncode row dr => Sys2Proof.Machine.execBlockEncode row dr s
  | .cdTblCommit v => Sys2Proof.Machine.execCdTblCommit v s
  | .dramStart v => Sys2Proof.Machine.execDramStart v s
  | .dramTrainingDone ev => Sys2Proof.Machine.execDramTrainingDone ev s
  | .drCfgWrite k v => Sys2Proof.Machine.execDrCfgWrite k v s
  | .refreshTemp ch bank => Sys2Proof.Machine.execRefreshTemp ch bank s
  | .refreshFixed ch rfcNs => Sys2Proof.Machine.execRefreshFixed ch rfcNs s
  | .mr4Poll ch m => Sys2Proof.Machine.execMr4Poll ch m s
  | .wck2dqTracking ch => Sys2Proof.Machine.execWck2dqTracking ch s
  | .pageIdleClose ch bank => Sys2Proof.Machine.execPageIdleClose ch bank s
  | .flashStart v => Sys2Proof.Machine.execFlashStart v s
  | .flashStartDone ev => Sys2Proof.Machine.execFlashStartDone ev s
  | .flGcfgWrite v => Sys2Proof.Machine.execFlGcfgWrite v s
  | .flChWregWrite c v => Sys2Proof.Machine.execFlChWregWrite c v s
  | .flChSregWrite c v => Sys2Proof.Machine.execFlChSregWrite c v s
  | .readPage slc => Sys2Proof.Machine.execReadPage slc s
  | .programPage slc dr => Sys2Proof.Machine.execProgramPage slc dr s
  | .eraseBlock slc => Sys2Proof.Machine.execEraseBlock slc s
  | .markBad => Sys2Proof.Machine.execMarkBad s
  | .bbtStore => Sys2Proof.Machine.execBbtStore s
  | .flScan => Sys2Proof.Machine.execFlScan s
  | .hostCommandAged => Sys2Proof.Machine.execHostCommandAged s
  | .portTraining p ev => Sys2Proof.Machine.execPortTraining p ev s
  | .linkTrainRetry p => Sys2Proof.Machine.execLinkTrainRetry p s
  | .portDown p => Sys2Proof.Machine.execPortDown p s
  | .idleFlit p hd bs => Sys2Proof.Machine.execIdleFlit p hd bs s
  | .dataFlit p bs ev => Sys2Proof.Machine.execDataFlit p bs ev s
  | .tickFlit p hd bs => Sys2Proof.Machine.execTickFlit p hd bs s
  | .noticeFlit p hd bs => Sys2Proof.Machine.execNoticeFlit p hd bs s
  | .nakFlit p bs ev => Sys2Proof.Machine.execNakFlit p bs ev s
  | .replayTimeout p => Sys2Proof.Machine.execReplayTimeout p s
  | .linesPkt k => Sys2Proof.Machine.execLinesPkt k s
  | .eack k => Sys2Proof.Machine.execEack k s
  | .eackDue kind cls peer => Sys2Proof.Machine.execEackDue kind cls peer s
  | .undeliv k => Sys2Proof.Machine.execUndeliv k s
  | .finishPkt k => Sys2Proof.Machine.execFinishPkt k s
  | .e2eTimeout kind cls peer => Sys2Proof.Machine.execE2eTimeout kind cls peer s
  | .masterLost => Sys2Proof.Machine.execMasterLost s
  | .chOpen v => Sys2Proof.Machine.execChOpen v s
  | .chClose v => Sys2Proof.Machine.execChClose v s
  | .htRouteCommit v => Sys2Proof.Machine.execHtRouteCommit v s
  | .htChipWrite topo v => Sys2Proof.Machine.execHtChipWrite topo v s
  | .linkRstN => Sys2Proof.Machine.execLinkRstN s
  | .mpCommit v => Sys2Proof.Machine.execMpCommit v s
  | .hostWake => Sys2Proof.Machine.execHostWake s
  | .requestS1Poise => Sys2Proof.Machine.execRequestS1Poise s
  | .requestS2Rest => Sys2Proof.Machine.execRequestS2Rest s
  | .requestS3Doze => Sys2Proof.Machine.execRequestS3Doze s
  | .requestS4Deep => Sys2Proof.Machine.execRequestS4Deep s
  | .requestS5Dormant => Sys2Proof.Machine.execRequestS5Dormant s
  | .stateEntry n failing => Sys2Proof.Machine.execStateEntry n failing s
  | .wakePin pin => Sys2Proof.Machine.execWakePin pin s
  | .sp0BreakWake => Sys2Proof.Machine.execSp0BreakWake s
  | .wakeTimer => Sys2Proof.Machine.execWakeTimer s
  | .stateExit env => Sys2Proof.Machine.execStateExit env s
  | .dramReadyEvent evs => Sys2Proof.Machine.execDramReadyEvent evs s
  | .opCommit v => Sys2Proof.Machine.execOpCommit v s
  | .pllLock => Sys2Proof.Machine.execPllLock s
  | .avsReadback mv => Sys2Proof.Machine.execAvsReadback mv s
  | .avsTimeout retries => Sys2Proof.Machine.execAvsTimeout retries s
  | .samplingInstant raw pref => Sys2Proof.Machine.execSamplingInstant raw pref s
  | .idleInstant => Sys2Proof.Machine.execIdleInstant s
  | .thCommit v => Sys2Proof.Machine.execThCommit v s
  | .thermalTrip sensor c1 c2 => Sys2Proof.Machine.execThermalTrip sensor c1 c2 s
  | .fanTachWindow edges => Sys2Proof.Machine.execFanTachWindow edges s
  | .fanDutyFall => Sys2Proof.Machine.execFanDutyFall s
  | .secStandGo v => Sys2Proof.Machine.execSecStandGo v s
  | .clearingRequest v => Sys2Proof.Machine.execClearingRequest v s
  | .clearingAccept t => Sys2Proof.Machine.execClearingAccept t s
  | .clearingRelease t => Sys2Proof.Machine.execClearingRelease t s
  | .keyGenerate slot entropyFail => Sys2Proof.Machine.execKeyGenerate slot entropyFail s
  | .keyUnwrap slot => Sys2Proof.Machine.execKeyUnwrap slot s
  | .keyExport slot => Sys2Proof.Machine.execKeyExport slot s
  | .progRoot => Sys2Proof.Machine.execProgRoot s
  | .fuseLock => Sys2Proof.Machine.execFuseLock s
  | .debugDis => Sys2Proof.Machine.execDebugDis s
  | .rollbackInc => Sys2Proof.Machine.execRollbackInc s
  | .doorbellWrite fn r v ecc => Sys2Proof.Machine.execDoorbellWrite fn r v ecc s
  | .doorbellVisible r => Sys2Proof.Machine.execDoorbellVisible r s
  | .ringConfigWrite fn r k v => Sys2Proof.Machine.execRingConfigWrite fn r k v s
  | .bar2Read fn off acc ev ecc => Sys2Proof.Machine.execBar2Read fn off acc ev ecc s
  | .completionWrite => Sys2Proof.Machine.execCompletionWrite s
  | .coalesceTimer r => Sys2Proof.Machine.execCoalesceTimer r s
  | .msixUnmask fn c => Sys2Proof.Machine.execMsixUnmask fn c s
  | .flrVf t => Sys2Proof.Machine.execFlrVf t s
  | .flrPf env => Sys2Proof.Machine.execFlrPf env s
  | .pmeTurnOff => Sys2Proof.Machine.execPmeTurnOff s
  | .spBaudWrite n v => Sys2Proof.Machine.execSpBaudWrite n v s
  | .spDataRead n => Sys2Proof.Machine.execSpDataRead n s
  | .spStatRead n ctsHigh => Sys2Proof.Machine.execSpStatRead n ctsHigh s
  | .spDataWrite n v => Sys2Proof.Machine.execSpDataWrite n v s
  | .spBrkTx n v => Sys2Proof.Machine.execSpBrkTx n v s
  | .flushRx n => Sys2Proof.Machine.execFlushRx n s
  | .flushTx n => Sys2Proof.Machine.execFlushTx n s
  | .characterReceive n old sam => Sys2Proof.Machine.execCharacterReceive n old sam s
  | .breakEnd n bits => Sys2Proof.Machine.execBreakEnd n bits s
  | .characterTransmit n l => Sys2Proof.Machine.execCharacterTransmit n l s
  | .telemetryLine n => Sys2Proof.Machine.execTelemetryLine n s
  | .serviceFrameTimeout n => Sys2Proof.Machine.execServiceFrameTimeout n s
  | .read32 n m => Sys2Proof.Machine.execRead32 n m s
  | .write32 n m => Sys2Proof.Machine.execWrite32 n m s
  | .flashRead n ev => Sys2Proof.Machine.execFlashRead n ev s
  | .flashProgram n eraseOk progOk => Sys2Proof.Machine.execFlashProgram n eraseOk progOk s
  | .bistRun n => Sys2Proof.Machine.execBistRun n s
  | .telemetryNow n => Sys2Proof.Machine.execTelemetryNow n s
  | .svcReset n env => Sys2Proof.Machine.execSvcReset n env s
  | .porstN env => Sys2Proof.Machine.execPorstN env s
  | .perstN env => Sys2Proof.Machine.execPerstN env s
  | .warmReset v env => Sys2Proof.Machine.execWarmReset v env s
  | .tileReset hi v => Sys2Proof.Machine.execTileReset hi v s
  | .bootEnd => Sys2Proof.Machine.execBootEnd s
  | .bootWrite32 m => Sys2Proof.Machine.execBootWrite32 m s
  | .bootPoll32 m => Sys2Proof.Machine.execBootPoll32 m s
  | .bootDelay => Sys2Proof.Machine.execBootDelay s
  | .bootLoad evs => Sys2Proof.Machine.execBootLoad evs s
  | .bootCopy dr m => Sys2Proof.Machine.execBootCopy dr m s
  | .bootValidate => Sys2Proof.Machine.execBootValidate s
  | .bootTimeout => Sys2Proof.Machine.execBootTimeout s
  | .errLogRdWrite v => Sys2Proof.Machine.execErrLogRdWrite v s
  | .tlNmCommit t v => Sys2Proof.Machine.execTlNmCommit t v s
  | .trstN env => Sys2Proof.Machine.execTrstN env s
  | .tapExtest pins cells sup env => Sys2Proof.Machine.execTapExtest pins cells sup env s
  | .samplePreload pins cells sup env => Sys2Proof.Machine.execSamplePreload pins cells sup env s
  | .tapIdcode env => Sys2Proof.Machine.execTapIdcode env s
  | .tapClamp env => Sys2Proof.Machine.execTapClamp env s
  | .tapHighz env => Sys2Proof.Machine.execTapHighz env s
  | .extestPulse pins cells sup env => Sys2Proof.Machine.execExtestPulse pins cells sup env s
  | .extestTrain pins cells sup env => Sys2Proof.Machine.execExtestTrain pins cells sup env s
  | .leaveExtest code env => Sys2Proof.Machine.execLeaveExtest code env s
  | .fieldTest v env => Sys2Proof.Machine.execFieldTest v env s
  | .mbist v env => Sys2Proof.Machine.execMbist v env s
  | .lbist v env => Sys2Proof.Machine.execLbist v env s
  | .serdesLb v env => Sys2Proof.Machine.execSerdesLb v env s
  | .tapBypass code env => Sys2Proof.Machine.execTapBypass code env s
  | .testRunEnd fails unit diag => Sys2Proof.Machine.execTestRunEnd fails unit diag s
  | .programEraseComplete ok => Sys2Proof.Machine.execProgramEraseComplete ok s
  | .startBitAbandon n sam => Sys2Proof.Machine.execStartBitAbandon n sam s
  | .unassignedOpcode t ecc => Sys2Proof.Machine.execUnassignedOpcode t ecc s

end Sys2Proof.Machine
end

