-- ==== Sys2Proof/Machine/Step.lean ====
section
/-! DEFINITION. One step: the command at the front of the queue takes effect; with no command waiting, time passes. -/

namespace Sys2Proof.Machine

/-- The state with nothing to do: one core cycle of 10 ns passes (DESIGN CHOICE, notes/assumptions/2.md). -/
def State.idle (s : State) : State := { s with dev := { s.dev with nowNs := s.dev.nowNs + 10 } }

/-- The state whose queue is the given list. -/
def State.withPending (s : State) (cs : List Instr) : State := { s with pending := cs }

/-- One step of the block. -/
def step (s : State) : Host.Outcome State Fault Refusal :=
  match s.pending with
  | [] => .next s.idle
  | c :: cs => exec c (s.withPending cs)

/-- The state with the command that a word spells put at the front of its queue. -/
def State.withFetchWord (s : State) (nbits w : Nat) : State :=
  match decodeTableWord nbits w with
  | some c => s.withPending (c :: s.pending)
  | none => s

end Sys2Proof.Machine
end

