-- ==== Sys2Proof/Safety.lean ====
section
/-! DEFINITION. The terms in which the statements speak of states and commands: what the bounded parts keep, which commands act outside the core,
when the host reaches the core, when a tile dispatches and starts an instruction. -/

namespace Sys2Proof

open Sys2Proof.Machine

/-- The FIFOs of a service port hold at most 64 entries each (R442, R445). -/
def Machine.SpPort.bounded (p : SpPort) : Bool := decide (p.rx.length ≤ 64) && decide (p.tx.length ≤ 64)

/-- The thermal level judged and the level used are T0 to T4, and the dwell count fits its 16 bits (R383, R384). -/
def Machine.ThSt.bounded (th : ThSt) : Bool := decide (th.judged ≤ 4) && decide (th.level ≤ 4) && decide (th.dwell ≤ 65535)

/-- The bounds that every step keeps. -/
def Machine.State.bounded (s : State) : Bool := s.sp.p0.bounded && s.sp.p1.bounded && s.th.bounded

/-- The canonical form of every memory: keys strictly rising, and no entry equal to what an unlisted address reads as. -/
def Machine.Memory.wf (d : Dev) : Bool :=
  tabWf (spadDef d.spadGen) d.mem.spad && tabWf imemDef d.mem.imem && tabWf nmDef d.mem.nmSh && tabWf nmDef d.mem.nmAct &&
  tabWf zeroW d.mem.acc && tabWf zeroW d.mem.vreg && tabWf zeroW d.mem.ctr && tabWf (dramDef d.dram.scr) d.dram.cells &&
  tabWf flashDef d.flash.cells

/-- The commands that act whether or not the core's clocks run: the power-on reset and the rows of the test access port. -/
def Instr.offCore : Instr → Bool
  | .porstN _ => true
  | .trstN _ => true
  | .tapExtest .. => true
  | .samplePreload .. => true
  | .tapIdcode _ => true
  | .tapClamp _ => true
  | .tapHighz _ => true
  | .extestPulse .. => true
  | .extestTrain .. => true
  | .leaveExtest .. => true
  | .fieldTest .. => true
  | .mbist .. => true
  | .lbist .. => true
  | .serdesLb .. => true
  | .tapBypass .. => true
  | _ => false

namespace Machine

/-- The core runs and its host port is not powered down with S4 or S5 (R421). -/
def State.hostReady (s : State) : Bool := s.live && decide (s.dev.pstate < 4)

/-- An access whose write is not poisoned and that the port's buffers carry without an error (R38, R485). -/
def RegEnv.whole (m : RegEnv) : Bool := !m.poison && decide (m.port = .clean)

/-- A register write that only stores: no action of its own, not read-only to the function, not a mark word. -/
def Dev.plainWrite (d : Dev) (fn off : Nat) (v : Word) (m : RegEnv) : Bool :=
  !vfReadOnly fn off && decide (off ≠ Reg.TK_KICK) && decide (off ≠ Reg.TH_COMMIT) && !decide (0xC1000 ≤ off ∧ off < 0xC1200) &&
  (if off < 0x80000 then d.coreWrite off v m else d.unitWrite off v m).isNone

/-- Nothing in the power unit, the links or the running table holds back a due edge: no request of a power state, no entry or exit, no table that
runs, no voltage or stands to wait for, no other chip (R75, R330, R332, R352, R366, R398). -/
def Dev.edgeFree (d : Dev) : Bool :=
  d.pwr.heldReq.isNone && !d.entering && !d.exiting && decide (d.pstate = 0) && d.tickOn && !d.tableRunning && d.pwr.req.isNone &&
  d.edgeWaits.isNone && !d.isMaster

/-- The tick unit takes requests of a source and has none pending (R50, R472): the source is in use, the tick runs, and neither a boot, a relay, a
power state nor a held edge stands in the way. -/
def Dev.takesRequests (d : Dev) (src : Nat) : Bool :=
  decide (d.source = src) && decide (d.tick.periodUse ≠ 0) && !d.booting && !d.relay && !d.asleep 3 && decide (d.pstate = 0) &&
  d.pwr.firstEdge.isNone && !d.tick.held && d.tick.slipDue.isNone && d.lk.due.isNone

/-! ## Dispatch and start of Nerlor instructions -/

/-- The word at a tile's PC. -/
def Dev.wordAt (d : Dev) (t : Nat) : Word64 := d.instWord t (d.tile t).pc

/-- A tile dispatches an instruction of the opcode now: it may dispatch, the word at its PC has the opcode, the encoding is legal, and no index
register that it reads is still to be written (R78, R85, R99). -/
def Dev.dispatches (d : Dev) (t op : Nat) : Bool :=
  d.canDispatch t && decide (opOf (d.wordAt t) = op) && !badEnc (d.wordAt t) t && !badLoop (d.wordAt t) (d.tile t).pc (d.tile t).loops &&
  !(readsIx (d.wordAt t)).any (fun r => (d.tile t).pendIx.contains r)

/-- An address lies in the running image of a tile (R99). -/
def Dev.inImage (d : Dev) (t pc : Nat) : Bool :=
  decide ((d.tile t).imgBase ≤ pc) && decide (pc < (d.tile t).imgBase + (d.tile t).imgLen)

/-- The predicate of the word at a tile's PC holds (R87). -/
def Dev.predAt (d : Dev) (t : Nat) : Bool := predHolds (d.wordAt t) (d.tile t).ix (d.tile t).p

/-- A corrected event of the instruction memory is noted (R485). -/
def Dev.eccNoted (d : Dev) (t : Nat) (ecc : SramEv) : Dev := if ecc = .corrected then d.sramCe (tileLog t) else d

/-- State `s'` is `s` with the record of tile `t` replaced, and with what the tile then completes by itself. -/
def State.TileBecomes (s : State) (t : Nat) (ts : TileSt) (s' : State) : Prop :=
  ∃ d : Dev, s' = { s with dev := d.settle t } ∧ d.tile t = ts ∧ (∀ u, u ≠ t → d.tile u = s.dev.tile u) ∧
    d = { s.dev with tiles := d.tiles }

/-- The CT commands of a tile with their opcodes (Table 5-11). -/
def ctRows (t : Fin 64) (ecc : SramEv) : List (Instr × Nat) :=
  [(.nopOp t ecc, 0x00), (.endOp t ecc, 0x01), (.tickwait t ecc, 0x02), (.loopOp t ecc, 0x03), (.endloop t ecc, 0x04), (.ixSet t ecc, 0x05),
   (.ixAdd t ecc, 0x06), (.ixMov t ecc, 0x07), (.ixMadd t ecc, 0x08), (.rdclk t ecc, 0x09)]

/-- The queued commands of a tile in a phase, with their opcodes (Table 5-11). -/
def queuedRows (t : Fin 64) (ph : Phase) : List (Instr × Nat) :=
  [(.mxLdw t ph none, 0x20), (.mxMac t ph none, 0x21), (.mxClr t ph, 0x22), (.vxLd t ph none, 0x40), (.vxSt t ph none, 0x41),
   (.vxAlu t ph, 0x42), (.vxCurve t ph, 0x43), (.vxRed t ph, 0x44), (.vxBcast t ph, 0x45), (.vxSort t ph, 0x46), (.vxTopk t ph, 0x47),
   (.vxAcc t ph, 0x48), (.vxDeq t ph none, 0x49), (.dmMove t ph none, 0x60), (.dmMoveRd t ph, 0x61), (.dmMoveDs t ph, 0x62),
   (.dmMoveSd t ph none, 0x63), (.dmMoveG t ph none, 0x64), (.dmStride t ph none, 0x65), (.dmStrideG t ph none, 0x66),
   (.dmXpose t ph none, 0x68), (.dmMcast t ph none, 0x69), (.dmFwd t ph none, 0x6A), (.dmCodec t ph none, 0x6C), (.dmPref t ph, 0x6D),
   (.scAdd t ph, 0x80), (.scSet t ph, 0x81), (.scSignal t ph, 0x82), (.scWait t ph, 0x83), (.scRead t ph, 0x84), (.waitAny t ph, 0x85),
   (.fenceP t ph, 0x86), (.barArrive t ph, 0x87), (.barWait t ph, 0x88)]

/-- The queue of an opcode's stream in a tile. -/
def Dev.queueOf (d : Dev) (t op : Nat) : List QEntry := (d.tile t).queues.getD (streamOf op) []

/-- An instruction of the opcode is at the head of its stream and what its WAIT field names is complete (R79, R81). -/
def Dev.startsWith (d : Dev) (t op : Nat) (e : QEntry) : Bool :=
  decide ((d.queueOf t op).head? = some e) && decide (opOf e.word = op) && d.inRun && (d.tile t).cur.isSome && (d.tile t).mayStart e

/-- The tile with the head of that stream taken out. -/
def Dev.popped (d : Dev) (t op : Nat) : Dev :=
  d.setTile t { d.tile t with queues := setAt (d.tile t).queues (streamOf op) (d.queueOf t op).tail }

/-- The state after the instruction at the head of a stream has started with an effect on the core, and the tile has completed by itself what
follows. -/
def State.started (s : State) (t op : Nat) (act : Dev → Dev) : State := s.onDev fun d => (act (d.popped t op)).settle t




/-! ## Flits at their destination -/

/-- The node that a flit names as the place it has reached, and its source. -/
def FlitEv.dst (f : FlitEv) : Node := ⟨f.x.val, f.y.val⟩
def FlitEv.src (f : FlitEv) : Node := ⟨tagSx f.tag, tagSy f.tag⟩

/-- A flit of a type arrives whole: it is first in the last buffer of its way (R34, R173), the fabric runs (R185), it does not go from one south
unit to another (R176), its tag obeys R171 and names the place, its links find nothing (R184) and no router refuses it (R183). -/
def Dev.arrives (d : Dev) (ty : Nat) (f : FlitEv) : Bool :=
  mayLand d.fab.inflight (d.copyOf f) && decide (d.pstate < 3) && !decide (tagSy f.tag = 9 ∧ f.y.val = 9) && decide (tagTy f.tag = ty) &&
  !tagBad f.tag && (tagDests f.tag).contains f.dst && decide (f.ecc = .clean) &&
  ((d.leave (d.copyOf f)).refusedAt f.tag f.dst).isNone

/-- A request does not wait at its destination either: the channel of a north node has room (R313), the write queue of a west node takes it and
lets reads pass (R250), a tile's responder holds fewer than 16 (R174). -/
def Dev.accepts (d : Dev) (ty : Nat) (f : FlitEv) : Bool :=
  d.arrives ty f && !d.northWaits (d.copyOf f) && !d.westWaits f.tag f.dst && !d.tileWaits f.tag f.dst

/-- The core once a flit has left the fabric: what waited for its place has moved up, and the ports that it crossed have counted it. -/
def Dev.landed (d : Dev) (f : FlitEv) : Dev := (d.leave (d.copyOf f)).passed f.tag f.dst (wayOf f.src f.dst) true

/-- Neither the flit nor an earlier one of its transfer to this destination was poisoned. -/
def Dev.wholesome (d : Dev) (f : FlitEv) : Bool :=
  !tagPoison f.tag && !(d.landed f).fab.tainted.contains (taintOf (d.copyOf f))

/-- The end of a write transfer at its destination: with LAST, the counter that it names is incremented, and a WACK goes back. -/
def Dev.writeEnds (d : Dev) (f : FlitEv) : Dev :=
  if tagLast f.tag then
    (if tagCen f.tag && isTile f.x f.y then d.addCtr (tileAt f.x f.y) (tagCidx f.tag) 1 else d).wack f.dst f.tag false 0
  else d

/-- The descriptor that a CMD flit carries. -/
def descOf (t : Tag) : Desc → Bool
  | .pref tile txid _ _ _ _ _ => decide (tileNode tile = ⟨tagSx t, tagSy t⟩ ∧ txid = tagTxid t)
  | .codec o => decide (tileNode o.tile = ⟨tagSx t, tagSy t⟩ ∧ o.txid = tagTxid t)



/-! ## Link flits -/

/-- A port that is up hears 128 bytes as a flit of a type, with a good CRC and the LSEQ it expects (R309). -/
def Dev.hears (d : Dev) (p ty : Nat) (bs : List Byte) (f : LFlit) : Bool :=
  (d.port p).up && decide (flitOf bs = some f) && decide (f.ty = ty) && decide (f.lseq = (d.port p).rxSeq)

/-- The core once such a flit's ACK and credits are taken, its LSEQ counted where it has one (R309). -/
def Dev.heard (d : Dev) (p : Nat) (f : LFlit) : Dev := d.setPort p ((d.port p).accept d.nowNs f)

/-- The bytes of a flit whose header comes apart from the rest (Table 13-3). -/
def headed (hd : BitVec 64) (bs : List Byte) : List Byte := leBytes 8 hd.toNat ++ bs

/-- The commands that a flit of a port can be, with their types (Table 13-3) and bytes. -/
def flitRows (p : Fin 4) (hd : BitVec 64) (bs : List Byte) (ev : SramEv) : List (Instr × Nat × List Byte) :=
  [(.idleFlit p hd bs, 0, headed hd bs), (.dataFlit p bs ev, 1, bs), (.tickFlit p hd bs, 2, headed hd bs),
   (.noticeFlit p hd bs, 3, headed hd bs), (.nakFlit p bs ev, 4, bs)]

/-- The source end of a channel, as its key. -/
def srcKey (kind cls peer : Nat) : Nat := chanKey kind 0 cls (if kind = 0 then peer else 0)

/-- A packet for this chip's endpoint is taken at once: its fields are assigned (Table 13-4), the chip is no relay (R325), and none of its source,
class, kind of channel and KIND waits before it. -/
def Dev.direct (d : Dev) (k : Pkt) : Bool :=
  d.forMe k && k.known && !d.relay && !d.lk.inbox.any (fun e => k.same e.pkt)

/-- A packet waits at this chip's endpoint, first of its source, class, kind of channel and KIND, as `e`. -/
def Dev.waitsIn (d : Dev) (k : Pkt) (e : InPkt) : Bool :=
  d.forMe k && k.known && !d.relay && decide (e.pkt = k) && decide (d.lk.inbox.find? (fun e => k.same e.pkt) = some e)

/-- The core once it is out of the inbox, and once the places that it held are free again (R308). -/
def Dev.taken (d : Dev) (e : InPkt) : Dev := { d with lk := { d.lk with inbox := d.lk.inbox.erase e } }
def Dev.freed (d : Dev) (e : InPkt) : Dev := (d.giveBack e.port e.vc e.free).tellAll

/-- Port `n` holds a frame of a command that it may execute (R457, R464). -/
def State.svcReady (s : State) (n cmd : Nat) (fr : SvcFrame) : Bool :=
  decide ((s.sp.port n).exec = some fr) && decide (fr.cmd = cmd) && !fr.begun && (s.sp.port n).on s.dev

/-- The thermal unit as a power-on reset leaves it at a time: a part without PREF starts on the bandgap with PREF_FAULT set (R379). -/
def freshTh (env : BootEnv) (ns : Nat) : ThSt :=
  { ThSt.reset with fault := env.noPref, lastNs := ns, fallNs := ns, winNs := ns }

end Machine

end Sys2Proof
end

