-- ==== Sys2Proof/Safety/ClausesFabric.lean ====
section
/-! DEFINITION. Clauses of the statements about the flits of Canopy, and the events of the prefetcher and of the codec.
Each clause is named under Claims; Sys2Proof/Certificates/Slice0/Obligations.lean joins them into the statements. Where a clause says `= .next t` for a
whole state t, everything that t does not change is unchanged: the clause is its own frame. -/

section Clauses

open Sys2Proof Sys2Proof.Machine

/-! ## Canopy flits (R168 to R186) -/

/-- WR: a whole line of a write at a tile is written there, of an east node's transfer the bytes that its line holds; a multicast line sets its
arrival bit (R130), a line of the tile's own multicast is counted (R80); with LAST the counter is incremented and the WACK returns (R172). -/
def Claims.WriteFlitLandsAtATile : Prop :=
  ∀ (f : FlitEv) (s : State), s.live = true → s.dev.accepts tyWR f = true → s.dev.wholesome f = true → isTile f.x f.y = true →
    tagAddr f.tag < 8192 →
    exec (.wrFlit f) s = .next (s.onDev fun d =>
      let t := tileAt f.x f.y
      let e := d.copyOf f
      let d1 := d.landed f
      let d2 := (d1.setSpad t (tagAddr f.tag * 64) ((lineBytes f.pay).take (d1.lineLen e))).ownLine t e
      ((if tagMc f.tag ≠ 0 then d2.updTile t (fun ts => { ts with arrived := tabSet falseB ts.arrived (tagAddr f.tag) true }) else d2).writeEnds
        f).settle t)

/-- WR: a whole line of a write at a west node of its channel goes to the channel's write queue (R172, R214, R250). -/
def Claims.WriteFlitLandsInDram : Prop :=
  ∀ (f : FlitEv) (s : State), s.live = true → s.dev.accepts tyWR f = true → s.dev.wholesome f = true → f.x.val = 0 → f.y.val ≠ 9 →
    f.y.val ≠ 0 → (s.dev.landed f).westRefusal (s.dev.copyOf f) 1 = none →
    exec (.wrFlit f) s = .next (s.onDev fun d =>
      let e := d.copyOf f
      let d1 := d.landed f
      (d1.writeDram (tagAddr f.tag * 64) (d1.westPort e true) ((lineBytes f.pay).take (d1.lineLen e)) f.dram (tagLast f.tag)).writeEnds f)

/-- A poisoned LAST line is not written at a tile; the WACK refuses the transfer with FABRIC_PARITY's code (R184). -/
def Claims.PoisonedWriteIsRefused : Prop :=
  ∀ (f : FlitEv) (s : State), s.live = true → s.dev.accepts tyWR f = true → tagPoison f.tag = true → tagLast f.tag = true →
    (s.dev.landed f).fab.tainted.contains (taintOf (s.dev.copyOf f)) = false → isTile f.x f.y = true →
    exec (.wrFlit f) s = .next (s.onDev fun d => ((d.landed f).wack f.dst f.tag true 0x2003).settle (tileAt f.x f.y))

/-- WRZ: the marker of a zero-length transfer writes nothing; its counter is incremented and its WACK returns (R180). -/
def Claims.ZeroWriteSignals : Prop :=
  ∀ (f : FlitEv) (s : State), s.live = true → s.dev.accepts tyWRZ f = true → s.dev.wholesome f = true → isTile f.x f.y = true →
    exec (.wrz f) s = .next (s.onDev fun d => ((d.landed f).writeEnds f).settle (tileAt f.x f.y))

/-- RD at a tile: its responder returns every line asked for, in order, the last with LAST (R172, R174). -/
def Claims.ReadFlitReturnsLines : Prop :=
  ∀ (f : FlitEv) (s : State), s.live = true → s.dev.accepts tyRD f = true → tagPoison f.tag = false → isTile f.x f.y = true →
    f.dram.array = .clean →
    exec (.rdFlit f) s = .next (s.onDev fun d =>
      (List.range (rdCount f.pay)).foldl (fun d i =>
        d.send (mkTag f.dst f.src tyRDATA (tagTenant f.tag) (decide (i + 1 = rdCount f.pay)) (tagTxid f.tag) false 0 (rdReturn f.pay + i))
          (bytesLine (d.spadBytes (tileAt f.x f.y) ((tagAddr f.tag + i) % 8192 * 64) 64))) (d.landed f))

/-- RD at a west node: each unit of DRAM that is read whole returns; one that is withheld returns poisoned (R172, R257, R258). -/
def Claims.ReadFlitReadsDram : Prop :=
  ∀ (f : FlitEv) (s : State), s.live = true → s.dev.accepts tyRD f = true → tagPoison f.tag = false →
    f.x.val = 0 → f.y.val ≠ 9 → f.y.val ≠ 0 → (s.dev.landed f).westRefusal (s.dev.copyOf f) (rdCount f.pay) = none →
    exec (.rdFlit f) s = .next (s.onDev fun d =>
      let port := (d.landed f).westPort (d.copyOf f) false
      (List.range (rdCount f.pay)).foldl (fun d i =>
        let a := (tagAddr f.tag + i) * 64
        let tag := mkTag f.dst f.src tyRDATA (tagTenant f.tag) (decide (i + 1 = rdCount f.pay)) (tagTxid f.tag) false 0 (rdReturn f.pay + i)
        match d.readUnit a port (d.askedBy f.tag) (f.dram.at_ i) with
        | (some code, d) => d.injectBad tag code
        | (none, d) => d.send tag (bytesLine (d.dramBytes a 64))) ((d.landed f).qosRequest (f.y.val - 1) port f.dram.late))

/-- CMD: a descriptor reaches its row's east node, and the prefetcher or the codec takes it (R131, R225). -/
def Claims.DescriptorIsTaken : Prop :=
  ∀ (f : FlitEv) (s : State) (x : Desc), s.live = true → s.dev.accepts tyCMD f = true → tagPoison f.tag = false → f.x.val = 9 →
    (s.dev.landed f).plan.descs.find? (descOf f.tag) = some x →
    exec (.cmd f) s = .next (s.onDev fun d =>
      let d1 := d.landed f
      let d2 : Dev := { d1 with plan := { d1.plan with descs := d1.plan.descs.erase x } }
      match x with
      | .pref tile txid inst tenant planAddr first count => d2.acceptPref tile txid inst tenant planAddr first count f.dram f.looks
      | .codec o => d2.acceptCodec o)

/-- RDATA: a whole line of a read is written where its request named; the LAST frees the TXID (R172). -/
def Claims.ReadDataLands : Prop :=
  ∀ (f : FlitEv) (s : State) (x : Txn), s.live = true → s.dev.arrives tyRDATA f = true → tagPoison f.tag = false →
    isTile f.x f.y = true → tagAddr f.tag < 8192 → (s.dev.landed f).txn (tileAt f.x f.y) (tagTxid f.tag) = some x →
    exec (.rdata f) s = .next (s.onDev fun d =>
      let t := tileAt f.x f.y
      let d1 := (d.landed f).setSpad t (tagAddr f.tag * 64) (lineBytes f.pay)
      (if tagLast f.tag then d1.endTxn t x else d1).settle t)

/-- A poisoned line of a read is not written, and the instance that asked for it halts (R184). -/
def Claims.PoisonedReadDataHalts : Prop :=
  ∀ (f : FlitEv) (s : State) (x : Txn), s.live = true → s.dev.arrives tyRDATA f = true → tagPoison f.tag = true →
    (s.dev.copyOf f).why = 0 → isTile f.x f.y = true → (s.dev.landed f).txn (tileAt f.x f.y) (tagTxid f.tag) = some x →
    exec (.rdata f) s = .next (s.onDev fun d =>
      let t := tileAt f.x f.y
      let d1 := (d.landed f).txnFail t x 0x2003 false
      (if tagLast f.tag then d1.endTxn t x else d1).settle t)

/-- WACK: the last acknowledgement of a transfer frees its TXID, an earlier one is counted; one that refuses, or is poisoned, fails the request of
its source (R172, R184). -/
def Claims.WriteAckEndsTheTransfer : Prop :=
  ∀ (f : FlitEv) (s : State) (x : Txn), s.live = true → s.dev.arrives tyWACK f = true → isTile f.x f.y = true → f.src ≠ nTick →
    (s.dev.landed f).txn (tileAt f.x f.y) (tagTxid f.tag) = some x →
    (let code : Option Nat := if tagPoison f.tag then some 0x2003 else if bit f.pay 0 then some (fld f.pay 16 16) else none
     exec (.wack f) s = .next (s.onDev fun d =>
       let t := tileAt f.x f.y
       let y := { x with left := x.left - 1 }
       let d1 := (d.landed f).updTile t (fun ts => { ts with txns := ts.txns.map (fun z => if z.id = x.id then y else z) })
       let d2 := match code with | some c => d1.txnFail t x c false | none => d1
       (if x.left - 1 = 0 then d2.endTxn t y else d2).settle t))

/-- WACK at an east node: the transfer of the prefetcher or the codec that it answers goes on or fails (R172, R228, R296). -/
def Claims.WriteAckReachesTheEastNode : Prop :=
  ∀ (f : FlitEv) (s : State), s.live = true → s.dev.arrives tyWACK f = true → f.x.val = 9 → f.src ≠ nTick → tagPoison f.tag = false →
    exec (.wack f) s = .next (s.onDev fun d =>
      (d.landed f).eastEnd (f.y.val - 1) (tagTxid f.tag) (if bit f.pay 0 then some (fld f.pay 16 16) else none))

/-- ERR: the instance that issued the request halts with the code, and the request is over (R183). -/
def Claims.ErrorFlitHalts : Prop :=
  ∀ (f : FlitEv) (s : State) (x : Txn), s.live = true → s.dev.arrives tyERR f = true → tagPoison f.tag = false →
    isTile f.x f.y = true → tagTy (BitVec.ofNat 96 (fld f.pay 32 96)) ≠ tyBARR →
    (s.dev.landed f).txn (tileAt f.x f.y) (tagTxid f.tag) = some x →
    exec (.errFlit f) s = .next (s.onDev fun d =>
      let t := tileAt f.x f.y
      let c := fld f.pay 16 16
      (((d.landed f).txnFail t x c (decide (c = 0x2002))).endTxn t { x with op := none }).settle t)

/-- ERR for a barrier arrival that a router has refused halts the instance that its tile runs (R183, R205). -/
def Claims.ErrorFlitHaltsAnArrival : Prop :=
  ∀ (f : FlitEv) (s : State), s.live = true → s.dev.arrives tyERR f = true → tagPoison f.tag = false →
    isTile f.x f.y = true → tagTy (BitVec.ofNat 96 (fld f.pay 32 96)) = tyBARR →
    exec (.errFlit f) s = .next (s.onDev fun d =>
      (d.landed f).haltSender (tileAt f.x f.y) (fld f.pay 16 16) (decide (fld f.pay 16 16 = 0x2002)))

/-- CADD: the counter rises by the operand, modulo 2^32, and a WACK returns (R135, R195); waits see its value at the end of the cycle, after the last
update of that cycle (R202). -/
def Claims.CounterAddApplies : Prop :=
  ∀ (f : FlitEv) (s : State), s.live = true → s.dev.accepts tyCADD f = true → tagPoison f.tag = false → isTile f.x f.y = true →
    f.dram.array = .clean →
    exec (.cadd f) s = .next (s.onDev fun d =>
      let t := tileAt f.x f.y
      let i := tagAddr f.tag % 2048
      let v := w32 (fld f.pay 0 32)
      (if f.same then (d.landed f).addCtr t i v else (d.landed f).bump t i v).wack f.dst f.tag false 0)

/-- CSET: the counter takes the operand, and a WACK returns (R135, R195, R202). -/
def Claims.CounterSetApplies : Prop :=
  ∀ (f : FlitEv) (s : State), s.live = true → s.dev.accepts tyCSET f = true → tagPoison f.tag = false → isTile f.x f.y = true →
    exec (.cset f) s = .next (s.onDev fun d =>
      let t := tileAt f.x f.y
      let i := tagAddr f.tag % 2048
      let v := w32 (fld f.pay 0 32)
      (if f.same then (d.landed f).setCtr t i v else (d.landed f).assign t i v).wack f.dst f.tag false 0)

/-- A poisoned counter update is not applied; its WACK refuses it (R184). -/
def Claims.PoisonedCounterUpdateIsRefused : Prop :=
  ∀ (f : FlitEv) (s : State), s.live = true → tagPoison f.tag = true → isTile f.x f.y = true →
    (s.dev.accepts tyCADD f = true →
      exec (.cadd f) s = .next (s.onDev fun d => (d.landed f).wack f.dst f.tag true 0x2003)) ∧
    (s.dev.accepts tyCSET f = true →
      exec (.cset f) s = .next (s.onDev fun d => (d.landed f).wack f.dst f.tag true 0x2003))

/-- BARR: the arrival of a tile, or of a chip, reaches the tick unit (R205, R206); a poisoned one is refused (R184). -/
def Claims.ArrivalReachesTheTickUnit : Prop :=
  ∀ (f : FlitEv) (s : State), s.live = true → s.dev.accepts tyBARR f = true → f.dst = nTick →
    exec (.barr f) s = .next (s.onDev fun d =>
      let a := tagAddr f.tag
      if tagPoison f.tag then (d.landed f).wack f.dst f.tag true 0x2003
      else if a.testBit 6 then (d.landed f).chipArrive (tagTenant f.tag) (a % 64) (fld f.pay 0 16) (fld f.pay 16 8 % 16)
      else (d.landed f).barArrive (tagTenant f.tag) (a % 64) (fld f.pay 0 16) (fld f.pay 16 8 % 64))

/-- BREL: a release reaches the eight tiles of a row (R206, R209). -/
def Claims.ReleaseReachesTheRow : Prop :=
  ∀ (f : FlitEv) (s : State), s.live = true → s.dev.accepts tyBREL f = true → tagPoison f.tag = false → f.x.val = 0 → f.y.val ≠ 0 →
    exec (.brel f) s = .next (s.onDev fun d =>
      (List.range 8).foldl (fun d i => d.settle ((f.y.val - 1) * 8 + i))
        ((d.landed f).barSeen (tagTenant f.tag) (tagAddr f.tag % 64) (fld f.pay 0 16) (f.y.val - 1) (bit f.pay 16)))

/-- REQ_AFTER_GRANT: an output at which a REQ flit has waited REQ_AFTER + 1 cycles grants it next (R175). -/
def Claims.WaitingRequestIsGranted : Prop :=
  ∀ (x : Fin 10) (y : Fin 9) (port : Fin 5) (waited : Nat) (s : State), s.live = true → nodeExists x y = true →
    (x.val, y.val, port.val) ∉ s.dev.fab.reqNext → fld (s.dev.reg Reg.CN_CTRL) 0 4 + 1 ≤ waited →
    exec (.reqAfterGrant x y port waited) s = .next (s.onDev fun d =>
      { d with fab := { d.fab with reqNext := d.fab.reqNext ++ [(x.val, y.val, port.val)] } })

/-- CN_PERF_SEL_WRITE: the selection is stored, and a change of it restarts the count (Table 7-11). -/
def Claims.PerfSelectRestartsTheCount : Prop :=
  ∀ (v : Word) (s : State), s.live = true → v &&& 0x77FF = v → v ≠ s.dev.reg Reg.CN_PERF_SEL →
    exec (.cnPerfSelWrite v) s = .next (s.onDev fun d => (d.setReg Reg.CN_PERF_SEL v).setReg Reg.CN_PERF_CNT 0)

/-- SYNC_COUNTER_WINDOW_WRITE: a write of the physical function in the window sets the counter, by a flit over the Trail (R10, R178, R198). -/
def Claims.CounterWindowSets : Prop :=
  ∀ (t : Fin 64) (i : Fin 2048) (v : Word) (s : State), s.hostReady = true → s.dev.booting = false →
    exec (.syncCounterWindowWrite 0 t i v) s = .next (s.onDev fun d => (d.hostTrip t tyCSET true).assign t i v)

/-- A virtual function whose stand does not hold the tile has its window write dropped and logged (R397). -/
def Claims.ForeignCounterWindowIsRefused : Prop :=
  ∀ (fn : Fin 9) (t : Fin 64) (i : Fin 2048) (v : Word) (s : State), s.hostReady = true → fn ≠ 0 →
    s.dev.tileTenant t ≠ fn.val - 1 →
    exec (.syncCounterWindowWrite fn t i v) s = .next (s.onDev Dev.badAccess)

/-! ## The prefetcher and the codec (R217 to R234, R286 to R302) -/

/-- UNIT_READ: the row's oldest step issues the read of its next stripe unit, while the read area has room and the region names a page
(R219, R226). -/
def Claims.UnitReadIsIssued : Prop :=
  ∀ (row : Fin 8) (s : State) (p : PStep) (off pg : Nat), s.live = true → s.dev.rowStep row = some p → p.src ≠ 1 →
    s.dev.readUsed row + 16384 ≤ s.dev.readArea → p.nextFor row (p.nextOff.getD row 0) = some off → s.dev.flash.ready = true →
    s.dev.unitPage (p.unitCh off) 0 (p.ubase + (p.first + off) / (2 * p.nrows)) = some pg →
    exec (.unitRead row) s = .next (s.onDev fun d =>
      let d1 := d.updStep p.id (fun p => { p with nextOff := setAt p.nextOff row (off + 1) })
      { d1 with plan := { d1.plan with units := d1.plan.units ++
          [{ step := p.id, unit := off, row := row, ch := p.unitCh off, page := pg, landed := false, data := [], pos := 0, num := 0, out := 0,
             scanned := false, held := false, left := 0, bad := false, outs := [], writing := false }] } })

/-- PAGE_READ of a stripe unit, the first of its channel whose LUN no host command holds (R281): its whole page enters the Glade (R226, R270); a page
that stays uncorrectable fails the unit (R272). -/
def Claims.PageReadLandsTheUnit : Prop :=
  ∀ (ch : Fin 16) (ev : PageEv) (s : State) (u : UnitSt) (r : Option (List Byte)) (d' : Dev), s.live = true →
    s.dev.plan.units.find? (fun u => !u.landed && decide (u.ch = ch.val) && !(s.dev.lunHeld (s.dev.lunOf u.page))) = some u →
    s.dev.readPage u.page false ev = (r, d') →
    exec (.pageRead ch false ev) s = .next (s.onDev fun _ => match r with
      | some bs => ((d'.updUnit u.step u.unit (fun u => { u with landed := true, data := bs })).scanned u.step u.unit u.row).cmdNext.settleCodec
      | none => (d'.unitFail u.step u.unit u.row 0x4007 (some (d'.regN (Reg.FL_CH_UE_ADDR ch)))).cmdNext.settleCodec)

/-- PAGE_READ of the host's command once its LUN has begun it: the data goes to the buffer in DRAM and the command is done (R278). -/
def Claims.PageReadFillsTheBuffer : Prop :=
  ∀ (ch : Fin 16) (ev : PageEv) (s : State) (c : FlCmd) (bs : List Byte) (d' : Dev), s.live = true → s.dev.flash.cmd = some c →
    pgCh c.addr = ch.val → c.op = 1 → c.begun = true → s.dev.pstate < 3 → s.dev.readPage c.addr (c.slc || inBoot c.addr) ev = (some bs, d') →
    exec (.pageRead ch true ev) s = .next (s.onDev fun _ =>
      let d1 := d'.writeDram c.buf 0 bs .ok
      { d1.setReg Reg.FL_CMD_STAT 2 with flash := { d1.flash with cmd := none } })

/-- BLOCK_LANDED: the next block of the row's oldest unit is taken from its page in the Glade and judged (R220, R225, R294). -/
def Claims.BlockOfAUnitIsJudged : Prop :=
  ∀ (row : Fin 8) (ev : BlkEv) (s : State) (u : UnitSt) (p : PStep), s.live = true →
    s.dev.plan.units.find? (fun u => decide (u.row = row.val) && !(u.data.isEmpty && u.landed) && !u.scanned) = some u →
    u.landed = true → u.held = false → s.dev.step? u.step = some p →
    (let raw := flipBytes (u.data.drop u.pos) ev.flip
     let n := if mbfValid raw then (mbfHdr raw).extent else 64
     u.pos + n ≤ 16384 →
     exec (.blockLanded row .unit ev) s = .next (s.onDev fun d =>
       ((d.updUnit u.step u.unit (fun u => { u with left := u.left + 1 })).judge
         { owner := .step u.step u.unit, num := u.num, row := row, tenant := p.tenant, page := some u.page, addr := u.pos, out := u.out,
           bytes := raw.take n, phase := .checked, table := [], seq := 0, res := none } ev).settleCodec))

/-- BLOCK_LANDED of a SRC 1 step: the next block of its chain is read from the row's channel once the read area has room, and judged (R225 to
R227). -/
def Claims.BlockOfAStepIsJudged : Prop :=
  ∀ (row : Fin 8) (ev : BlkEv) (s : State) (u : UnitSt) (p : PStep) (bs : List Byte) (d' : Dev), s.live = true →
    s.dev.plan.units.find? (fun u => u.landed && u.data.isEmpty && !u.scanned && !u.held && s.dev.stepTurn u.step row
      && (if s.dev.codecCheck (s.dev.rowTenant row) u.pos 64 = none then decide ((s.dev.dramPlace u.pos).1 = row.val)
          else decide (u.row = row.val))) = some u →
    s.dev.step? u.step = some p → s.dev.readUsed row + up64 (s.dev.extentAt u.pos) ≤ s.dev.readArea →
    (s.dev.updUnit u.step 0 (fun u => { u with left := u.left + 1 })).readBlk p.tenant u.pos none 1 true ev.dram = ((none, bs), d') →
    exec (.blockLanded row .step ev) s = .next (s.onDev fun _ =>
      (d'.judge { owner := .step u.step 0, num := u.num, row := row, tenant := p.tenant, page := none, addr := u.pos, out := u.out,
                  bytes := flipBytes bs ev.flip, phase := .checked, table := [], seq := 0, res := none } ev).settleCodec)

/-- BLOCK_LANDED of a DM.CODEC that decodes: its next block is read from DRAM and judged (R131, R294). -/
def Claims.BlockOfACodecIsJudged : Prop :=
  ∀ (row : Fin 8) (ev : BlkEv) (s : State) (o : CodecOp) (bs : List Byte) (d' : Dev), s.live = true →
    s.dev.plan.ops.find? (fun o => !o.enc && !o.failed && !o.held && decide (o.num < o.count) && decide (s.dev.opRow o = row.val)) = some o →
    (s.dev.updOp o.id (fun o => { o with open_ := o.open_ + 1 })).readBlk o.tenant o.at_ o.inst 2 false ev.dram = ((none, bs), d') →
    exec (.blockLanded row .codec ev) s = .next (s.onDev fun _ =>
      (d'.judge { owner := .codec o.id, num := o.num, row := row, tenant := o.tenant, page := none, addr := o.at_, out := o.nextO,
                  bytes := flipBytes bs ev.flip, phase := .checked, table := [], seq := 0, res := none } ev).settleCodec)

/-- BLOCK_REREAD: a block whose page is read again without error and which then passes its check goes on; the second read is counted, shown in
CD_STAT and logged (R295). -/
def Claims.SecondReadRepairs : Prop :=
  ∀ (row : Fin 8) (ev : BlkEv) (s : State) (b : Blk) (pg id off : Nat) (data : List Byte) (d' : Dev), s.live = true →
    s.dev.plan.blks.find? (fun b => decide (b.row = row.val) && decide (b.phase = .reread)) = some b → b.page = some pg →
    b.owner = .step id off → s.dev.readPage pg false ev.page = (some data, d') → ev.glade = .clean →
    (let raw := flipBytes (data.drop b.addr) ev.flip
     let n := if mbfValid raw then (mbfHdr raw).extent else 64
     b.addr + n ≤ 16384 → mbfOk (raw.take n) = true →
     exec (.blockReread row ev) s = .next (s.onDev fun _ =>
       let b' := { b with bytes := raw.take n }
       let d1 : Dev := { d' with plan := { d'.plan with blks := d'.plan.blks.erase b ++ [b'] } }
       ((((d1.incReg Reg.CD_REREAD_CNT 1).orReg Reg.CD_STAT 1).logT 0x5001 (nodeOf 9 (b.row + 1)) b.tenant).blkPass b' ev.parity).settleCodec))

/-- BLOCK_DECODED: the decoded bytes of a step's block, the first in its row's order, leave for the scratchpad of DTILE (R227, R228, R298); those of
DST 2 are kept for the unit's DRAM writes. -/
def Claims.DecodedBlockIsPlaced : Prop :=
  ∀ (row : Fin 8) (s : State) (b : Blk) (p : PStep) (id off : Nat) (bs : List Byte), s.live = true →
    (s.dev.rowBlks row).head? = some b → s.dev.mayDecode b = true → (s.dev.rowEnc row).any (fun o => decide (o.seq < b.seq)) = false →
    mbfDecode b.table b.bytes = some bs → b.owner = .step id off → s.dev.step? id = some p →
    (let a := p.dest + off * p.ostride * 64 + b.out
     p.dst = 2 ∨ a + bs.length ≤ 524288 →
     exec (.blockDecoded row) s = .next (s.onDev fun d =>
       let d1 := d.incReg (Reg.CD_DEC_BLOCKS row) 1
       (if p.dst = 2 then ((d1.dropBlk b).updUnit id off (fun u => { u with outs := u.outs ++ [(b.out, bs)] })).settleBlk id off b.num b.row true
        else d1.sendBlk b p.dtile a bs).settleCodec))

/-- BLOCK_DECODED: the decoded bytes of a DM.CODEC's block leave for the scratchpad of its destination (R131). -/
def Claims.DecodedCodecBlockIsPlaced : Prop :=
  ∀ (row : Fin 8) (s : State) (b : Blk) (o : CodecOp) (id : Nat) (bs : List Byte), s.live = true →
    (s.dev.rowBlks row).head? = some b → s.dev.mayDecode b = true → (s.dev.rowEnc row).any (fun o => decide (o.seq < b.seq)) = false →
    mbfDecode b.table b.bytes = some bs → b.owner = .codec id → s.dev.op? id = some o → b.out + bs.length ≤ 524288 →
    exec (.blockDecoded row) s = .next (s.onDev fun d =>
      ((d.incReg (Reg.CD_DEC_BLOCKS row) 1).sendBlk b o.dtile b.out bs).settleCodec)

/-- TABLE_FETCH: a table that its tenant has and whose bytes never decrease, from DRAM or, where another fetch has brought it, from the cache, goes to
the block that waits for it (R289, R291). -/
def Claims.TableFetchGivesTheTable : Prop :=
  ∀ (row : Fin 8) (dr : DramEv) (s : State) (b : Blk) (id off : Nat) (t : List Byte) (d' : Dev), s.live = true →
    s.dev.plan.blks.find? (fun b => decide (b.row = row.val) && decide (b.phase = .needTable)) = some b → b.owner = .step id off →
    (let i := (mbfHdr b.bytes).table
     (s.dev.cached row b.tenant i = none ∧ s.dev.fetchTable row b.tenant i none dr = ((none, t), d')) ∨
     (s.dev.cached row b.tenant i = some t ∧ s.dev.tableOk row b.tenant i = true ∧ d' = s.dev)) →
    exec (.tableFetch row dr) s = .next (s.onDev fun _ =>
      ({ d' with plan := { d'.plan with
          blks := d'.plan.blks.map (fun x => if x = b then { b with phase := .checked, table := t } else x) } } : Dev).settleCodec)

/-- BLOCK_ENCODE: the next block of a DM.CODEC is encoded under the profile's transform with the cheapest candidate table and leaves for the row's
channel (R131, R222, R298 to R301), once no checked block comes before it and the codec area has room. -/
def Claims.EncodedBlockIsWritten : Prop :=
  ∀ (row : Fin 8) (drs : List DramEv) (s : State) (o : CodecOp) (ts : List (Nat × List Byte)) (d' : Dev), s.live = true →
    s.dev.rowEnc row = some o → (s.dev.rowBlks row).any (fun b => decide (b.seq < o.seq)) = false →
    s.dev.codecUsed row + (2 * (o.data.take 16384).length + 64) ≤ s.dev.codecArea →
    s.dev.candidates row o.tenant o.inst drs ((List.range (min (fld o.prof 2 3) 4)).map (fun j => fld o.cand (8 * j) 8)) = ((none, ts), d') →
    (let x := fld o.prof 0 2
     let part := o.data.take 16384
     let blk := mbfEncode x (ransChoose (mbfFwd x part) ts) part
     (o.stride = 0 ∨ blk.length ≤ o.stride * 64) → d'.codecCheck o.tenant o.at_ blk.length = none → oneGranule o.at_ blk.length = true →
     (d'.dramPlace o.at_).1 = row.val →
     exec (.blockEncode row drs) s = .next (s.onDev fun _ =>
       let q := d'.plan.nextSeq
       let d1 : Dev := { d'.incReg (Reg.CD_ENC_BLOCKS row) 1 with plan := { d'.plan with nextSeq := q + 1 } }
       ((d1.updOp o.id (fun x => { x with num := x.num + 1, nextA := up64 (o.at_ + blk.length), data := x.data.drop 16384, seq := q,
                                          sent := x.sent + 1 })).eastSend
         { row := row, tenant := o.tenant, dx := 0, dy := row + 1, parts := [(o.at_, blk)],
           work := .enc o.id o.num (2 * part.length + 64) }).settleCodec))

/-- CD_TBL_COMMIT: the tenants named wait for the next edge, which invalidates their cached tables (R292). -/
def Claims.TableCommitIsPending : Prop :=
  ∀ (v : Word) (s : State), s.live = true →
    exec (.cdTblCommit v) s = .next (s.onDev fun d => { d with plan := { d.plan with tblPend := d.plan.tblPend ||| fld v 0 8 } })

end Clauses
end

