-- ==== Sys2Proof/Safety/ClausesLink.lean ====
section
/-! DEFINITION. Clauses of the statements about the Hertia links: ports, packets and channels.
Each clause is named under Claims; Sys2Proof/Certificates/Slice0/Obligations.lean joins them into the statements. Where a clause says `= .next t` for a
whole state t, everything that t does not change is unchanged: the clause is its own frame. -/

section Clauses

open Sys2Proof Sys2Proof.Machine

/-! ## Hertia links (R303 to R333) -/

/-- PORT_TRAINING: a training that succeeds brings the port up with its peer and a full set of credits (R305, R307). -/
def Claims.TrainedPortIsUp : Prop :=
  ∀ (p : Fin 4) (c : BitVec 4) (r : Bool) (pp : BitVec 2) (rtts : Nat) (s : State), s.live = true → s.dev.training p = true →
    exec (.portTraining p (.up c r pp rtts)) s = .next (s.onDev fun d => d.setPort p { LPort.reset with
      up := true, peer := c.toNat, relay := r, peerPort := pp.toNat, lat := rtts / 128, credits := [64, 64, 64, 64, 64, 64],
      goodNs := d.nowNs, sent := (d.port p).sent })

/-- PORT_TRAINING: a failure is counted for its step; the third of one step is logged, and the port stops training (R305, Table 13-2). -/
def Claims.ThirdFailureStopsTraining : Prop :=
  ∀ (p : Fin 4) (step : Fin 5) (s : State), s.live = true → s.dev.training p = true →
    (let n := (s.dev.port p).fails.getD step 0 + 1
     let fails := setAt (s.dev.port p).fails step n
     (n < 3 → exec (.portTraining p (.fails step)) s = .next (s.onDev fun d => d.setPort p { d.port p with fails := fails })) ∧
     (3 ≤ n → exec (.portTraining p (.fails step)) s = .next (s.onDev fun d =>
       ((d.setPort p { d.port p with fails := fails, trainNs := d.nowNs }).orReg Reg.HT_STAT 4).logC 0x6001 (nodeOf (portNode p).x 0))))

/-- LINK_TRAIN_RETRY: 100 ms after that the port trains again (R305). -/
def Claims.TrainingIsRetried : Prop :=
  ∀ (p : Fin 4) (s : State), s.live = true → s.dev.linkOk = true → bit (s.dev.reg (Reg.HT_PORT_CFG p)) 0 = true →
    (s.dev.port p).up = false → (s.dev.port p).trainWait = true → (s.dev.port p).trainNs + 100000000 ≤ s.dev.nowNs →
    exec (.linkTrainRetry p) s = .next (s.onDev fun d => d.setPort p { d.port p with fails := LPort.reset.fails, trainNs := d.nowNs })

/-- PORT_DOWN: 200 ns without a good flit take a port down; its peer is lost and every other port sends the NOTICE (R310, R327, R328). -/
def Claims.SilentPortGoesDown : Prop :=
  ∀ (p : Fin 4) (s : State), s.live = true → (s.dev.port p).up = true → (s.dev.port p).goodNs + 200 ≤ s.dev.nowNs →
    exec (.portDown p) s = .next (s.onDev fun d =>
      ((((d.orReg Reg.HT_STAT 1).logC 0x6002 (nodeOf (portNode p).x 0)).losePorts [p.val]).chipLost (d.port p).peer).noticeOut (d.port p).peer 4)

/-- IDLE: its ACK and credits are taken, and the port sends what it now can (R309, R310). -/
def Claims.IdleFlitIsHeard : Prop :=
  ∀ (p : Fin 4) (hd : BitVec 64) (bs : List Byte) (f : LFlit) (s : State), s.live = true → s.dev.hears p 0 (headed hd bs) f = true →
    exec (.idleFlit p hd bs) s = .next (s.onDev fun d => (d.heard p f).pump p)

/-- DATA: its payload is taken (R307, R309). -/
def Claims.DataFlitIsTaken : Prop :=
  ∀ (p : Fin 4) (bs : List Byte) (f : LFlit) (s : State), s.live = true → s.dev.hears p 1 bs f = true → f.vc < 6 →
    exec (.dataFlit p bs .clean) s = .next (s.onDev fun d => ((d.heard p f).takeData p f).pump p)

/-- TICK on the UP port of a chip that is not the master: the edge of a chip that is no relay is due at t − LAT + REMAIN, with the period and
percentage it brings, and the flit is forwarded (R330); a chip that runs free takes it from 0.5 P after its last edge on (R333). -/
def Claims.TickFlitSchedulesTheEdge : Prop :=
  ∀ (p : Fin 4) (hd : BitVec 64) (bs : List Byte) (f : LFlit) (s : State), s.live = true → s.dev.hears p 2 (headed hd bs) f = true →
    (let d1 := s.dev.heard p f
     let cfg := d1.reg Reg.HT_TICK
     let rem := leNat ((f.pay.drop 4).take 3)
     bit cfg 0 = false → bit cfg 1 = true → fld cfg 2 2 = p.val →
     (d1.tick.unsync && decide (d1.nowNs < d1.tick.edgeNs + d1.tick.periodUse * 500)) = false → (d1.port p).lat < rem →
     exec (.tickFlit p hd bs) s = .next (s.onDev fun _ =>
       let due := max (d1.nowNs * 16 + rem - (d1.port p).lat) (d1.nowNs * 16)
       let pol := ((f.pay.drop 7).headD 0).getLsbD 0
       let per := leNat ((f.pay.drop 8).take 2)
       let pct := ((f.pay.drop 10).headD 0).toNat
       let d2 : Dev := if d1.relay then d1 else
         { d1 with lk := { d1.lk with due := some due, polRx := pol, perRx := per, pctRx := pct },
                   tick := { d1.tick with unsync := false, fallback := false } }
       ((d2.fwdTick (leNat (f.pay.take 4)) due pol per pct).wakeBy 2 3 true).pump p))

/-- NOTICE: a chip not yet lost is set in HT_LOST and the NOTICE passed on; one that is lost changes nothing (R328). -/
def Claims.NoticeSpreads : Prop :=
  ∀ (p : Fin 4) (hd : BitVec 64) (bs : List Byte) (f : LFlit) (s : State), s.live = true → s.dev.hears p 3 (headed hd bs) f = true →
    (let c := (f.pay.headD 0).toNat % 16
     exec (.noticeFlit p hd bs) s = .next (s.onDev fun d =>
       (if bit ((d.heard p f).reg Reg.HT_LOST) c then d.heard p f else ((d.heard p f).chipLost c).noticeOut c p).pump p))

/-- NAK: the sender replays every flit that is not acknowledged, if any (R309). -/
def Claims.NakCausesReplay : Prop :=
  ∀ (p : Fin 4) (bs : List Byte) (f : LFlit) (s : State), s.live = true → s.dev.hears p 4 bs f = true →
    exec (.nakFlit p bs .clean) s = .next (s.onDev fun d =>
      (if ((d.heard p f).port p).replay.isEmpty then d.heard p f else (d.heard p f).replay p).pump p)

/-- Bytes whose CRC is bad are discarded and draw one NAK, and so does a flit out of its sequence (R309), whatever its row. -/
def Claims.BadFlitDrawsANak : Prop :=
  ∀ (p : Fin 4) (hd : BitVec 64) (bs : List Byte) (ev : SramEv) (s : State), s.live = true → (s.dev.port p).up = true →
    (s.dev.port p).nakOut = false →
    ∀ r ∈ flitRows p hd bs ev,
      (let nak := fun (x : LPort) => portSend { x with nakOut := true } s.dev.nowNs 4 0 0 0 (List.replicate 116 0)
       (flitOf r.2.2 = none → exec r.1 s = .next (s.onDev fun d => d.setPort p (nak (d.port p)))) ∧
       (∀ f, flitOf r.2.2 = some f → f.ty = r.2.1 → f.lseq ≠ (s.dev.port p).rxSeq → p.val < s.dev.lk.ports.length →
         exec r.1 s = .next (s.onDev fun d =>
           let x := { d.port p with goodNs := d.nowNs }
           (d.setPort p x).setPort p (nak x))))

/-- REPLAY_TIMEOUT: 2 µs without progress replay every flit that is not acknowledged, in order, a TICK with the time that now remains; the 16th replay
gives the port up (R309). -/
def Claims.TimeoutReplays : Prop :=
  ∀ (p : Fin 4) (s : State), s.live = true → (s.dev.port p).up = true → (s.dev.port p).replay ≠ [] → (s.dev.port p).tries < 15 →
    (s.dev.port p).ackNs + 2000 ≤ s.dev.nowNs →
    exec (.replayTimeout ⟨p, .clean⟩) s = .next (s.onDev fun d =>
      let x := d.port p
      let again := x.replay.map (fun f => f.again ((x.rxSeq + 4095) % 4096) d.nowNs)
      (d.incReg (Reg.HT_P_REPLAY p) 1).setPort p { x with
        tries := x.tries + 1, replay := again, sent := x.sent ++ again, ackOut := false, ackNs := d.nowNs })

/-- DATA, NAK and REPLAY_TIMEOUT where the port's buffer fails: a corrected error is logged and the row acts; an uncorrectable one takes the port down
(R485). -/
def Claims.LinkBufferErrorsAct : Prop :=
  ∀ (p : Fin 4) (s : State), s.live = true →
    (∀ (bs : List Byte) (f : LFlit) (ev : SramEv), s.dev.hears p 1 bs f = true → f.vc < 6 →
      exec (.dataFlit p bs ev) s = .next (s.onDev fun d => ((d.heard p f).linkSram p ev (fun d => d.takeData p f)).pump p)) ∧
    (∀ (bs : List Byte) (f : LFlit) (ev : SramEv), s.dev.hears p 4 bs f = true → ((s.dev.heard p f).port p).replay ≠ [] →
      exec (.nakFlit p bs ev) s = .next (s.onDev fun d => ((d.heard p f).linkSram p ev (fun d => d.replay p)).pump p)) ∧
    (∀ ev : SramEv, (s.dev.port p).up = true → (s.dev.port p).replay ≠ [] → (s.dev.port p).ackNs + 2000 ≤ s.dev.nowNs →
      exec (.replayTimeout ⟨p, ev⟩) s = .next (s.onDev fun d => d.linkSram p ev (fun d => d.replay p)))

/-- A packet for this chip's endpoint takes effect: at once where none like it waits, or from the inbox, whose places are then free (R308, R313). -/
def Claims.Taken (c : Instr) (k : Pkt) (s : State) (act : Dev → Dev) : Prop :=
  (s.dev.direct k = true → exec c s = .next (s.onDev act)) ∧
  (∀ e, s.dev.waitsIn k e = true → exec c s = .next (s.onDev fun d => (act (d.taken e)).freed e))

/-- LINES: the next packet of an open channel's epoch is delivered: its flits are put on Canopy, and every 16th is acknowledged (R312 to R314). -/
def Claims.NextLinesAreDelivered : Prop :=
  ∀ (k : Pkt) (s : State), s.live = true → k.kind = 0 →
    (let key := chanKey k.mc 1 k.cls k.schip
     let c := s.dev.chan key
     k.epoch = c.epoch → c.opened = true → c.fenced = false → k.seq = c.seq → s.dev.rtxNeed k ≠ some none →
     Claims.Taken (.linesPkt k) k s fun d =>
       let d1 := (d.setChan key { c with seq := (c.seq + 1) % 65536, since := c.since + 1,
                                         oldest := if c.since = 0 then d.nowNs else c.oldest }).expand k (((d.rtxNeed k).getD none).getD 0)
       if 16 ≤ c.since + 1 then d1.sendEack k.mc k.cls k.schip else d1)

/-- LINES of another epoch are dropped and counted; on a closed or fenced end they are dropped and counted; out of sequence they fence the end
(R313). -/
def Claims.OtherLinesAreDropped : Prop :=
  ∀ (k : Pkt) (s : State), s.live = true → k.kind = 0 →
    (let key := chanKey k.mc 1 k.cls k.schip
     let c := s.dev.chan key
     (k.epoch ≠ c.epoch → Claims.Taken (.linesPkt k) k s fun d => d.incReg Reg.HT_STALE_CNT 1) ∧
     (k.epoch = c.epoch → c.opened = false ∨ c.fenced = true → Claims.Taken (.linesPkt k) k s fun d => d.incReg Reg.HT_DROP_CNT 1) ∧
     (k.epoch = c.epoch → c.opened = true → c.fenced = false → k.seq ≠ c.seq → Claims.Taken (.linesPkt k) k s fun d =>
       ((d.setChan key { c with fenced := true }).orReg Reg.HT_STAT 0x20).logS 0x6004
         { atNode (nodeOf 2 0) with tenant := some (d.rowTenant 0) }))

/-- EACK: every packet up to its SEQ is retired once each member that owes it has acknowledged it, and what waited for room is sent (R313, R314). -/
def Claims.EackRetires : Prop :=
  ∀ (k : Pkt) (s : State), s.live = true → k.kind = 1 →
    (let c := s.dev.chan (srcKey k.mc k.cls k.schip)
     (∃ u ∈ c.unack, u.seq = k.seq) → Claims.Taken (.eack k) k s fun d =>
       (d.setChan (srcKey k.mc k.cls k.schip) { c with unack := (eackUpTo c.unack k.seq k.schip).filter (fun u => !u.owed.isEmpty) }).chanDrain
         k.mc k.cls k.schip c.wait.length)

/-- EACK_DUE: 1 µs after the oldest delivered packet an open end sends its EACK (R314). -/
def Claims.EackIsSent : Prop :=
  ∀ (kind cls : Fin 3) (peer : Fin 16) (s : State), s.live = true →
    (let c := s.dev.chan (chanKey kind 1 cls peer)
     c.opened = true → c.fenced = false → 0 < c.since → c.oldest + 1000 ≤ s.dev.nowNs →
     exec (.eackDue kind cls peer) s = .next (s.onDev fun d =>
       (d.setChan (chanKey kind 1 cls peer) { c with since := 0 }).queuePkt
         { dchip := peer, schip := d.chipId, kind := 1, cls := cls, mc := kind, epoch := 0, nlines := 0, seq := (c.seq + 65535) % 65536,
           body := [] }))

/-- UNDELIV: a packet that came back fences the channel that sent it (R315, R327). -/
def Claims.UndeliveredFences : Prop :=
  ∀ (k : Pkt) (kind cls peer : Nat) (s : State), s.live = true → k.kind = 2 → s.dev.returned k = some (kind, cls, peer) →
    Claims.Taken (.undeliv k) k s fun d => (d.fenceSrc kind cls peer 0x6006).orReg Reg.HT_STAT 0x10

/-- FINISH: the master notes that the chip has finished the present table (R332). -/
def Claims.FinishIsNoted : Prop :=
  ∀ (k : Pkt) (s : State), s.live = true → k.kind = 3 → bit (s.dev.reg Reg.HT_TICK) 0 = true → k.seq = s.dev.tick.count % 65536 →
    Claims.Taken (.finishPkt k) k s fun d => { d with lk := { d.lk with finish := d.lk.finish ||| BitVec.ofNat 16 (2 ^ k.schip) } }

/-- E2E_TIMEOUT: an unacknowledged packet older than HT_E2E_TO (not below 5 µs) fences its channel (R314). -/
def Claims.OldPacketFences : Prop :=
  ∀ (kind cls : Fin 3) (peer : Fin 16) (u : LUnack) (s : State), s.live = true →
    (let c := s.dev.chan (srcKey kind cls peer)
     c.unack.head? = some u → c.opened = true → c.fenced = false → u.ns + max (s.dev.regN Reg.HT_E2E_TO) 5 * 1000 < s.dev.nowNs →
     exec (.e2eTimeout kind cls peer) s = .next (s.onDev fun d =>
       ((d.fenceSrc kind cls peer 0x6005).orReg Reg.HT_STAT 8).logS 0x6005
         { atNode (nodeOf 2 0) with tenant := some (((d.fenceSrc kind cls peer 0x6005).orReg Reg.HT_STAT 8).rowTenant 0) }))

/-- MASTER_LOST: a chip that follows a lost master, or hears no TICK for 1.5 P, runs on its own timer from its last edge (R333). -/
def Claims.LostMasterFreesTheTick : Prop :=
  ∀ s : State, s.live = true → fld s.dev.tick.ctrlUse 0 2 = 3 → bit (s.dev.reg Reg.HT_TICK) 0 = false → s.dev.relay = false →
    s.dev.tick.unsync = false → s.dev.pstate = 0 → 0 < s.dev.tick.periodUse →
    bit (s.dev.reg Reg.HT_LOST) (Config.tickMaster % 16) = true ∨ s.dev.tick.edgeNs + s.dev.tick.periodUse * 1500 ≤ s.dev.nowNs →
    exec .masterLost s = .next (s.onDev fun d =>
      ({ d with tick := { d.tick with unsync := true, fallback := true, timerNs := d.tick.edgeNs },
                lk := { d.lk with due := none } } : Dev).logC 0x0003 nodeTick)

/-- The channel end that an HT_CHAN_CMD word of one class names: its class and key. A multicast is REQ, and its source has no peer (Table 13-7). -/
def Claims.endOf (v : Word) : Nat × Nat × Nat :=
  let kind := fld v 6 2
  let cls := if kind ≠ 0 then 2 else fld v 4 2
  let peer := if kind ≠ 0 ∧ fld v 8 1 = 0 then 0 else fld v 0 4
  (cls, peer, chanKey kind (fld v 8 1) cls peer)

/-- OPEN: the end named opens with the epoch given, unfenced, at sequence 0; at a source the packets that wait go on; every other end keeps its state
(R316). -/
def Claims.OpenOpensOneEnd : Prop :=
  ∀ (v : Word) (s : State), s.live = true → fld v 16 2 = 1 → fld v 6 2 < 3 → (fld v 6 2 = 0 → fld v 4 2 ≠ 3) →
    (let (cls, peer, key) := Claims.endOf v
     exec (.chOpen v) s = .next (s.onDev fun d =>
       let c := d.chan key
       let d1 := d.setChan key { Chan.closed with opened := true, epoch := fld v 12 4, wait := c.wait, reqs := c.reqs }
       if fld v 8 1 = 0 then d1.chanDrain (fld v 6 2) cls peer c.wait.length else d1))

/-- CLOSE: the end's state is discarded, but for the requests that its peer has taken; at a source what is being packed is lost (R316). -/
def Claims.CloseClosesOneEnd : Prop :=
  ∀ (v : Word) (s : State), s.live = true → fld v 16 2 = 2 → fld v 6 2 < 3 → (fld v 6 2 = 0 → fld v 4 2 ≠ 3) →
    (let (cls, peer, key) := Claims.endOf v
     exec (.chClose v) s = .next (s.onDev fun d =>
       let d1 := d.setChan key { Chan.closed with reqs := (d.chan key).reqs }
       if fld v 8 1 = 0 then d1.losePacks (fld v 6 2) cls peer else d1))

/-- HT_ROUTE_COMMIT waits for the next edge (R318); HT_CHIP_WRITE stores while every port is down, and is dropped and logged while one is up
(R317). -/
def Claims.LinkRegistersAreWritten : Prop :=
  ∀ (v : Word) (s : State), s.live = true →
    (bit v 0 = true → exec (.htRouteCommit v) s = .next (s.onDev fun d => { d with lk := { d.lk with routePend := true } })) ∧
    (s.dev.anyUp = false → exec (.htChipWrite false v) s = .next (s.onDev fun d => d.setReg Reg.HT_CHIP (v &&& 0x1F))) ∧
    (s.dev.anyUp = false → exec (.htChipWrite true v) s = .next (s.onDev fun d => d.setReg Reg.HT_TOPO (v &&& 0x3F))) ∧
    (∀ topo, s.dev.anyUp = true → exec (.htChipWrite topo v) s = .next (s.onDev fun d => d.logC 0x600A (nodeOf 2 0)))

/-- LINK_RST_N: every port is down and silent, the active routes are gone, and no scheduled edge is left (R326, R327). -/
def Claims.LinkResetSilences : Prop :=
  ∀ s : State, s.live = true →
    ∃ t, exec .linkRstN s = .next t ∧ t.dev.lk.ports = List.replicate 4 LPort.reset ∧ t.dev.lk.route = List.replicate 16 7 ∧
      t.dev.lk.routePend = false ∧ t.dev.lk.due = none ∧ t.dev.mem = s.dev.mem ∧ t.dev.dram = s.dev.dram ∧ t.dev.flash = s.dev.flash

end Clauses
end

