-- ==== Sys2Proof/Safety/ClausesMemory.lean ====
section
/-! DEFINITION. Clauses of the statements about the DRAM controllers and the flash controller.
Each clause is named under Claims; Sys2Proof/Certificates/Slice0/Obligations.lean joins them into the statements. Where a clause says `= .next t` for a
whole state t, everything that t does not change is unchanged: the clause is its own frame. -/

section Clauses

open Sys2Proof Sys2Proof.Machine

/-! ## The DRAM controllers (R235 to R264) -/

/-- DRAM_START: the first START begins the bring-up and releases the devices' reset (R243). -/
def Claims.DramStartBeginsBringUp : Prop :=
  ∀ (v : Word) (s : State), s.live = true → bit v 0 = true → s.dev.dram.started = false → fld (s.dev.reg Reg.DR_GCFG) 0 3 ≠ 7 →
    exec (.dramStart v) s = .next (s.onDev fun d =>
      { d with dram := { d.dram with started := true, training := true, startNs := d.nowNs }, pins := { d.pins with dramRstN := true } })

/-- DRAM_START with RATE 7 fails every channel: training is over at once and FAIL shows all eight (R245). -/
def Claims.ReservedRateFailsEveryChannel : Prop :=
  ∀ (v : Word) (s : State), s.live = true → bit v 0 = true → s.dev.dram.started = false → fld (s.dev.reg Reg.DR_GCFG) 0 3 = 7 →
    ∃ t, exec (.dramStart v) s = .next t ∧ t.dev.dram.started = true ∧ t.dev.dram.training = false ∧
      (∀ k < 8, t.dev.dram.failMask.testBit k = true) ∧ t.dev.dram.ready = s.dev.dram.ready ∧ t.dev.dram.cells = s.dev.dram.cells

/-- A second START changes nothing (R243). -/
def Claims.SecondDramStartIsIgnored : Prop :=
  ∀ (v : Word) (s : State), s.dev.dram.started = true → exec (.dramStart v) s = .next s

/-- DRAM_TRAINING_DONE: once every channel is up with supported devices, READY is set, TRAIN is over, and C_ch is the smallest usable capacity
of a channel; no memory cell changes (R244, R245, R262). Until the keys of the DRAM have been drawn no training ends (R405). -/
def Claims.TrainingMakesTheDramReady : Prop :=
  ∀ (ev : DramUp) (s : State), s.live = true → s.dev.dram.training = true → s.dev.sec.unkeyed.any (fun k => decide (k < 8)) = false →
    ev.chans.length = 8 → ev.chans.all (·.ok) = true →
    ∃ t, exec (.dramTrainingDone ev) s = .next t ∧ t.dev.dram.ready = true ∧ t.dev.dram.training = false ∧
      t.dev.dram.cchMib = (let sizes := (ev.chans.zipIdx).map (fun c => c.1.mib (bit (s.dev.reg (Reg.DR_CH_CFG c.2)) 0))
                           sizes.foldl min (sizes.headD 0)) ∧
      t.dev.dram.cells = s.dev.dram.cells ∧ t.dev.mem = s.dev.mem ∧ t.dev.tiles = s.dev.tiles

/-- A channel that fails, or whose devices are not supported, leaves READY 0 and its bit of FAIL set (R245). -/
def Claims.FailedChannelKeepsTheDramDown : Prop :=
  ∀ (ev : DramUp) (s : State) (k : Nat) (c : TrainCh), s.live = true → s.dev.dram.training = true → s.dev.dram.ready = false →
    s.dev.sec.unkeyed.any (fun k => decide (k < 8)) = false → ev.chans.length = 8 → ev.chans[k]? = some c → c.ok = false →
    ∃ t, exec (.dramTrainingDone ev) s = .next t ∧ t.dev.dram.ready = false ∧ t.dev.dram.failMask.testBit k = true

/-- DR_CFG_WRITE: before START every field is written (R243). -/
def Claims.DramConfigIsWrittenBeforeStart : Prop :=
  ∀ (k : Fin 9) (v : Word) (s : State), s.live = true → s.dev.dram.started = false →
    exec (.drCfgWrite k v) s = .next (s.onDev fun d =>
      if k.val = 8 then d.setReg Reg.DR_GCFG (v &&& 0x307) else d.setReg (Reg.DR_CH_CFG k) (v &&& 0x13))

/-- After START a write that changes a locked field is logged and leaves the field; the others are written (R243). -/
def Claims.LockedDramFieldsKeep : Prop :=
  ∀ (k : Fin 8) (v : Word) (s : State), s.live = true → s.dev.dram.started = true →
    v &&& 3 ≠ s.dev.reg (Reg.DR_CH_CFG k) &&& 3 →
    exec (.drCfgWrite ⟨k.val, by omega⟩ v) s = .next (s.onDev fun d =>
      (d.setReg (Reg.DR_CH_CFG k) ((v &&& 0x13 &&& ~~~3) ||| (d.reg (Reg.DR_CH_CFG k) &&& 3))).logC 0x3002 (nodeOf 0 (k + 1)))

/-- REFRESH_TEMP: a refresh that is due is counted and the bank's page closes; every other bank keeps its page (R251, R252). -/
def Claims.TempRefreshClosesOneBank : Prop :=
  ∀ (ch : Fin 8) (bank : Fin 16) (s : State), s.live = true → s.dev.dram.ready = true → s.dev.pstate ≤ 2 → (s.dev.ch ch).fixed = false →
    (s.dev.ch ch).bankDue bank ≤ s.dev.nowNs →
    exec (.refreshTemp ch bank) s = .next (s.onDev fun d =>
      (d.refreshed ch).updCh ch (fun c => { c with
        open_ := tabSet noPage c.open_ bank none, bankNs := tabSet (fun _ => 0) c.bankNs bank d.nowNs }))

/-- REFRESH_FIXED: on the grid, and in S3, every page of the channel closes, the stall is counted in CK cycles, the next refresh is one interval later
or where a new grid starts, and tracking that is due runs within the stall (R253, R256, R263). -/
def Claims.FixedRefreshFollowsTheGrid : Prop :=
  ∀ (ch : Fin 8) (rfcNs : Nat) (s : State), s.live = true → s.dev.dram.ready = true → s.dev.pstate ≤ 3 →
    (s.dev.ch ch).fixed = true ∨ s.dev.pstate = 3 → (s.dev.ch ch).nextRef ≤ s.dev.nowNs →
    exec (.refreshFixed ch rfcNs) s = .next (s.onDev fun d =>
      let due := (d.ch ch).nextRef
      let n := due + max (d.refIvl ch) 10
      let cyc := rfcNs * d.ckTenths + (d.ch ch).stallRem
      ((d.refreshed ch).incReg (Reg.DR_REF_STALL ch) (cyc / 10000)).updCh ch (fun c => { c with
        lastRef := due, nextRef := if due < c.gridNs ∧ c.gridNs ≤ n then c.gridNs else n, stallRem := cyc % 10000, open_ := [], bankNs := [],
        trackNs := if d.trackDue ch then d.nowNs else c.trackNs }))

/-- MR4_POLL: the multiple is shown and, in TEMP mode, kept; nothing else of the channel changes (R252, R254). -/
def Claims.PollReadsTheTemperature : Prop :=
  ∀ (ch : Fin 8) (m : BitVec 6) (s : State), s.live = true → s.dev.dram.ready = true → s.dev.pstate ≤ 3 →
    (s.dev.ch ch).mr4Ns + 250000 ≤ s.dev.nowNs → ch.val < s.dev.dram.chans.length →
    ∃ t, exec (.mr4Poll ch m) s = .next t ∧ (t.dev.ch ch).mult = m.toNat ∧ (t.dev.ch ch).mr4Ns = s.dev.nowNs ∧
      (t.dev.ch ch).linkWr = false ∧ t.dev.dram.cells = s.dev.dram.cells ∧ t.dev.mem = s.dev.mem

/-- WCK2DQ_TRACKING: in TEMP mode the tracking is done once 8 ms have passed (R256). -/
def Claims.TrackingIsDone : Prop :=
  ∀ (ch : Fin 8) (s : State), s.live = true → s.dev.dram.ready = true → s.dev.pstate ≤ 2 → (s.dev.ch ch).fixed = false →
    (s.dev.ch ch).trackNs + 8000000 ≤ s.dev.nowNs →
    exec (.wck2dqTracking ch) s = .next (s.onDev fun d => d.updCh ch (fun c => { c with trackNs := d.nowNs }))

/-- PAGE_IDLE_CLOSE: a page that a TIMER port holds open closes once it has idled for IDLE CK cycles (R251). -/
def Claims.IdlePageCloses : Prop :=
  ∀ (ch : Fin 8) (bank : Fin 16) (s : State) (row seen : Nat), s.live = true →
    tabGet noPage (s.dev.ch ch).open_ bank = some (row, seen, true) →
    fld (s.dev.ch ch).pageUse 16 10 * 10000 ≤ (s.dev.nowNs - seen) * s.dev.ckTenths →
    exec (.pageIdleClose ch bank) s = .next (s.onDev fun d => d.updCh ch (fun c => { c with open_ := tabSet noPage c.open_ bank none }))

/-! ## The flash controller (R265 to R285) -/

/-- FLASH_START: the first START begins the bring-up and releases the write protection (R267). -/
def Claims.FlashStartBeginsBringUp : Prop :=
  ∀ (v : Word) (s : State), s.live = true → bit v 0 = true → s.dev.flash.started = false →
    exec (.flashStart v) s = .next (s.onDev fun d =>
      { d with flash := { d.flash with started := true, busy := true }, pins := { d.pins with wpN := true } })

/-- A later START changes nothing (R267). -/
def Claims.SecondFlashStartIsIgnored : Prop :=
  ∀ (v : Word) (s : State), s.dev.flash.started = true → exec (.flashStart v) s = .next s

/-- FLASH_START_DONE: where every channel passes the checks of Table 11-4 the flash is ready with channel 0's geometry, at most 8,192 blocks and 2²²
pages a CE (R267). -/
def Claims.FlashBecomesReady : Prop :=
  ∀ (u : FlashUp) (p : FlParam) (c : Nat) (s : State), s.live = true → s.dev.flash.busy = true → u.failMask (s.dev.regN Reg.FL_GCFG) = 0 →
    u.target 0 0 = some p → cesOf (u.ceSet 0) = some c →
    ∃ t, exec (.flashStartDone u) s = .next t ∧ t.dev.flash.ready = true ∧ t.dev.flash.busy = false ∧
      t.dev.flash.failMask = 0 ∧ t.dev.flash.pages = p.pages ∧ t.dev.flash.blocks = min (min p.blocks 8192) (2 ^ 22 / max p.pages 1) ∧
      t.dev.flash.ces = c ∧ t.dev.flash.luns = p.luns ∧ (∀ i < 16, t.dev.flash.iface[i]? = some .nvLpddr4) ∧
      t.dev.flash.cells = s.dev.flash.cells ∧ t.dev.dram = s.dev.dram ∧ t.dev.mem = s.dev.mem

/-- A channel that fails leaves the flash not ready, with its bit of FAIL (R268). -/
def Claims.FlashChannelFails : Prop :=
  ∀ (u : FlashUp) (s : State), s.live = true → s.dev.flash.busy = true → u.failMask (s.dev.regN Reg.FL_GCFG) ≠ 0 →
    ∃ t, exec (.flashStartDone u) s = .next t ∧ t.dev.flash.ready = false ∧ t.dev.flash.busy = false ∧
      t.dev.flash.failMask = u.failMask (s.dev.regN Reg.FL_GCFG) ∧ t.dev.flash.cells = s.dev.flash.cells

/-- FL_GCFG_WRITE: RATE is written before START and locked after it (R266). -/
def Claims.FlashRateIsLockedByStart : Prop :=
  ∀ (v : Word) (s : State), s.live = true →
    exec (.flGcfgWrite v) s = .next (s.onDev fun d =>
      if d.flash.started then d.logC 0x4002 (flNode 0) else d.setReg Reg.FL_GCFG (v &&& 7))

/-- FL_CH_WREG_WRITE and FL_CH_SREG_WRITE: a region register is stored, and checked at once where the geometry is known (R274). -/
def Claims.RegionRegistersAreWritten : Prop :=
  ∀ (c : Fin 16) (v : Word) (s : State), s.live = true →
    exec (.flChWregWrite c v) s = .next (s.onDev fun d =>
      if d.flash.ready then (d.setReg (Reg.FL_CH_WREG c) v).checkRegion c else d.setReg (Reg.FL_CH_WREG c) v) ∧
    exec (.flChSregWrite c v) s = .next (s.onDev fun d =>
      if d.flash.ready then (d.setReg (Reg.FL_CH_SREG c) v).checkRegion c else d.setReg (Reg.FL_CH_SREG c) v)

/-- READ_PAGE, ERASE_BLOCK and BBT_STORE: a command that nothing refuses is under way with BUSY set, and begins where its LUN has no unit read before
it (R278, R281); BBT_STORE takes the table as it stands. -/
def Claims.FlashCommandsAreIssued : Prop :=
  ∀ (slc : Bool) (s : State), s.live = true → s.dev.flash.cmd = none →
    (let pg := s.dev.regN Reg.FL_CMD_ADDR
     let under := fun (op a : Nat) (x : Bool) (bs : List Byte) (d : Dev) => ({ (d.setReg Reg.FL_CMD_STAT 1) with
       flash := { d.flash with cmd := some { op := op, addr := a, slc := x, buf := d.flBuf, since := d.nowNs, aged := false,
                                             begun := false, stage := 0, data := bs } } } : Dev).cmdNext
     (s.dev.flRefusal 1 pg = none → s.dev.bufRefusal = none → exec (.readPage slc) s = .next (s.onDev (under 1 pg slc []))) ∧
     (s.dev.flRefusal 3 pg = none → exec (.eraseBlock slc) s = .next (s.onDev (under 3 pg slc []))) ∧
     (s.dev.flRefusal 5 pg = none → exec .bbtStore s = .next (s.onDev fun d =>
       under 5 (bbtPage d.bbtTarget.1 0) false (d.bbtImage d.bbtTarget.2) d)))

/-- PROGRAM_PAGE: the 16 KiB of the buffer are taken, and the command is under way (R278). -/
def Claims.ProgramPageIsIssued : Prop :=
  ∀ (slc : Bool) (dr : DramEv) (s : State) (d' : Dev), s.live = true → s.dev.flash.cmd = none →
    (let pg := s.dev.regN Reg.FL_CMD_ADDR
     s.dev.flRefusal 2 pg = none → s.dev.bufRefusal = none → s.dev.readDram s.dev.flBuf 16384 0 none dr = (none, d') →
     exec (.programPage slc dr) s = .next (s.onDev fun _ => ({ (d'.setReg Reg.FL_CMD_STAT 1) with
       flash := { d'.flash with cmd := some { op := 2, addr := pg, slc := slc, buf := d'.flBuf, since := d'.nowNs, aged := false,
                                              begun := false, stage := 0, data := d'.dramBytes d'.flBuf 16384 } } } : Dev).cmdNext))

/-- MARK_BAD: a block outside the boot region is marked in the table in use, and the command is done (R274, R277, R278). -/
def Claims.MarkBadMarks : Prop :=
  ∀ s : State, s.live = true → s.dev.flash.cmd = none →
    (let pg := s.dev.regN Reg.FL_CMD_ADDR
     s.dev.flRefusal 4 pg = none → inBoot pg = false →
     ∃ t, exec .markBad s = .next t ∧ t.dev.isBad (pgCh pg) (pgCe pg) (pgBlock pg) = true ∧ t.dev.flash.bbtDirty = true ∧
       t.dev.reg Reg.FL_CMD_STAT = 2 ∧ t.dev.flash.cmd = none ∧ t.dev.flash.cells = s.dev.flash.cells)

/-- SCAN: the table in use holds exactly what the factory marks say, and it differs from the stored one (R278). -/
def Claims.ScanBuildsTheTable : Prop :=
  ∀ s : State, s.live = true → s.dev.flash.cmd = none → s.dev.flRefusal 6 (s.dev.regN Reg.FL_CMD_ADDR) = none →
    ∃ t, exec .flScan s = .next t ∧ t.dev.flash.bbtDirty = true ∧ t.dev.reg Reg.FL_CMD_STAT = 2 ∧ t.dev.flash.cmd = none ∧
      t.dev.flash.cells = s.dev.flash.cells ∧
      ∀ ch ce block : Nat, t.dev.isBad ch ce block = true ↔
        ∃ pg ∈ s.dev.factoryMarks, inBoot pg = false ∧ s.dev.bbtBit (pgCh pg) (pgCe pg) (pgBlock pg) = s.dev.bbtBit ch ce block

/-- A command while one is under way is dropped and logged (R278, R279); one that R268 or R279 refuses fails with its code, and nothing of it is
done. -/
def Claims.FlashCommandsAreRefused : Prop :=
  ∀ (slc : Bool) (s : State), s.live = true →
    (s.dev.flash.cmd.isSome = true →
      exec (.eraseBlock slc) s = .next (s.onDev fun d => d.logC 0x400A (flNode (pgCh (d.regN Reg.FL_CMD_ADDR))))) ∧
    (∀ c, s.dev.flash.cmd = none → s.dev.flRefusal 3 (s.dev.regN Reg.FL_CMD_ADDR) = some c →
      ∃ t, exec (.eraseBlock slc) s = .next t ∧ t.dev.reg Reg.FL_CMD_STAT = w32 (c * 65536 + 4) ∧ t.dev.flash = s.dev.flash ∧
        t.dev.dram = s.dev.dram)

/-- PROGRAM_ERASE_COMPLETE of a command that its LUN has begun: an erase that the device has done leaves every byte of the block 0xFF and no other byte changed; a program that it
has done on an erased page leaves the data there (R269, R278, R285). -/
def Claims.ProgramAndEraseEnd : Prop :=
  ∀ (s : State) (c : FlCmd), s.live = true → s.dev.flash.cmd = some c → c.begun = true → s.dev.pstate < 3 →
    (c.op = 3 → ∃ t, exec (.programEraseComplete true) s = .next t ∧ t.dev.reg Reg.FL_CMD_STAT = 2 ∧ t.dev.flash.cmd = none ∧
      ∀ pg o, o < 32768 → t.dev.pageBytes pg o 1 = if pg / 2 ^ 13 = c.addr / 2 ^ 13 then [0xFF] else s.dev.pageBytes pg o 1) ∧
    (c.op = 2 → s.dev.pageErased c.addr = true → c.data.length = 16384 →
      ∃ t, exec (.programEraseComplete true) s = .next t ∧ t.dev.reg Reg.FL_CMD_STAT = 2 ∧ t.dev.flash.cmd = none ∧
        (∀ o, o < 16384 → t.dev.pageBytes c.addr o 1 = [c.data.getD o 0]) ∧
        (∀ pg o, pg ≠ c.addr → o < 32768 → t.dev.pageBytes pg o 1 = s.dev.pageBytes pg o 1))

/-- PROGRAM_ERASE_COMPLETE of a BBT_STORE: each one ends the erase of the older copy's block or the program of one page; with the last the command is
done and its generation is in use (R277, R278). -/
def Claims.TableStoreGoesOn : Prop :=
  ∀ (s : State) (c : FlCmd), s.live = true → s.dev.flash.cmd = some c → c.begun = true → s.dev.pstate < 3 → c.op = 5 →
    (let next := fun (d : Dev) => ({ d with flash := { d.flash with cmd := some { c with stage := c.stage + 1 } } } : Dev)
     (c.stage = 0 → exec (.programEraseComplete true) s = .next (s.onDev fun d => next (d.eraseBlock c.addr))) ∧
     (c.stage ≠ 0 → exec (.programEraseComplete true) s = .next (s.onDev fun d =>
       let d' := d.bbtProgram c.addr (c.stage - 1) c.data
       if c.stage < d'.bbtPages then next d' else (d'.bbtStored c.data).flEnd none)))

/-- PROGRAM_ERASE_COMPLETE of an erase or a program that failed: the block is marked in the table in use, the code logged, and the command fails with it
(R277). -/
def Claims.FailedBlockIsMarked : Prop :=
  ∀ (s : State) (c : FlCmd), s.live = true → s.dev.flash.cmd = some c → c.begun = true → s.dev.pstate < 3 →
    (c.op = 3 → exec (.programEraseComplete false) s = .next (s.onDev fun d => (d.flBadBlock c.addr 0x4009 8).flEnd (some 0x4009))) ∧
    (c.op = 2 → exec (.programEraseComplete false) s = .next (s.onDev fun d =>
      ((d.undefPage c.addr).flBadBlock c.addr 0x4008 4).flEnd (some 0x4008)))

/-- HOST_COMMAND_AGED: a command that has waited 1 ms is issued next (R281). -/
def Claims.OldCommandIsAged : Prop :=
  ∀ (s : State) (c : FlCmd), s.live = true → s.dev.flash.cmd = some c → c.since + 1000000 ≤ s.dev.nowNs →
    exec .hostCommandAged s = .next (s.onDev fun d => { d with flash := { d.flash with cmd := some { c with aged := true } } })

end Clauses
end

