-- ==== Sys2Proof/Safety/ClausesPort.lean ====
section
/-! DEFINITION. Clauses of the statements about the host port, the service ports and the service protocol.
Each clause is named under Claims; Sys2Proof/Certificates/Slice0/Obligations.lean joins them into the statements. Where a clause says `= .next t` for a
whole state t, everything that t does not change is unchanged: the clause is its own frame. -/

section Clauses

open Sys2Proof Sys2Proof.Machine

/-! ## The host port (R414 to R437) -/

/-- DOORBELL_WRITE: an index that lies at or ahead of the producer and within the ring of C is taken (R427): the ring's P and doorbell hold it, and the
composer will see it; of a completion ring it is C, at most P (R431). -/
def Claims.DoorbellIsTaken : Prop :=
  ∀ (fn : Fin 9) (r : Fin 16384) (v : Word) (s : State), s.live = true → s.dev.pstate = 0 → s.dev.entering = false →
    s.dev.booting = false → s.dev.fnSees fn (r / 4) = true →
    (let x := s.dev.ring r
     ringSize x ≠ 0 → x.bad = false → x.ue = false → s.dev.standing (r / 4) = false →
     (r.val % 4 ≠ 3 → (v - x.c).toNat ≤ ringSize x → (v - x.p).toNat ≤ ringSize x →
       exec (.doorbellWrite fn r v .clean) s = .next (s.onDev fun d => d.setRing r (x.rung d.nowNs v x.c v))) ∧
     (r.val % 4 = 3 → (v - x.c).toNat ≤ (x.p - x.c).toNat →
       exec (.doorbellWrite fn r v .clean) s = .next (s.onDev fun d => d.setRing r (x.rung d.nowNs x.p v v))))

/-- A doorbell outside those bounds is dropped and logged (R427). -/
def Claims.BadDoorbellIsDropped : Prop :=
  ∀ (fn : Fin 9) (r : Fin 16384) (v : Word) (s : State), s.live = true → s.dev.pstate = 0 → s.dev.entering = false →
    s.dev.booting = false → s.dev.fnSees fn (r / 4) = true →
    (let x := s.dev.ring r
     ringSize x ≠ 0 → x.bad = false → x.ue = false → r.val % 4 ≠ 3 → ringSize x < (v - x.c).toNat →
     exec (.doorbellWrite fn r v .clean) s = .next (s.onDev fun d => (d.orReg Reg.HI_STAT 4).logT 0x9004 nodeHost (d.sidTenant (r / 4))))

/-- DOORBELL_VISIBLE: the composer sees the ring's indices (R16). -/
def Claims.DoorbellBecomesVisible : Prop :=
  ∀ (r : Fin 16384) (s : State), s.live = true →
    exec (.doorbellVisible r) s = .next (s.onDev fun d =>
      d.setRing r { d.ring r with visP := (d.ring r).p, visC := (d.ring r).c, bells := [] })

/-- RING_CONFIG_WRITE: while the session is not busy, BASE_LO, BASE_HI and CFG are stored; a CFG write starts the indices anew; RC_IDX is read-only
(R426, R428). -/
def Claims.RingIsConfigured : Prop :=
  ∀ (fn : Fin 9) (r : Fin 16384) (v : Word) (s : State), s.live = true → s.dev.pstate < 4 → s.dev.booting = false →
    s.dev.fnSees fn (r / 4) = true →
    (let x := s.dev.ring r
     (s.dev.sessBusy (r / 4) = false →
       exec (.ringConfigWrite fn r 0 v) s = .next (s.onDev fun d => d.setRing r { x with lo := v &&& 0xFFFFFFC0 }) ∧
       exec (.ringConfigWrite fn r 1 v) s = .next (s.onDev fun d => d.setRing r { x with hi := v }) ∧
       (fld v 0 5 = 0 ∨ (4 ≤ fld v 0 5 ∧ fld v 0 5 ≤ 16) →
         exec (.ringConfigWrite fn r 2 v) s = .next (s.onDev fun d =>
           d.setRing r { x with cfg := cfgValue (r % 4) fn v, p := 0, c := 0, visP := 0, visC := 0, db := 0, bells := [], ue := false }))) ∧
     exec (.ringConfigWrite fn r 3 v) s = .next s ∧
     (s.dev.sessBusy (r / 4) = true →
       exec (.ringConfigWrite fn r 0 v) s = .next (s.onDev fun d => (d.orReg Reg.HI_STAT 16).logT 0x9005 nodeHost (d.sidTenant (r / 4)))))

/-- BAR2_READ: a host read within the programmed size that the function may make returns the DRAM's bytes (R415, R423). -/
def Claims.HostReadsDram : Prop :=
  ∀ (fn : Fin 9) (off : BitVec 35) (n : Nat) (ev : DramEv) (s : State) (d' : Dev), s.live = true → s.dev.pstate < 3 →
    off.toNat + n ≤ 2 ^ (s.dev.host.bar2Log.getD fn 0) → s.dev.bar2Bad fn off.toNat n = false →
    s.dev.readDram off.toNat n 0 none ev = (none, d') →
    exec (.bar2Read fn off (.read n) ev .clean) s = .next (s.onDev fun _ =>
      { d' with host := { d'.host with rdData := d'.dramBytes off.toNat n } })

/-- A host read of DRAM that the function may not make returns zeros, and is logged (R397, R423). -/
def Claims.ForeignHostReadIsRefused : Prop :=
  ∀ (fn : Fin 9) (off : BitVec 35) (n : Nat) (ev : DramEv) (s : State), s.live = true → s.dev.pstate < 3 →
    off.toNat + n ≤ 2 ^ (s.dev.host.bar2Log.getD fn 0) → s.dev.bar2Bad fn off.toNat n = true →
    exec (.bar2Read fn off (.read n) ev .clean) s = .next (s.onDev fun d =>
      { d.badAccess with host := { d.badAccess.host with rdData := List.replicate n 0 } })

/-- A host write through BAR2 of whole 64-byte units is written to DRAM (R400, R415). -/
def Claims.HostWritesDram : Prop :=
  ∀ (fn : Fin 9) (off : BitVec 35) (bs : List Byte) (ev : DramEv) (s : State), s.live = true → s.dev.pstate < 3 →
    off.toNat + bs.length ≤ 2 ^ (s.dev.host.bar2Log.getD fn 0) → s.dev.bar2Bad fn off.toNat bs.length = false →
    off.toNat % 64 = 0 → bs.length % 64 = 0 →
    exec (.bar2Read fn off (.write bs false) ev .clean) s = .next (s.onDev fun d => d.writeDram off.toNat 0 bs ev)

/-- In S3 a host access waits at the host port for the exit (Table 10-7; the model's reading, notes/assumptions/109). -/
def Claims.HostAccessWaitsInDoze : Prop :=
  ∀ (fn : Fin 9) (off : BitVec 35) (n : Nat) (ev : DramEv) (s : State), s.live = true → s.dev.pstate = 3 → n ≠ 0 →
    off.toNat + n ≤ 2 ^ (s.dev.host.bar2Log.getD fn 0) →
    exec (.bar2Read fn off (.read n) ev .clean) s = .next (s.onDev fun d =>
      { d with host := { d.host with bar2Wait := d.host.bar2Wait ++ [{ fn := fn, off := off.toNat, acc := .read n, ev := ev }] } })

/-- COMPLETION_WRITE: the first job due is taken; the session's completion producer moves on by one, and one reservation is returned (R432 to
R435). Its tenant's upstream queue holds nothing back (R420). -/
def Claims.CompletionIsWritten : Prop :=
  ∀ (s : State) (j : CplJob) (js : List CplJob), s.live = true → s.dev.host.jobs = j :: js → s.dev.host.queued j.tenant = 0 →
    s.dev.host.bme.getLsbD (ringFn (s.dev.ring (ringId j.bound.sid 3)) j.tenant) = true →
    ∃ t, exec .completionWrite s = .next t ∧ t.dev.host.jobs = js ∧
      (t.dev.ring (ringId j.bound.sid 3)).p = (s.dev.ring (ringId j.bound.sid 3)).p + 1 ∧
      (t.dev.ring (ringId j.bound.sid 3)).resv = (s.dev.ring (ringId j.bound.sid 3)).resv - 1 ∧
      t.dev.mem = s.dev.mem ∧ t.dev.tiles = s.dev.tiles

/-- COALESCE_TIMER: RC_COAL_US after the first unsignalled completion the ring's message is sent (R436). -/
def Claims.CoalescedMessageIsSent : Prop :=
  ∀ (r : Fin 16384) (s : State), s.live = true →
    (let x := s.dev.ring r
     let n := s.dev.sidTenant (r / 4)
     bit x.useCfg 9 = true → 0 < x.since → x.firstNs + s.dev.regN (Reg.RC_COAL_US n) * 1000 ≤ s.dev.nowNs →
     exec (.coalesceTimer r) s = .next (s.onDev fun d => d.ringMsi r n))

/-- MSIX_UNMASK: a word of a function's table is stored; with nothing pending for the function nothing else happens (R437). -/
def Claims.MsixWordIsStored : Prop :=
  ∀ (fn : Fin 9) (k : Fin 8192) (v : Word) (s : State), s.live = true → s.dev.pstate < 4 → s.dev.booting = false →
    (fn.val = 0 ∨ k.val < 1024) → k.val % 4 = 1 → (∀ e ∈ s.dev.host.pba, e.1 / 2048 ≠ fn.val) →
    exec (.msixUnmask fn (.word k v)) s = .next (s.onDev fun d =>
      { d with host := { d.host with msix := tabSet msixDef d.host.msix (fn.val * 8192 + k.val) v } })

/-- A pending message of an enabled, unmasked function is sent as soon as its vector is unmasked (R437). -/
def Claims.PendingMessageIsSent : Prop :=
  ∀ (fn : Fin 9) (n : Fin 2048) (s : State), s.live = true → s.dev.pstate < 4 → s.dev.booting = false → (fn.val = 0 ∨ n.val < 256) →
    s.dev.host.pba = [(fn.val * 2048 + n.val, true)] → s.dev.host.msixEn.getLsbD fn = true → s.dev.host.fmask.getLsbD fn = false →
    s.dev.host.bme.getLsbD fn = true → s.dev.host.upWait = [] →
    ∃ t, exec (.msixUnmask fn (.word ⟨4 * n.val + 3, by omega⟩ 0)) s = .next t ∧ t.dev.host.pba = [] ∧
      t.dev.host.upOut = s.dev.host.upOut ++ [.msi fn n]

/-- FLR_VF: no instance of the tenant runs any more, no session of it is enabled, its rings are reset, and a Clearing of its stand is under way
(R422). -/
def Claims.FunctionResetClearsTheTenant : Prop :=
  ∀ (n : Fin 8) (s : State), s.live = true → s.dev.pstate < 4 → s.dev.sec.clear.length = 8 →
    ∃ t, exec (.flrVf n) s = .next t ∧ (∀ x ∈ t.dev.tick.cur, x.tenant = n.val → x.alive = false) ∧ t.dev.hasSession n = false ∧
      t.dev.sec.clear.getD n .idle ≠ .idle ∧ n.val ∈ t.dev.host.flrWait ∧ t.dev.mem = s.dev.mem ∧ t.dev.dram = s.dev.dram

/-- FLR_PF: in S0, with no boot of a wider reset and nothing spilled, the core resets as for a warm reset and boots with that cause (R422). -/
def Claims.PhysicalFunctionResetIsWarm : Prop :=
  ∀ (env : BootEnv) (s : State), s.live = true → s.dev.booting = false → s.dev.asleep 5 = false → s.dev.exiting = false →
    s.dev.pwr.spilled = [] →
    exec (.flrPf env) s = .next (s.onDev fun d => (d.coreReset true).bootStart 3 false env)

/-- PME_TURN_OFF is noted for the entry to S4 (R421). -/
def Claims.TurnOffIsNoted : Prop :=
  ∀ s : State, s.live = true →
    exec .pmeTurnOff s = .next (s.onDev fun d => { d with host := { d.host with pmeReq := true } })

/-! ## The service ports (R438 to R464) -/

/-- SP_BAUD_WRITE: DIV and OS are stored; DIV 0 stops the port (R438, R439). -/
def Claims.BaudIsWritten : Prop :=
  ∀ (n : Fin 2) (v : Word) (s : State), s.live = true →
    exec (.spBaudWrite n v) s = .next { s with sp := s.sp.setPort n ((s.sp.port n).baudWrite v) } ∧
    ((s.sp.port n).baudWrite v).baud = v &&& 0x3FFFF ∧ ((s.sp.port n).baudWrite v).tx = (s.sp.port n).tx ∧
    ((s.sp.port n).baudWrite v).rx = (s.sp.port n).rx

/-- SP_DATA_READ with the engine off: the oldest entry is returned and leaves the FIFO, the flags that SP_STAT has shown are cleared (R442,
R444). -/
def Claims.DataReadPopsTheOldest : Prop :=
  ∀ (n : Fin 2) (s : State) (e : RxEntry) (es : List RxEntry), s.live = true → bit (s.sp.port n).ctrl 10 = false →
    (s.sp.port n).rx = e :: es →
    (let p := s.sp.port n
     exec (.spDataRead n) s = .next { (s.answer (leBytes 4 e.word.toNat)) with
       sp := s.sp.setPort n ({ p with rx := es, stat := p.stat &&& ~~~ p.seen, seen := 0 }).level })

/-- SP_DATA_READ of an empty FIFO returns 0 (R442). -/
def Claims.EmptyDataReadsZero : Prop :=
  ∀ (n : Fin 2) (s : State), s.live = true → (s.sp.port n).rx = [] →
    ∃ t, exec (.spDataRead n) s = .next t ∧ t.dev.host.rdData = [0, 0, 0, 0] ∧ (t.sp.port n).rx = [] ∧ (t.sp.port n).tx = (s.sp.port n).tx

/-- SP_STAT_READ: the flags are returned and remembered as seen (R444). -/
def Claims.StatReadShowsTheFlags : Prop :=
  ∀ (n : Fin 2) (cts : Bool) (s : State), s.live = true →
    (let p := { s.sp.port n with ctsHigh := cts }
     exec (.spStatRead n cts) s = .next { (s.answer (leBytes 4 (p.statWord s.dev).toNat)) with
       sp := s.sp.setPort n { p with seen := p.stat &&& 0xF } })

/-- SP_DATA_WRITE: a word enters the TX FIFO; with 64 entries there it is dropped and TX_DROP set (R445). -/
def Claims.DataWriteQueues : Prop :=
  ∀ (n : Fin 2) (v : Word) (s : State), s.live = true →
    (let p := s.sp.port n
     (p.tx.length < 64 → exec (.spDataWrite n v) s = .next { s with sp := s.sp.setPort n { p with tx := p.tx ++ [BitVec.ofNat 9 v.toNat] } }) ∧
     (64 ≤ p.tx.length → exec (.spDataWrite n v) s = .next { s with sp := s.sp.setPort n { p with stat := p.stat ||| 0x40 } }))

/-- SP_BRK_TX: a break of the length written is asked for; one that is still pending keeps its length (R448). -/
def Claims.BreakIsAskedFor : Prop :=
  ∀ (n : Fin 2) (v : Word) (s : State), s.live = true → fld v 0 16 ≠ 0 →
    (let p := s.sp.port n
     (p.brkPend = 0 → exec (.spBrkTx n v) s = .next { s with sp := s.sp.setPort n { p with brkPend := fld v 0 16 } }) ∧
     (p.brkPend ≠ 0 → exec (.spBrkTx n v) s = .next { s with sp := s.sp.setPort n { p with stat := p.stat ||| 0x40 } }))

/-- FLUSH_RX and FLUSH_TX empty their FIFO; FLUSH_RX clears the line flags (R442, R444). -/
def Claims.FlushEmptiesTheFifo : Prop :=
  ∀ (n : Fin 2) (s : State), s.live = true →
    (let p := s.sp.port n
     exec (.flushRx n) s = .next { s with sp := s.sp.setPort n ({ p with rx := [], stat := p.stat &&& ~~~ 0xF, seen := 0 }).level } ∧
     exec (.flushTx n) s = .next { s with sp := s.sp.setPort n { p with tx := [] } })

/-- CHARACTER_RECEIVE with the engine off: a character without errors is put in the RX FIFO, with its RX message when the FIFO was empty (R441,
R443, R462). -/
def Claims.CharacterIsReceived : Prop :=
  ∀ (n : Fin 2) (sam : List RxSample) (s : State) (e : RxEntry), s.live = true →
    (let p := s.sp.port n
     p.on s.dev = true → p.rxBreak = false → p.exec = none → bit p.ctrl 10 = false → p.rx.length < 64 →
     charOf p.baud p.fmt p.ctrl sam = some e → e.pe = false → e.fe = false → e.brk = false →
     exec (.characterReceive n false sam) s = .next { s with
       dev := if p.rx = [] then spMsi s.dev p 0 else s.dev,
       sp := s.sp.setPort n ({ { p.boundary with lastTx := false, rxBreak := false } with rx := p.rx ++ [e] }).level })

/-- A character that finds the RX FIFO full is discarded, with OVR set and counted (R443). -/
def Claims.FullFifoDiscards : Prop :=
  ∀ (n : Fin 2) (sam : List RxSample) (s : State) (e : RxEntry), s.live = true →
    (let p := s.sp.port n
     p.on s.dev = true → p.rxBreak = false → p.exec = none → bit p.ctrl 10 = false → p.rx.length = 64 →
     charOf p.baud p.fmt p.ctrl sam = some e →
     ∃ t, exec (.characterReceive n false sam) s = .next t ∧ (t.sp.port n).rx = p.rx ∧ bit (t.sp.port n).stat 2 = true ∧
       (t.sp.port n).cntOvr = satAdd p.cntOvr 1)

/-- START_BIT_ABANDON: a start bit that reads 1 sets no flag (R440). -/
def Claims.StartBitIsAbandoned : Prop :=
  ∀ (n : Fin 2) (sam : List RxSample) (s : State), s.live = true →
    (let p := s.sp.port n
     p.on s.dev = true → p.rxBreak = false → bitVal p.baud p.ctrl sam 0 = true →
     exec (.startBitAbandon n sam) s = .next { s with sp := s.sp.setPort n { p with rxBaud := p.baud, rxFmt := p.fmt, rxCtrl := p.ctrl } })

/-- BREAK_END: the length of the break is recorded, at most 65,535, and BRK_LEN_NEW set (R449). -/
def Claims.BreakLengthIsRecorded : Prop :=
  ∀ (n : Fin 2) (bits : Nat) (s : State), s.live = true → (s.sp.port n).on s.dev = true → (s.sp.port n).rxBreak = true →
    exec (.breakEnd n bits) s = .next { s with
      sp := s.sp.setPort n { s.sp.port n with rxBreak := false, brkRx := min bits 65535, stat := (s.sp.port n).stat ||| 0x80 } }

/-- CHARACTER_TRANSMIT: with nothing of the engine to send, the oldest word of the TX FIFO is driven; a break that is asked for goes first (R448,
R454). -/
def Claims.CharacterIsSent : Prop :=
  ∀ (n : Fin 2) (l : TxLine) (s : State) (v : BitVec 9) (vs : List (BitVec 9)), s.live = true →
    (let p := s.sp.port n
     p.on s.dev = true → bit p.stat 13 = false → bit p.ctrl 1 = false → bit p.ctrl 3 = false → p.out = [] → p.queue = [] →
     (p.brkPend = 0 → p.tx = v :: vs →
       exec (.characterTransmit n l) s = .next { s with
         dev := if vs.length = 16 then spMsi s.dev { p with ctsHigh := l.cts } 1 else s.dev,
         sp := s.sp.setPort n { p with ctsHigh := l.cts, tx := vs, sent := p.sent ++ [lineChar p v.toNat], lastTx := true } }) ∧
     (p.brkPend ≠ 0 →
       exec (.characterTransmit n l) s = .next { s with
         dev := spMsi s.dev { p with ctsHigh := l.cts } 3,
         sp := s.sp.setPort n { p with ctsHigh := l.cts, brkPend := 0, sent := p.sent ++ [.brk p.brkPend], stat := p.stat ||| 0x20,
                                       lastTx := false } }))

/-- TELEMETRY_LINE: in S0 a port with TELEM_EN queues the line of the second (R455). -/
def Claims.TelemetryLineIsQueued : Prop :=
  ∀ (n : Fin 2) (s : State), s.live = true →
    (let p := s.sp.port n
     bit p.ctrl 9 = true → p.on s.dev = true → p.engine = true → p.telSec < s.dev.aonSec → s.dev.pstate = 0 → p.queue = [] →
     exec (.telemetryLine n) s = .next { s with
       sp := s.sp.setPort n { p with telSec := s.dev.aonSec, queue := [(false, telemetry s.dev s.th ++ [13, 10])] } })

/-- SERVICE_FRAME_TIMEOUT: more than 20 ms after its last byte a frame that no SOF but its own begins is discarded and counted (R457). -/
def Claims.StaleFrameIsDiscarded : Prop :=
  ∀ (n : Fin 2) (s : State), s.live = true →
    (let p := s.sp.port n
     p.exec = none → p.frame = [0x7E] → p.frameNs + 20000000 < s.dev.nowNs → p.rx = [] →
     ∃ t, exec (.serviceFrameTimeout n) s = .next t ∧ (t.sp.port n).frame = [] ∧ (t.sp.port n).svcBad = satAdd p.svcBad 1 ∧
       (t.sp.port n).exec = none ∧ t.dev = s.dev)

/-- READ32: the word read is the response (R459). -/
def Claims.ServiceReadAnswers : Prop :=
  ∀ (n : Fin 2) (m : RegEnv) (s : State) (fr : SvcFrame), s.live = true → s.svcReady n 1 fr = true →
    (let a := leAt fr.payload 0 4
     s.dev.addrRefusal a = none →
     exec (.read32 n m) s = .next
       ((s.read32 0 false a m).2.onPort n (svcAnswer fr 0 (leBytes 4 (s.read32 0 false a m).1.toNat))))

/-- WRITE32: the word is written, and the response carries STATUS 0 alone (R459). -/
def Claims.ServiceWriteAnswers : Prop :=
  ∀ (n : Fin 2) (m : RegEnv) (s : State) (fr : SvcFrame), s.live = true → s.svcReady n 2 fr = true →
    (let a := leAt fr.payload 0 4
     s.dev.addrRefusal a = none →
     exec (.write32 n m) s = .next ((s.write32 0 false a (w32 (leAt fr.payload 4 4)) m).onPort n (svcAnswer fr 0 [])))

/-- A misaligned ADDR, or with LOCK in effect one outside the blocks of R459, is refused with its code and nothing is read or written. -/
def Claims.ServiceAddressIsRefused : Prop :=
  ∀ (n : Fin 2) (m : RegEnv) (s : State) (fr : SvcFrame) (c : Nat), s.live = true → s.dev.addrRefusal (leAt fr.payload 0 4) = some c →
    (s.svcReady n 1 fr = true → exec (.read32 n m) s = .next (s.onPort n (svcAnswer fr c []))) ∧
    (s.svcReady n 2 fr = true → exec (.write32 n m) s = .next (s.onPort n (svcAnswer fr c [])))

/-- FLASH_READ: LEN bytes of the page from OFFSET are the response (R460). -/
def Claims.ServiceReadsFlash : Prop :=
  ∀ (n : Fin 2) (ev : PageEv) (s : State) (fr : SvcFrame) (bs : List Byte) (d' : Dev), s.live = true → s.svcReady n 3 fr = true →
    (let pg := leAt fr.payload 0 4
     leAt fr.payload 6 2 ≠ 0 → s.dev.svcRefusal 1 pg = none →
     s.dev.readPage pg (bit (w32 (leAt fr.payload 8 1)) 0 || inBoot pg) ev = (some bs, d') →
     exec (.flashRead n ev) s = .next
       (({ s with dev := d' }).onPort n (svcAnswer fr 0 ((bs.drop (leAt fr.payload 4 2)).take (leAt fr.payload 6 2)))))

/-- FLASH_PROGRAM: without FINAL the data enter the private buffer; with it the buffer is programmed to the page, in SLC mode where asked and with
ERASE after an erase of the page's block, and is empty again (R460). -/
def Claims.ServiceProgramsFlash : Prop :=
  ∀ (n : Fin 2) (s : State) (fr : SvcFrame), s.live = true → s.svcReady n 4 fr = true → s.dev.sec.lockUse = false →
    (let pg := leAt fr.payload 0 4
     let page := tabSetList flashDef s.sp.page (leAt fr.payload 4 2) (fr.payload.drop 7)
     let fl := leAt fr.payload 6 1
     (fl.testBit 1 = false → ∀ x y, exec (.flashProgram n x y) s = .next
       (({ s with sp := { s.sp with page := page } }).onPort n (svcAnswer fr 0 []))) ∧
     (fl.testBit 1 = true → fl.testBit 2 = false → s.dev.svcRefusal 2 pg = none → ∀ x, exec (.flashProgram n x true) s = .next
       (({ s with dev := s.dev.programPage pg (tabGetList flashDef page 0 16384) (fl.testBit 0), sp := { s.sp with page := [] } }).onPort n
         (svcAnswer fr 0 []))) ∧
     (fl.testBit 1 = true → fl.testBit 2 = true → s.dev.svcRefusal 3 pg = none → s.dev.svcRefusal 2 pg = none →
       exec (.flashProgram n true true) s = .next
       (({ s with dev := (s.dev.eraseBlock pg (fl.testBit 0)).programPage pg (tabGetList flashDef page 0 16384) (fl.testBit 0),
                  sp := { s.sp with page := [] } }).onPort n (svcAnswer fr 0 []))))

/-- TELEMETRY_NOW: the present line without CR LF is the response (R456). -/
def Claims.ServiceShowsTelemetry : Prop :=
  ∀ (n : Fin 2) (s : State) (fr : SvcFrame), s.live = true → s.svcReady n 6 fr = true →
    exec (.telemetryNow n) s = .next (s.onPort n (svcAnswer fr 0 (telemetry s.dev s.th)))

/-- BIST_RUN: a selection that the engine accepts starts its run, and the frame waits for the end (R497, R498, R504). -/
def Claims.ServiceStartsATest : Prop :=
  ∀ (n : Fin 2) (s : State) (fr : SvcFrame), s.live = true → s.svcReady n 5 fr = true →
    (let sel := leAt fr.payload 0 2
     sel ≠ 0 → s.dev.testOk (decide (sel % 8 ≠ 0)) = true →
     exec (.bistRun n) s = .next { s with
       dev := s.dev.testStart { busy := true, ran := s.dev.testSet sel, priv := none, port := some n },
       tap := { s.tap with refused := false, done := false, result := 0 },
       sp := s.sp.setPort n { s.sp.port n with exec := some { fr with begun := true } } })

/-- RESET: first the response is formed, and the reset waits (R461); with the transmitter idle it is applied, for KIND 1 as PORST_N,
for KIND 0 as a warm reset, after which the port takes further frames (R461, R465). -/
def Claims.ServiceResets : Prop :=
  ∀ (n : Fin 2) (env : BootEnv) (s : State) (fr : SvcFrame), s.live = true →
    (let p := s.sp.port n
     p.exec = some fr → fr.cmd = 7 → p.on s.dev = true →
     (fr.begun = false → exec (.svcReset n env) s = .next { s with
       sp := s.sp.setPort n { p with queue := p.queue ++ [(true, svcFrame 135 fr.seq [0, 0])], exec := some { fr with begun := true }, svcCnt := satAdd p.svcCnt 1 } }) ∧
     (fr.begun = true → p.quiet = true → leAt fr.payload 0 1 = 1 → exec (.svcReset n env) s = .next (s.porst env)) ∧
     (fr.begun = true → p.quiet = true → leAt fr.payload 0 1 ≠ 1 →
       exec (.svcReset n env) s = .next ((s.onDev (·.warm 4 false env)).onPort n svcDone)) ∧
     (fr.begun = true → p.quiet = false → exec (.svcReset n env) s = .next s))

end Clauses
end

