-- ==== Sys2Proof/Safety/ClausesPower.lean ====
section
/-! DEFINITION. Clauses of the statements about mappings, power states, operating points, thermal control and the security unit.
Each clause is named under Claims; Sys2Proof/Certificates/Slice0/Obligations.lean joins them into the statements. Where a clause says `= .next t` for a
whole state t, everything that t does not change is unchanged: the clause is its own frame. -/

section Clauses

open Sys2Proof Sys2Proof.Machine

/-! ## Mappings, power states and operating points (R341 to R372) -/

/-- MP_COMMIT: each tenant named whose table is not being fetched waits for the next edge (R347). -/
def Claims.MappingCommitIsPending : Prop :=
  ∀ (v : Word) (s : State), s.live = true → fld v 0 8 ≠ 0 →
    exec (.mpCommit v) s = .next (s.onDev fun d =>
      { d with map := { d.map with
          commit := (List.range 8).map (fun t => d.map.commit.getD t false || (bit v t && (d.map.fetched.getD t none).isNone)) } })

/-- A write of PW_REQ that nothing holds, of the present state's depth or deeper, is the request the next entry acts on (R350). -/
def Claims.PowerRequestsAreTaken : Prop :=
  ∀ s : State, s.live = true → s.dev.reqHeld = false → ∀ r ∈ [(Instr.requestS1Poise, 1), (.requestS2Rest, 2), (.requestS3Doze, 3),
      (.requestS4Deep, 4), (.requestS5Dormant, 5)],
    s.dev.pstate < r.2 → exec r.1 s = .next (s.onDev fun d => { d with pwr := { d.pwr with req := some r.2 } })

/-- A write of PW_REQ during a transition, a test or a Clearing waits for its end (R350, R406, R500). -/
def Claims.PowerRequestsAreHeld : Prop :=
  ∀ s : State, s.live = true → s.dev.reqHeld = true → ∀ r ∈ [(Instr.requestS1Poise, 1), (.requestS2Rest, 2), (.requestS3Doze, 3),
      (.requestS4Deep, 4), (.requestS5Dormant, 5)],
    s.dev.pstate ≤ r.2 → exec r.1 s = .next (s.onDev fun d => { d with pwr := { d.pwr with heldReq := some r.2 } })

/-- A request for a shallower state than the present one is refused and logged (R350). -/
def Claims.ShallowerRequestsAreRefused : Prop :=
  ∀ s : State, s.live = true → ∀ r ∈ [(Instr.requestS1Poise, 1), (.requestS2Rest, 2), (.requestS3Doze, 3), (.requestS4Deep, 4),
      (.requestS5Dormant, 5)],
    r.2 < s.dev.pstate → exec r.1 s = .next (s.onDev fun d => d.logC 0x7001 nodePower)

/-- HOST_WAKE: a write of 0 in S1 to S3, or during an entry, is a wake event (R350, Table 15-4). -/
def Claims.HostWakeWakes : Prop :=
  ∀ s : State, s.live = true → s.dev.entering = true ∨ (s.dev.reqHeld = false ∧ 1 ≤ s.dev.pstate ∧ s.dev.pstate ≤ 3) →
    exec .hostWake s = .next (s.onDev fun d => d.wake 7 false)

/-- STATE_ENTRY to S1: at an edge that is due, or where none can be, with no table running, the tiles' clocks are gated: the part is in S1, and
every memory keeps its contents (R352, Tables 15-2, 15-3). -/
def Claims.PoiseIsEntered : Prop :=
  ∀ (n : Nat) (failing : List (Nat × Bool)) (s : State), s.live = true → s.dev.pwr.heldReq = none → s.dev.pwr.req = some 1 →
    s.dev.entering = false → s.dev.exiting = false → s.dev.mayEnter = true → s.dev.pstate = 0 → 1 ≤ n →
    ∃ t, exec (.stateEntry n failing) s = .next t ∧ t.dev.pstate = 1 ∧ t.dev.entering = false ∧ t.dev.pwr.req = none ∧
      t.dev.pwr.gatedNs = some s.dev.nowNs ∧ t.dev.pwr.enterNs = s.dev.nowNs ∧ t.dev.tick.nxt = [] ∧ t.dev.mem = s.dev.mem ∧
      t.dev.tiles = s.dev.tiles ∧ t.dev.dram = s.dev.dram ∧ t.dev.flash = s.dev.flash ∧ t.sp = s.sp ∧ t.th = s.th

/-- STATE_ENTRY to S2: besides, with no prefetch, codec or REQ work left, the residency of instruction memory ends and FCLK falls to 200 MHz. -/
def Claims.RestIsEntered : Prop :=
  ∀ (n : Nat) (failing : List (Nat × Bool)) (s : State), s.live = true → s.dev.pwr.heldReq = none → s.dev.pwr.req = some 2 →
    s.dev.entering = false → s.dev.exiting = false → s.dev.mayEnter = true → s.dev.pstate = 0 → 4 ≤ n →
    s.dev.quiet = true →
    ∃ t, exec (.stateEntry n failing) s = .next t ∧ t.dev.pstate = 2 ∧ t.dev.entering = false ∧ t.dev.pwr.fclk = 200 ∧
      (∀ k < 64, (t.dev.tile k).resident = [] ∧ (t.dev.tile k).pre = none) ∧ t.dev.mem = s.dev.mem ∧ t.dev.dram = s.dev.dram ∧ t.dev.flash = s.dev.flash

/-- WAKE_PIN, SP0_BREAK_WAKE and WAKE_TIMER: an enabled source wakes the part from S1 to S5 (R357, Table 15-4). -/
def Claims.WakeSourcesWake : Prop :=
  ∀ s : State, s.live = true → s.dev.asleep 5 = true →
    (∀ pin, bit (s.dev.reg Reg.PW_WAKE_EN) (if pin then 4 else 3) = true →
      exec (.wakePin pin) s = .next (s.onDev fun d => d.wake (if pin then 4 else 3) false)) ∧
    (bit (s.dev.reg Reg.PW_WAKE_EN) 5 = true → exec .sp0BreakWake s = .next (s.onDev fun d => d.wake 5 false)) ∧
    (bit (s.dev.reg Reg.PW_WAKE_EN) 6 = true → 1 ≤ s.dev.pstate →
      s.dev.regN Reg.PW_WAKE_TIMER * 1000000000 ≤ (s.dev.nowNs - s.dev.pwr.enterNs) * 32768 →
      exec .wakeTimer s = .next (s.onDev fun d => d.wake 6 false))

/-- STATE_EXIT from S1 or S2: the part is in S0, its first edge is owed at the bound of R37 from the wake, and every memory keeps its contents
(R357, R358). -/
def Claims.ShallowStatesAreLeft : Prop :=
  ∀ (env : BootEnv) (s : State), s.live = true → s.dev.exiting = true → 1 ≤ s.dev.pstate → s.dev.pstate ≤ 2 →
    s.dev.pwr.heldReq = none → s.dev.pwr.resetAfter = none →
    ∃ t, exec (.stateExit env) s = .next t ∧ t.dev.pstate = 0 ∧ t.dev.exiting = false ∧
      t.dev.pwr.firstEdge = some (s.dev.pwr.wakeNs + exitBound s.dev.pstate) ∧ t.dev.mem = s.dev.mem ∧
      (∀ k, (s.dev.tile k).cur = none → t.dev.tile k = s.dev.tile k) ∧ t.dev.dram = s.dev.dram ∧ t.dev.flash = s.dev.flash

/-- STATE_EXIT from S3: the part is in S0 at OP15 and its first edge is owed; with nothing kept and no host access waiting, no memory changes (R263,
R356, R357). -/
def Claims.DozeIsLeft : Prop :=
  ∀ (env : BootEnv) (s : State), s.live = true → s.dev.exiting = true → s.dev.pstate = 3 →
    s.dev.pwr.heldReq = none → s.dev.pwr.resetAfter = none → s.dev.pwr.keep = [] → s.dev.host.bar2Wait = [] →
    ∃ t, exec (.stateExit env) s = .next t ∧ t.dev.pstate = 0 ∧ t.dev.exiting = false ∧
      t.dev.pwr.firstEdge = some (s.dev.pwr.wakeNs + exitBound 3) ∧ t.dev.opNow = 15 ∧ t.dev.mem = s.dev.mem ∧
      t.dev.dram.cells = s.dev.dram.cells ∧ t.dev.flash.cells = s.dev.flash.cells

/-- DRAM_READY_EVENT: once DRAM and flash are ready after an exit from S4, the spilled images and the keep list are restored, and
PW_STAT.MEM_OK tells it; with nothing spilled and nothing kept, memory is as it was (R361). -/
def Claims.MemoryIsRestoredAfterDeep : Prop :=
  ∀ (evs : List PageEv) (s : State), s.live = true → s.dev.pwr.exitFrom = 4 → s.dev.pstate = 0 → bit (s.dev.reg Reg.PW_STAT) 10 = false →
    s.dev.dram.ready = true → s.dev.pwr.spilled = [] → s.dev.pwr.keep = [] → s.dev.pwr.resetAfter = none →
    ∃ t, exec (.dramReadyEvent evs) s = .next t ∧ bit (t.dev.reg Reg.PW_STAT) 10 = true ∧ t.dev.flash.spillValid = false ∧
      t.dev.dram = s.dev.dram ∧ t.dev.mem = s.dev.mem

/-- OP_COMMIT: the shadow table waits for the next edge, and OP_STAT shows it (R362). -/
def Claims.OperatingPointsWait : Prop :=
  ∀ (v : Word) (s : State), s.live = true → bit v 0 = true →
    exec (.opCommit v) s = .next (s.onDev fun d => { d.orReg Reg.OP_STAT 1 with pwr := { d.pwr with opPend := true } })

/-- PLL_LOCK: an idle PLL locks; where a thermal level had put FCLK on the bypass, FCLK leaves it and the other PLL locks to the announced frequency
(R365). -/
def Claims.IdlePllLocks : Prop :=
  ∀ s : State, s.live = true → s.dev.pwr.pllLocked = false → s.dev.pstate ≤ 2 →
    (let bypass : Prop := s.dev.pstate ≠ 2 ∧ s.dev.pwr.fclk ≠ s.dev.pwr.pll ∧ s.dev.pwr.pll = (s.dev.opEntry s.dev.opNow).1 * 25
     (¬bypass → exec .pllLock s = .next (s.onDev fun d => { d with pwr := { d.pwr with pllLocked := true } })) ∧
     (bypass → exec .pllLock s = .next (s.onDev fun d =>
       let d1 := d.setFclk d.pwr.pll
       { d1 with pwr := { d1.pwr with pll := d.tick.annFclk, pllLocked := decide (d.pwr.pll = d.tick.annFclk) } })))

/-- AVS_READBACK: after SETTLE_US the rail is shown in mV; within 10 mV of the target the raise has succeeded (R366). -/
def Claims.RailIsReadBack : Prop :=
  ∀ (mv : BitVec 16) (s : State) (target since : Nat), s.live = true → s.dev.pwr.avsWait = some (target, since) →
    since + fld (s.dev.reg Reg.AVS_CFG) 0 8 * 1000 ≤ s.dev.nowNs → target ≤ mv.toNat + 10 →
    exec (.avsReadback mv) s = .next (s.onDev fun d =>
      { d.fldReg Reg.AVS_STAT 0 16 mv.toNat with pwr := { d.pwr with avsWait := none, avsHeld := false } })

/-- AVS_TIMEOUT: 1 ms after a raise without success, or when the third retry of its frame fails, it is logged, and the table runs at OP15 (R366). -/
def Claims.FailedRaiseRunsAtTheLowestPoint : Prop :=
  ∀ (retries : Bool) (s : State) (target since : Nat), s.live = true → s.dev.pwr.avsWait = some (target, since) →
    retries = true ∨ since + 1000000 ≤ s.dev.nowNs →
    exec (.avsTimeout retries) s = .next (s.onDev fun d =>
      let d1 := ((d.orReg Reg.AVS_STAT 0x20000).logC 0x7007 nodePower).fldReg Reg.CAP_STAT 4 4 15
      { d1 with pwr := { d1.pwr with avsWait := none, avsHeld := false, pll := (d1.opEntry 15).1 * 25, pllLocked := false } })

/-! ## Thermal control (R373 to R392) -/

/-- SAMPLING_INSTANT: a due sampling instant of S0 to S3 takes every sensor, the chip's temperature, PREF and the fan's target (R373 to R379,
R391): the tables, the level and every memory stay. -/
def Claims.SamplingTakesEverySensor : Prop :=
  ∀ (raw : List (BitVec 16)) (pref : BitVec 16) (s : State), s.live = true → s.dev.pstate ≤ 3 →
    s.th.sampled < (s.dev.nowNs - s.dev.porstNs) / 100000 →
    ∃ t, exec (.samplingInstant raw pref) s = .next t ∧ t.th.sampled = (s.dev.nowNs - s.dev.porstNs) / 100000 ∧
      t.th.theta = (thetaOf (s.dev.reg Reg.TH_SENSOR_EN) t.th.hist).1 ∧
      (∀ i, i < 16 → i < s.th.hist.length → t.th.hist.getD i [] =
        (sampleOf s.dev i (raw.getD i 0) :: s.th.hist.getD i []).take 5) ∧
      t.th.level = s.th.level ∧ t.th.judged = s.th.judged ∧ t.th.active = s.th.active ∧ t.dev.mem = s.dev.mem ∧ t.dev.dram = s.dev.dram

/-- IDLE_INSTANT: 10 ms after the last edge or idle instant the table, the guard and the level are judged (R382 to R385). -/
def Claims.IdleInstantJudges : Prop :=
  ∀ s : State, s.live = true → s.dev.pstate ≤ 3 → s.th.lastNs + 10000000 ≤ s.dev.nowNs → s.th.pend = false →
    ∃ t, exec .idleInstant s = .next t ∧ t.th = { s.th.judge (s.dev.reg Reg.TH_FORCE) with lastNs := s.dev.nowNs } ∧
      t.dev.mem = s.dev.mem ∧ t.dev.dram = s.dev.dram ∧ t.dev.tiles = s.dev.tiles

/-- TH_COMMIT: a write of 1 makes the shadow table wait, and changes nothing else (R382). -/
def Claims.ThermalCommitWaits : Prop :=
  ∀ (v : Word) (s : State), s.live = true → bit v 0 = true →
    exec (.thCommit v) s = .next { s with th := { s.th with pend := true } }

/-- THERMAL_TRIP: two comparisons at or above the trip code set the latch, put the fan at 100%, pull THERMTRIP_N low and take the supplies off
(R388, R389). -/
def Claims.TripSetsTheLatch : Prop :=
  ∀ (sensor : Fin 16) (c1 c2 : BitVec 16) (s : State), s.th.tripped = false → s.dev.pstate ≤ 3 →
    fld (s.dev.reg (Reg.CAL_SENS_B sensor)) 16 16 ≤ c1.toNat → fld (s.dev.reg (Reg.CAL_SENS_B sensor)) 16 16 ≤ c2.toNat →
    ∃ t, exec (.thermalTrip sensor c1 c2) s = .next t ∧ t.th.tripped = true ∧ t.th.duty = 100 ∧ t.dev.pins.tripN = false ∧
      t.dev.pins.corePwr = false ∧ t.dev.pins.dramPwr = false ∧ t.dev.pins.flashPwr = false ∧
      t.dev.reg Reg.TH_TRIP_LAST = w32 (0x80000000 + sensor) ∧ t.dev.flash = s.dev.flash

/-- A single comparison at or above it changes nothing (R388). -/
def Claims.OneComparisonDoesNotTrip : Prop :=
  ∀ (sensor : Fin 16) (c1 c2 : BitVec 16) (s : State),
    c1.toNat < fld (s.dev.reg (Reg.CAL_SENS_B sensor)) 16 16 ∨ c2.toNat < fld (s.dev.reg (Reg.CAL_SENS_B sensor)) 16 16 →
    exec (.thermalTrip sensor c1 c2) s = .next s

/-- FAN_TACH_WINDOW: the window's edges give the speed that FAN_STAT shows (R392). -/
def Claims.TachWindowShowsTheSpeed : Prop :=
  ∀ (edges : Nat) (s : State), s.live = true → s.dev.pstate ≤ 3 → s.th.winNs + 1000000000 ≤ s.dev.nowNs →
    (let rpm := min (edges * 60 / (fld (s.dev.reg Reg.FAN_CFG) 11 2 + 1)) 65535
     s.dev.regN Reg.FAN_MIN_RPM ≤ rpm →
     exec (.fanTachWindow edges) s = .next { s with
       dev := s.dev.fldReg Reg.FAN_STAT 16 16 rpm,
       th := { s.th with lowWin := 0, fanBad := false, dutyLow := decide (s.th.duty < 20),
                         winNs := if s.th.winNs + 2000000000 ≤ s.dev.nowNs then s.dev.nowNs else s.th.winNs + 1000000000 } })

/-- FAN_DUTY_FALL: FALL_MS after its last fall a duty above the target falls by one point (R391). -/
def Claims.DutyFallsByOne : Prop :=
  ∀ s : State, s.live = true → s.th.target < s.th.duty →
    s.th.fallNs + fld (s.dev.reg Reg.FAN_CFG) 16 16 * 1000000 ≤ s.dev.nowNs →
    exec .fanDutyFall s = .next { s with th := { s.th with
      duty := s.th.duty - 1, fallNs := s.dev.nowNs, dutyLow := s.th.dutyLow || decide (s.th.duty - 1 < 20) } }

/-! ## The security unit (R394 to R413) -/

/-- SEC_STAND_GO: the map in SEC_STAND_REQ waits for the next edge; a GO while one waits is dropped (R395). -/
def Claims.StandRequestWaits : Prop :=
  ∀ (v : Word) (s : State), s.live = true → bit v 0 = true →
    (s.dev.sec.standPend = false → exec (.secStandGo v) s = .next (s.onDev fun d =>
      { d with sec := { d.sec with standPend := true,
                                   standReq := (List.range 8).map (fun i => fld (d.reg Reg.SEC_STAND_REQ) (3 * i) 3) } })) ∧
    (s.dev.sec.standPend = true → exec (.secStandGo v) s = .next s)

/-- CLEARING_REQUEST: a tenant's Clearing waits; its instances leave the packed table; one that waits or runs already is refused and logged
(R406). -/
def Claims.ClearingIsRequested : Prop :=
  ∀ (v : Word) (s : State), s.live = true → bit v 31 = true → s.dev.sec.clear.length = 8 →
    (s.dev.sec.clear.getD (fld v 0 3) .idle = .idle → ∃ t, exec (.clearingRequest v) s = .next t ∧
      t.dev.sec.clear.getD (fld v 0 3) .idle = .waiting ∧ (∀ x ∈ t.dev.tick.nxt, x.tenant ≠ fld v 0 3) ∧ t.dev.mem = s.dev.mem ∧
      t.dev.dram = s.dev.dram ∧ t.dev.tiles = s.dev.tiles) ∧
    (s.dev.sec.clear.getD (fld v 0 3) .idle ≠ .idle →
      exec (.clearingRequest v) s = .next (s.onDev fun d => d.logT 0x8003 nodeSec (fld v 0 3)))

/-- CLEARING_ACCEPT: with the tenant idle, FCLK running and no power transition the Clearing is busy: no flit of the tenant is in flight any more, and the
memory contents stay (R406, R407). -/
def Claims.ClearingIsAccepted : Prop :=
  ∀ (n : Fin 8) (entropyFail : Bool) (s : State), s.live = true → s.dev.sec.clear.length = 8 → s.dev.sec.clear.getD n .idle = .waiting →
    s.dev.tenantIdle n = true → s.dev.entering = false → s.dev.exiting = false → s.dev.pstate ≤ 2 →
    (s.dev.sec.clearFl.getD n 0).testBit 0 = false →
    ∃ t, exec (.clearingAccept ⟨n, entropyFail⟩) s = .next t ∧ t.dev.sec.clear.getD n .idle = .busy ∧
      (∀ f ∈ t.dev.fab.inflight, tagTenant f.tag ≠ n.val) ∧ t.dev.mem = s.dev.mem ∧ t.dev.dram.cells = s.dev.dram.cells

/-- CLEARING_RELEASE: every scratchpad byte, counter and vector register of the tenant's stand reads 0, every other tile's is unchanged, and no
session of the tenant is enabled (R407). -/
def Claims.ClearingIsReleased : Prop :=
  ∀ (n : Fin 8) (s : State), s.live = true → s.dev.sec.clear.length = 8 → s.dev.sec.clear.getD n .idle = .busy →
    ∃ t, exec (.clearingRelease n) s = .next t ∧ t.dev.sec.clear.getD n .idle = .idle ∧
      (∀ k i, k < 64 → i < 2048 → t.dev.ctr k i = if s.dev.tileTenant k = n.val then 0 else s.dev.ctr k i) ∧
      (∀ k a, k < 64 → a < 524288 → s.dev.tileTenant k = n.val → t.dev.spadBytes k a 1 = [0]) ∧
      t.dev.hasSession n = false ∧ t.dev.flash = s.dev.flash

/-- GENERATE: the slot takes a key from the entropy source and is not provisioned; the other slots keep theirs (R402, R403, R405). -/
def Claims.KeyIsGenerated : Prop :=
  ∀ (slot : Fin 16) (s : State), s.live = true → s.dev.keyHeld slot = false → s.dev.sec.keys.length = 16 →
    ∃ t, exec (.keyGenerate slot false) s = .next t ∧ t.dev.sec.prov.getLsbD slot = false ∧
      t.dev.sec.keys.getD slot 0 = Config.entropy s.dev.freeCtr ∧
      (∀ k, k ≠ slot.val → t.dev.sec.keys.getD k 0 = s.dev.sec.keys.getD k 0) ∧ t.dev.mem = s.dev.mem ∧ t.dev.flash = s.dev.flash

/-- GENERATE that the entropy source fails: the command fails with SEC_ENTROPY_FAIL and the slot keeps its key (R403, R405). -/
def Claims.EntropyMayFail : Prop :=
  ∀ (slot : Fin 16) (s : State), s.live = true → s.dev.keyHeld slot = false →
    exec (.keyGenerate slot true) s = .next (s.onDev (·.keyFail 0x8007))

/-- A key whose tenant has an enabled session, a live instance or a plan step is not changed: the command fails with SEC_KEY_IN_USE (R403). -/
def Claims.HeldKeyIsKept : Prop :=
  ∀ (slot : Fin 16) (entropyFail : Bool) (s : State), s.live = true → s.dev.keyHeld slot = true →
    ∀ c ∈ [Instr.keyGenerate slot entropyFail, .keyUnwrap slot],
      exec c s = .next (s.onDev fun d => ((d.orReg Reg.SEC_KEY_STAT 0x20000).setReg Reg.SEC_KEY_ERR 0x8004).raise 0x8004 (atNode nodeSec))

/-- UNWRAP: where the device key (a free function of the blob) unwraps the blob to two different halves the slot holds that key and is provisioned;
otherwise the command fails with SEC_KEY_UNWRAP or SEC_KEY_BAD and nothing else changes. The other slots keep theirs (R403, R404). -/
def Claims.KeyIsUnwrapped : Prop :=
  ∀ (slot : Fin 16) (s : State), s.live = true → s.dev.keyHeld slot = false → s.dev.sec.keys.length = 16 →
    ∃ t, exec (.keyUnwrap slot) s = .next t ∧
      (∀ j, j ≠ slot.val → t.dev.sec.keys.getD j 0 = s.dev.sec.keys.getD j 0) ∧ t.dev.mem = s.dev.mem ∧
      match Config.keyUnwrap s.dev.blob with
      | none => t = s.onDev (·.keyFail 0x8005)
      | some k =>
        (fld k 0 256 = fld k 256 256 → t = s.onDev (·.keyFail 0x8006)) ∧
        (fld k 0 256 ≠ fld k 256 256 → t.dev.sec.keys.getD slot 0 = k ∧ t.dev.sec.prov.getLsbD slot = true)

/-- EXPORT: SEC_KEY_WRAP holds the slot's wrapped key; nothing else changes (R404). -/
def Claims.KeyIsExported : Prop :=
  ∀ (slot : Fin 16) (s : State), s.live = true →
    ∃ t, exec (.keyExport slot) s = .next t ∧
      (∀ i, i < 18 → t.dev.reg (Reg.SEC_KEY_WRAP i) = w32 ((Config.keyWrap (s.dev.sec.keys.getD slot 0)).toNat / 2 ^ (32 * i))) ∧
      t = { s with dev := { s.dev with regs := t.dev.regs } } ∧
      ∀ o, (∀ i, i < 18 → o ≠ Reg.SEC_KEY_WRAP i) → t.dev.reg o = s.dev.reg o

/-- PROG_ROOT, LOCK, DEBUG_DIS and ROLLBACK_INC blow their fuses where R412 does not refuse them; what is in effect changes only at the next power-on
reset. -/
def Claims.FusesAreBlown : Prop :=
  ∀ s : State, s.live = true →
    (s.dev.sec.rootHash = 0 → s.dev.sec.lockUse = false → exec .progRoot s = .next (s.onDev fun d => { d with sec := { d.sec with
      rootHash := BitVec.ofNat 384 (leNat ((List.range 12).flatMap (fun i => leBytes 4 (d.regN (Reg.SEC_ROOT_W i))))) } })) ∧
    (s.dev.sec.rootHash ≠ 0 → exec .fuseLock s = .next (s.onDev fun d => { d with sec := { d.sec with lock := true } })) ∧
    (exec .debugDis s = .next (s.onDev fun d => { d with sec := { d.sec with debugDis := true } })) ∧
    (s.dev.sec.rollback + 1 ≤ fld (s.dev.reg Reg.SEC_BOOT_STAT) 1 7 → s.dev.sec.rollback < 64 →
      exec .rollbackInc s = .next (s.onDev fun d => { d with sec := { d.sec with rollback := d.sec.rollback + 1 } }))

/-- A fuse action that R412 refuses is logged and blows nothing. -/
def Claims.FusesAreRefused : Prop :=
  ∀ s : State, s.live = true →
    (s.dev.sec.rootHash ≠ 0 ∨ s.dev.sec.lockUse = true → exec .progRoot s = .next (s.onDev fun d => d.logC 0x800C nodeSec)) ∧
    (s.dev.sec.rootHash = 0 → exec .fuseLock s = .next (s.onDev fun d => d.logC 0x800C nodeSec)) ∧
    (fld (s.dev.reg Reg.SEC_BOOT_STAT) 1 7 < s.dev.sec.rollback + 1 ∨ 64 ≤ s.dev.sec.rollback → exec .rollbackInc s = .next (s.onDev fun d => d.logC 0x800C nodeSec))

/-- The commands of the security unit. -/
def Claims.securityRows (v : Word) (n : Fin 8) (slot : Fin 16) (entropyFail : Bool) : List Instr :=
  [.secStandGo v, .clearingRequest v, .clearingAccept ⟨n, entropyFail⟩, .clearingRelease n, .keyGenerate slot entropyFail, .keyUnwrap slot, .keyExport slot,
   .progRoot, .fuseLock, .debugDis, .rollbackInc]

end Clauses
end

