-- ==== Sys2Proof/Safety/ClausesReset.lean ====
section
/-! DEFINITION. Clauses of the statements about resets, boot, the error log, numeric-mode tables, the test access port and the field tests.
Each clause is named under Claims; Sys2Proof/Certificates/Slice0/Obligations.lean joins them into the statements. Where a clause says `= .next t` for a
whole state t, everything that t does not change is unchanged: the clause is its own frame. -/

section Clauses

open Sys2Proof Sys2Proof.Machine

/-! ## Resets, boot, error log and numeric-mode tables (R164, R465 to R477, R487) -/

/-- PORST_N resets everything but the flash, the fuses and the always-on clock; the test access port resets with it, its cells kept (R465, R489). -/
def Claims.PowerOnResetTakesTheResetValues : Prop :=
  ∀ (env : BootEnv) (s : State),
    exec (.porstN env) s = .next { (s.porst env) with tap := { TapSt.reset with cells := s.tap.cells, captured := s.tap.captured } } ∧
    (s.porst env).sp = SpSt.reset ∧ (s.porst env).th = freshTh env s.dev.nowNs ∧
    s.dev.porReset.tick = { TickSt.reset with count := 0 } ∧ s.dev.porReset.tiles = [] ∧ s.dev.porReset.nowNs = s.dev.nowNs ∧
    s.dev.porReset.porstNs = s.dev.nowNs ∧ s.dev.porReset.sec.rootHash = s.dev.sec.rootHash ∧ s.dev.porReset.sec.lock = s.dev.sec.lock ∧
    s.dev.porReset.sec.lockUse = s.dev.sec.lock

/-- PERST_N in S0, with no wider reset's boot under way: the core reset with the host port's, then the boot of cause 1 (R465, R469). -/
def Claims.BusResetRebootsTheCore : Prop :=
  ∀ (env : BootEnv) (s : State), s.live = true → s.dev.outranked 1 = false → s.dev.pstate = 0 → s.dev.entering = false →
    s.dev.exiting = false → s.dev.pwr.exitFrom ≠ 4 →
    exec (.perstN env) s = .next (s.onDev fun d => (d.coreReset true).bootStart 1 false env)

/-- A write of RB_RESET with the key and WARM is a warm reset, without the table where SKIP_TABLE is set (R468). -/
def Claims.KeyedWriteIsAWarmReset : Prop :=
  ∀ (v : Word) (env : BootEnv) (s : State), s.live = true → fld v 16 16 = 0xA5C3 → bit v 0 = true → s.dev.outranked 2 = false →
    s.dev.pstate = 0 → s.dev.entering = false → s.dev.exiting = false → s.dev.pwr.exitFrom ≠ 4 →
    exec (.warmReset v env) s = .next (s.onDev fun d => (d.coreReset false).bootStart 2 (bit v 8) env)

/-- Without the key the write is dropped and logged (R468). -/
def Claims.WriteWithoutTheKeyIsDropped : Prop :=
  ∀ (v : Word) (env : BootEnv) (s : State), s.live = true → fld v 16 16 ≠ 0xA5C3 →
    exec (.warmReset v env) s = .next (s.onDev Dev.badAccess)

/-- The core reset keeps the tick counter, the stand map, the keys, the fuses, the power state and the time; no tile, no waiting edge of the boot, no
mapping and no Clearing request stays (R201, R402, R466, Table 20-3). -/
def Claims.CoreResetReach : Prop :=
  ∀ (bus : Bool) (d : Dev), (d.coreReset bus).tick.count = d.tick.count ∧ (d.coreReset bus).fab.stand = d.fab.stand ∧
    (d.coreReset bus).sec.keys = d.sec.keys ∧ (d.coreReset bus).sec.rootHash = d.sec.rootHash ∧
    (d.coreReset bus).sec.lockUse = d.sec.lockUse ∧ (d.coreReset bus).nowNs = d.nowNs ∧ (d.coreReset bus).tiles = [] ∧
    (d.coreReset bus).tick.valid = [] ∧ (d.coreReset bus).mem.acc = [] ∧ (d.coreReset bus).fab.inflight = []

/-- A write of RB_TILE_RST resets the tiles of its bits, one here; during a boot it does nothing (R467, R469). -/
def Claims.TileResetResetsItsTile : Prop :=
  ∀ (hi : Bool) (k : Fin 32) (s : State), s.live = true →
    (s.dev.booting = false → exec (.tileReset hi (BitVec.ofNat 32 (2 ^ k.val))) s = .next (s.onDev (·.tileReset (k.val + 32 * b2n hi)))) ∧
    (s.dev.booting = true → ∀ v, exec (.tileReset hi v) s = .next s)

/-- ERR_LOG_RD takes a value from ERR_LOG_WR − 1,024 to ERR_LOG_WR; another is dropped and logged (R487). -/
def Claims.LogPointerStaysInRange : Prop :=
  ∀ (v : Word) (s : State), s.live = true →
    ((s.dev.reg Reg.ERR_LOG_WR - v).toNat ≤ 1024 → exec (.errLogRdWrite v) s = .next (s.onDev (·.setReg Reg.ERR_LOG_RD v))) ∧
    (1024 < (s.dev.reg Reg.ERR_LOG_WR - v).toNat → exec (.errLogRdWrite v) s = .next (s.onDev Dev.badAccess))

/-- TL_NM_COMMIT: bit 0 asks for the commit at the next edge; without it nothing happens (R164). -/
def Claims.CommitWaitsForTheEdge : Prop :=
  ∀ (t : Fin 64) (v : Word) (s : State), s.live = true →
    (bit v 0 = true → exec (.tlNmCommit t v) s = .next (s.onDev (·.orReg (Reg.TL_NM_STAT t) 1))) ∧
    (bit v 0 = false → exec (.tlNmCommit t v) s = .next s)

/-- END: the boot ends with the whole table executed: BOOTING and STANDALONE as Table 20-7 has them, and no entry is left. -/
def Claims.EndEntryEndsTheBoot : Prop :=
  ∀ (s : State) (e : BootEntry), s.live = true → s.dev.bootAt 0 = some e →
    ∃ t, exec .bootEnd s = .next t ∧ t.dev.booting = false ∧ bit (t.dev.reg Reg.RB_STAT) 2 = true ∧
      bit (t.dev.reg Reg.RB_STAT) 1 = bit (s.dev.reg Reg.RB_STAT) 1 ∧ t.dev.boot.running = false ∧ t.dev.boot.entries = [] ∧
      t.dev.mem = s.dev.mem ∧ t.dev.flash = s.dev.flash ∧ t.sp = s.sp ∧ t.th = s.th

/-- WRITE32 writes B to offset A as the physical function, and the next entry follows (R473, R476). -/
def Claims.WriteEntryWrites : Prop :=
  ∀ (m : RegEnv) (s : State) (e : BootEntry), s.live = true → s.dev.bootAt 1 = some e → e.a % 4 = 0 →
    s.dev.reboots e.a (w32 e.b) = false →
    exec (.bootWrite32 m) s = .next ((s.write32 0 true e.a (w32 e.b) m).onDev Dev.bootDone)

/-- POLL32 reads once: it ends when (value AND B) = C, fails when TMO ms have passed since the first read, else waits (Table 20-6). -/
def Claims.PollEntryWaits : Prop :=
  ∀ (m : RegEnv) (s : State) (e : BootEntry) (v : Word) (s1 : State), s.live = true → s.dev.bootAt 2 = some e → e.a % 4 = 0 →
    s.read32 0 true e.a m = (v, s1) →
    (v &&& w32 e.b = w32 e.c → exec (.bootPoll32 m) s = .next (s1.onDev Dev.bootDone)) ∧
    (v &&& w32 e.b ≠ w32 e.c → s.dev.boot.waitNs.getD s.dev.nowNs + e.tmo * 1000000 ≤ s1.dev.nowNs →
      exec (.bootPoll32 m) s = .next (s1.onDev (·.bootFail 0xB003))) ∧
    (v &&& w32 e.b ≠ w32 e.c → s1.dev.nowNs < s.dev.boot.waitNs.getD s.dev.nowNs + e.tmo * 1000000 →
      exec (.bootPoll32 m) s = .next (s1.onDev fun d =>
        { d with boot := { d.boot with waitNs := some (s.dev.boot.waitNs.getD s.dev.nowNs) } }))

/-- DELAY ends A µs after it began (Table 20-6). -/
def Claims.DelayEntryWaits : Prop :=
  ∀ (s : State) (e : BootEntry), s.live = true → s.dev.bootAt 3 = some e →
    (∀ b, s.dev.boot.waitNs = some b → b + e.a * 1000 ≤ s.dev.nowNs → exec .bootDelay s = .next (s.onDev Dev.bootDone)) ∧
    (∀ b, s.dev.boot.waitNs = some b → s.dev.nowNs < b + e.a * 1000 → exec .bootDelay s = .next s) ∧
    (s.dev.boot.waitNs = none → 0 < e.a → exec .bootDelay s = .next (s.onDev fun d =>
      { d with boot := { d.boot with waitNs := some d.nowNs } }))

/-- LOAD copies its units in order and the envelope that they hold is judged: a verified one goes on, one that fails its checks goes on too and is
logged as unsigned where LOCK is clear, and ends the boot where LOCK is set or it is longer than what was copied (R477). -/
def Claims.LoadEntryLoads : Prop :=
  ∀ (evs : List PageEv) (s : State) (e : BootEntry) (d' : Dev), s.live = true → s.dev.bootAt 4 = some e → e.b ≠ 0 →
    s.dev.flash.ready = true → s.dev.dramReady = true → s.dev.outOfDram (e.c * 64) (e.b * 16384) = false →
    s.dev.loadUnits e evs e.b 0 = (true, d') →
    (let len := 256 + leNat (d'.dramBytes (e.c * 64 + 0xC) 4)
     let img := d'.dramBytes (e.c * 64) len
     let d1 :=
       if e.b * 16384 < len then d'.bootFail 0xB003
       else match d'.imageFault img with
         | none => d'.bootDone
         | some c => if d'.sec.lockUse = true then (d'.logC c nodeSec).bootFail 0xB003 else (d'.logC 0x800B nodeSec).bootDone
     exec (.bootLoad evs) s = .next { s with dev := d1 })

/-- LOAD of nothing goes on; without the flash ready it fails (R476, R477). -/
def Claims.LoadEntryFails : Prop :=
  ∀ (evs : List PageEv) (s : State) (e : BootEntry), s.live = true → s.dev.bootAt 4 = some e →
    (e.b = 0 → exec (.bootLoad evs) s = .next (s.onDev Dev.bootDone)) ∧
    (e.b ≠ 0 → s.dev.flash.ready = false →
      exec (.bootLoad evs) s = .next (s.onDev fun d => (d.raise 0x4001 (atNode nodeBoot)).bootFail 0xB003))

/-- COPY of one word of DRAM writes it to offset B, or with ALL_TILES to that offset of every tile's window (Table 20-6). -/
def Claims.CopyEntryCopies : Prop :=
  ∀ (dr : DramEv) (m : RegEnv) (s : State) (e : BootEntry) (d' : Dev), s.live = true → s.dev.bootAt 5 = some e → e.c ≠ 0 →
    s.dev.dramReady = true → s.dev.outOfDram (e.a * 64) (4 * e.c) = false →
    s.dev.readDram (e.a * 64) (4 * e.c) 0 none dr = (none, d') →
    exec (.bootCopy dr m) s = .next (({ s with dev := d' }).bootStore m (copyWords e (d'.dramBytes (e.a * 64) (4 * e.c)))) ∧
    (∀ bs, e.c = 1 → e.flags.testBit 0 = false → copyWords e bs = [(e.b, w32 (leAt bs 0 4))]) ∧
    (∀ bs, e.c = 1 → e.flags.testBit 0 = true →
      copyWords e bs = (List.range 64).map (fun t => (0x1000000 + t * 0x40000 + e.b, w32 (leAt bs 0 4))))

/-- VALIDATE validates fragments A to A + B − 1 in order, then the next entry follows (Table 20-6). -/
def Claims.ValidateEntryValidates : Prop :=
  ∀ (s : State) (e : BootEntry), s.live = true → s.dev.bootAt 6 = some e → s.dev.tick.fsOp = 0 →
    exec .bootValidate s = .next (s.onDev fun d => ((List.range e.b).foldl (fun d i => d.validate (e.a + i)) d).bootDone)

/-- A boot that has lasted RB_BOOT_TO ms, at least 10, fails with BOOT_TIMEOUT; before that nothing happens (R476). -/
def Claims.LongBootTimesOut : Prop :=
  ∀ s : State, s.live = true → s.dev.booting = true →
    (s.dev.boot.startNs + max (s.dev.regN Reg.RB_BOOT_TO) 10 * 1000000 ≤ s.dev.nowNs →
      exec .bootTimeout s = .next (s.onDev (·.bootFail 0xB005))) ∧
    (s.dev.nowNs < s.dev.boot.startNs + max (s.dev.regN Reg.RB_BOOT_TO) 10 * 1000000 → exec .bootTimeout s = .next s)

/-- When an entry has taken effect the next one that is not passed over follows; after the last the boot ends as at END (R476). -/
def Claims.EntriesFollowInOrder : Prop :=
  ∀ d : Dev, d.boot.running = true →
    (∀ x, d.boot.entries[d.boot.next + 1]? = some x → ((bootEntry x).flags.testBit 1 = false ∨ d.boot.cold = true) →
      (bootEntry x).ok = true → d.bootDone = { d with boot := { d.boot with next := d.boot.next + 1, waitNs := none } }) ∧
    (d.boot.entries.length = d.boot.next + 1 →
      d.bootDone = ({ d with boot := { d.boot with next := d.boot.next + 1, waitNs := none } } : Dev).bootEnd true)

/-! ## The test access port and the field tests (R489 to R505) -/

/-- TRST_N resets the port, its cells kept; a held core is let go through a power-on reset (R489, R494). -/
def Claims.PortResets : Prop :=
  ∀ (env : BootEnv) (s : State),
    (let tap := { TapSt.reset with cells := s.tap.cells, captured := s.tap.captured }
     (s.tap.held = false → exec (.trstN env) s = .next { s with tap := tap }) ∧
     (s.tap.held = true → exec (.trstN env) s = .next { (s.porst env) with tap := tap }))

/-- EXTEST, EXTEST_PULSE and EXTEST_TRAIN hold the core and change nothing in it; the cells take what is shifted in, and with all supplies in range
the balls are what is captured (R493, R494, R496). -/
def Claims.ExtestDrivesAndCaptures : Prop :=
  ∀ (pins cells : BitVec 1212) (env : BootEnv) (s : State) (c : Instr) (code ac : Nat),
    (c, code, ac) ∈ [(.tapExtest pins cells 7 env, 0, 0), (.extestPulse pins cells 7 env, 5, 1), (.extestTrain pins cells 7 env, 6, 2)] →
    ∃ t, exec c s = .next t ∧ t.dev = s.dev ∧ t.sp = s.sp ∧ t.th = s.th ∧ t.tap.ir = code ∧ t.tap.acTest = ac ∧ t.tap.held = true ∧
      t.tap.drLen = 1212 ∧ t.tap.cells = cells ∧ t.tap.captured = pins ∧ t.tap.drCap = pins.toNat ∧ t.tap.hiz = false

/-- SAMPLE_PRELOAD captures and loads the cells while the core runs on (R490, R493). -/
def Claims.SampleLeavesTheCore : Prop :=
  ∀ (pins cells : BitVec 1212) (env : BootEnv) (s : State), s.tap.held = false →
    ∃ t, exec (.samplePreload pins cells 7 env) s = .next t ∧ t.dev = s.dev ∧ t.sp = s.sp ∧ t.th = s.th ∧ t.tap.ir = 1 ∧
      t.tap.held = false ∧ t.tap.cells = cells ∧ t.tap.captured = pins ∧ t.tap.drCap = pins.toNat

/-- A cell whose supply is out of range captures nothing new (R494): with VDD_FIO, VDD_DDQ and VDD_SERDES all out, only the 34 of the always-on
supplies. -/
def Claims.UnsuppliedCellsKeep : Prop :=
  ∀ (pins cells : BitVec 1212) (env : BootEnv) (s : State) (i : Nat), i < 1212 →
    ∃ t, exec (.tapExtest pins cells 0 env) s = .next t ∧
      t.tap.captured.getLsbD i = if 1178 ≤ i then pins.getLsbD i else s.tap.captured.getLsbD i

/-- IDCODE captures 0x2726_09B3 in 32 bits (R492). -/
def Claims.IdcodeIsRead : Prop :=
  ∀ (env : BootEnv) (s : State), s.tap.held = false →
    ∃ t, exec (.tapIdcode env) s = .next t ∧ t.dev = s.dev ∧ t.sp = s.sp ∧ t.th = s.th ∧ t.tap.ir = 2 ∧ t.tap.drLen = 32 ∧
      t.tap.drCap = 0x272609B3 ∧ t.tap.cells = s.tap.cells

/-- CLAMP and HIGHZ hold the core with the bypass register selected; HIGHZ releases the outputs (R494). -/
def Claims.ClampAndHighzHold : Prop :=
  ∀ (env : BootEnv) (s : State) (c : Instr) (z : Bool), (c, z) ∈ [(Instr.tapClamp env, false), (Instr.tapHighz env, true)] →
    ∃ t, exec c s = .next t ∧ t.dev = s.dev ∧ t.tap.held = true ∧ t.tap.hiz = z ∧ t.tap.drLen = 1 ∧ t.tap.drCap = 0 ∧
      t.tap.cells = s.tap.cells

/-- A code outside the five that hold the core, loaded while it is held, resets the core as PORST_N does (R494). -/
def Claims.LeavingExtestResetsTheCore : Prop :=
  ∀ (code : BitVec 8) (env : BootEnv) (s : State), holdCode code.toNat = false → s.tap.held = true →
    ∃ t, exec (.leaveExtest code env) s = .next t ∧ t.dev = (s.porst env).dev ∧ t.sp = SpSt.reset ∧ t.th = freshTh env s.dev.nowNs ∧
      t.tap.held = false ∧ t.tap.ir = code.toNat ∧ t.tap.cells = s.tap.cells

/-- An unlisted code, BYPASS, or with DEBUG_DIS in effect a private one, selects one bit that captures 0 (R490, R491). -/
def Claims.UnlistedCodesBypass : Prop :=
  ∀ (code : BitVec 8) (env : BootEnv) (s : State), s.tap.held = false → drLength code.toNat s.dev.sec.dbgUse = 1 → holdCode code.toNat = false →
    ∃ t, exec (.tapBypass code env) s = .next t ∧ t.dev = s.dev ∧ t.sp = s.sp ∧ t.tap.drLen = 1 ∧ t.tap.drCap = 0 ∧
      t.tap.cells = s.tap.cells ∧ (0x43 ≤ code.toNat → drLength code.toNat false = 1)

/-- Which code has which register (Table 22-2). -/
def Claims.DataRegisterLengths : Prop :=
  ∀ dis : Bool, drLength 0 dis = 1212 ∧ drLength 1 dis = 1212 ∧ drLength 2 dis = 32 ∧ drLength 3 dis = 1 ∧ drLength 4 dis = 1 ∧
    drLength 5 dis = 1212 ∧ drLength 6 dis = 1212 ∧ drLength 0x10 dis = 40 ∧ drLength 0xFF dis = 1 ∧
    drLength 0x40 dis = (if dis then 1 else 64) ∧ drLength 0x41 dis = (if dis then 1 else 64) ∧ drLength 0x42 dis = (if dis then 1 else 64)

/-- FIELD_TEST captures TEST; an update with GO and the bits between clear starts a run at OP15 when the engine accepts it, and sets REFUSED when
it does not (R497, R498, R503). -/
def Claims.FieldTestStartsARun : Prop :=
  ∀ (v : BitVec 40) (env : BootEnv) (s : State), s.live = true → bit v 39 = true → fld v 16 23 = 0 → fld v 0 8 ≠ 0 →
    (s.dev.testOk (decide (fld v 0 8 % 8 ≠ 0)) = true →
      ∃ t, exec (.fieldTest v env) s = .next t ∧ t.tap.drCap = s.testWord ∧ t.tap.refused = false ∧ t.tap.done = false ∧ t.tap.result = 0 ∧
        t.dev = { s.dev.atOp15 with test := { busy := true, ran := s.dev.testSet (fld v 0 8), priv := none, port := none } } ∧
        t.sp = s.sp ∧ t.th = s.th) ∧
    (s.dev.testOk (decide (fld v 0 8 % 8 ≠ 0)) = false →
      ∃ t, exec (.fieldTest v env) s = .next t ∧ t.tap.drCap = s.testWord ∧ t.tap.refused = true ∧ t.dev = s.dev ∧ t.sp = s.sp)

/-- FIELD_TEST without GO only captures (R503). -/
def Claims.FieldTestShowsTheResult : Prop :=
  ∀ (v : BitVec 40) (env : BootEnv) (s : State), s.tap.held = false → bit v 39 = false →
    ∃ t, exec (.fieldTest v env) s = .next t ∧ t.dev = s.dev ∧ t.sp = s.sp ∧ t.th = s.th ∧ t.tap.drCap = s.testWord ∧ t.tap.drLen = 40 ∧
      t.tap.result = s.tap.result

/-- MBIST, LBIST and SERDES_LB with GO start the test of their unit when the engine accepts it, and DIAG captures what it held (R505). -/
def Claims.PrivateTestsStart : Prop :=
  ∀ (v : BitVec 64) (env : BootEnv) (s : State) (c : Instr) (code ran : Nat),
    (c, code, ran) ∈ [(.mbist v env, 0x40, 1), (.lbist v env, 0x41, 4), (.serdesLb v env, 0x42, 16)] →
    s.live = true → s.dev.sec.dbgUse = false → bit v 0 = true → privUnit code (fld v 8 8) = true →
    s.dev.testOk (decide (code ≠ 0x42)) = true → s.dev.privRuns code (fld v 8 8) = true → (code ≠ 0x42 ∨ fld v 16 8 ≠ 0) →
    ∃ t, exec c s = .next t ∧ t.tap.drCap = s.tap.diag.toNat ∧ t.tap.refused = false ∧ t.tap.done = false ∧
      t.dev = { s.dev.atOp15 with test := { busy := true, ran := ran, priv := some (code, fld v 8 8, fld v 16 8), port := none } } ∧
      t.sp = s.sp ∧ t.th = s.th

/-- With DEBUG_DIS in effect the private instructions are BYPASS and start nothing (R491). -/
def Claims.DebugDisHidesPrivateTests : Prop :=
  ∀ (v : BitVec 64) (env : BootEnv) (s : State) (c : Instr), c ∈ [.mbist v env, .lbist v env, .serdesLb v env] →
    s.dev.sec.dbgUse = true → s.tap.held = false →
    ∃ t, exec c s = .next t ∧ t.dev = s.dev ∧ t.sp = s.sp ∧ t.th = s.th ∧ t.tap.drLen = 1 ∧ t.tap.drCap = 0

/-- TEST_RUN_END of a run that the test access port asked for and that has no SENSORS: RESULT shows the tests that ran and those of them that failed,
with the lowest of these and its unit; after a test of memories or logic the rows are scrubbed (R499, R500). -/
def Claims.RunEndShowsTheResult : Prop :=
  ∀ (fails unit : BitVec 8) (diag : BitVec 64) (s : State), s.live = true → s.dev.test.busy = true → s.dev.test.priv = none →
    s.dev.test.port = none → s.dev.test.ran.testBit 7 = false → s.dev.test.ran < 256 → s.dev.pwr.heldReq = none →
    (∀ w, w = resultOf s.dev.test.ran (fails.toNat % 128) (if s.dev.test.ran &&& (fails.toNat % 128) = 0 then 0 else unit.toNat) →
      exec (.testRunEnd fails unit diag) s = .next { s with
        dev := { (if s.dev.test.ran % 8 = 0 then s.dev else s.dev.testScrub) with test := TestSt.idle },
        tap := { s.tap with done := true, result := w32 w } })

/-- RESULT: with no failure it is RAN alone; its parts read back (R499, Table 22-5). -/
def Claims.ResultParts : Prop :=
  ∀ ran fails unit : Nat, ran < 256 → unit < 256 →
    (ran &&& fails = 0 → resultOf ran fails unit = ran) ∧
    (ran &&& fails ≠ 0 → resultOf ran fails unit % 256 = ran ∧ resultOf ran fails unit / 256 % 256 = ran &&& fails ∧
      resultOf ran fails unit / 65536 % 256 = unit ∧ (ran &&& fails).testBit (resultOf ran fails unit / 16777216) = true ∧
      ∀ i, i < resultOf ran fails unit / 16777216 → (ran &&& fails).testBit i = false)

end Clauses
end

