-- ==== Sys2Proof/Safety/ClausesTick.lean ====
section
/-! DEFINITION. Clauses of the statements about the registers of BAR0, the tick unit, the composer and the fragment store, the sequencer, and the dispatch of queued instructions.
Each clause is named under Claims; Sys2Proof/Certificates/Slice0/Obligations.lean joins them into the statements. Where a clause says `= .next t` for a
whole state t, everything that t does not change is unchanged: the clause is its own frame. -/

section Clauses

open Sys2Proof Sys2Proof.Machine

/-! ## Registers and host accesses (R4 to R7, R53, R357) -/

/-- REGISTER_WRITE: a write of a register without an action of its own sets its RW fields, clears its W1C bits and leaves everything else, but
that the flits of an access to a tile's window are counted (R4, R11). -/
def Claims.RegisterWriteStores : Prop :=
  ∀ (fn : Fin 9) (off : BitVec 26) (v : Word) (m : RegEnv) (s : State) (r : RegSpec),
    s.hostReady = true → m.whole = true → off.toNat % 4 = 0 → s.dev.spot fn false off.toNat = some (.reg r) →
    (s.dev.hostFlits off.toNat true).plainWrite fn off.toNat v m = true →
    exec (.registerWrite fn off v m) s = .next (s.onDev fun d =>
      (d.hostFlits off.toNat true).setReg off.toNat (r.write ((d.hostFlits off.toNat true).reg off.toNat) v m.ev))

/-- A write of an unmapped offset is dropped and logged (R7). -/
def Claims.UnmappedWriteIsLogged : Prop :=
  ∀ (fn : Fin 9) (off : BitVec 26) (v : Word) (m : RegEnv) (s : State),
    s.hostReady = true → m.whole = true → off.toNat % 4 = 0 → s.dev.spot fn false off.toNat = none →
    exec (.registerWrite fn off v m) s = .next (s.onDev Dev.badAccess)

/-- A poisoned write is discarded and logged with 0x9002 (R38). -/
def Claims.PoisonedWriteIsDiscarded : Prop :=
  ∀ (fn : Fin 9) (off : BitVec 26) (v : Word) (m : RegEnv) (s : State), s.hostReady = true → m.poison = true → m.port = .clean →
    exec (.registerWrite fn off v m) s = .next (s.onDev fun d => (d.orReg Reg.HI_STAT 2).logS 0x9002
      { atNode nodeHost with tenant := if fn.val = 0 then none else some (fn.val - 1) })

/-- READ_CLEAR: a read of a register with RC fields returns its value and clears them, but for the bits that an event sets in the same cycle
(R6). -/
def Claims.ReadClearReturnsAndClears : Prop :=
  ∀ (fn : Fin 9) (off : BitVec 26) (m : RegEnv) (s : State) (r : RegSpec),
    s.hostReady = true → off.toNat % 4 = 0 → s.dev.spot fn false off.toNat = some (.reg r) →
    off.toNat ≠ Reg.TK_COUNT_LO → off.toNat ≠ Reg.PW_AON_TIME_LO → r.rc ≠ 0 → m.ecc = .clean → m.port = .clean →
    exec (.readClear fn off m) s = .next
      ((s.onDev fun d => (d.hostFlits off.toNat false).setReg off.toNat
          (r.afterRead ((d.hostFlits off.toNat false).reg off.toNat) m.ev)).answer
        (leBytes 4 (s.value fn off.toNat m.link (.reg r)).toNat))

/-- READ_CLEAR of a register without RC fields and without a latch returns its value and leaves it (R4). -/
def Claims.PlainReadReturns : Prop :=
  ∀ (fn : Fin 9) (off : BitVec 26) (m : RegEnv) (s : State) (r : RegSpec),
    s.hostReady = true → off.toNat % 4 = 0 → s.dev.spot fn false off.toNat = some (.reg r) →
    off.toNat ≠ Reg.TK_COUNT_LO → off.toNat ≠ Reg.PW_AON_TIME_LO → r.rc = 0 → m.ecc = .clean → m.port = .clean →
    exec (.readClear fn off m) s = .next
      ((s.onDev fun d => d.hostFlits off.toNat false).answer (leBytes 4 (s.value fn off.toNat m.link (.reg r)).toNat))

/-- TK_COUNT_READ: a read of TK_COUNT_LO returns the low half of the tick counter and latches the high half (R53). -/
def Claims.TickCountReadLatches : Prop :=
  ∀ s : State, s.hostReady = true → s.dev.booting = false →
    exec .tkCountRead s = .next
      ((s.onDev fun d => { d with tick := { d.tick with latchHi := w32 (d.tick.count / 2 ^ 32) } }).answer (leBytes 4 s.dev.tick.count))

/-- PW_AON_TIME_READ: a read of PW_AON_TIME_LO returns the low half of the always-on count and latches the high half (R357, Table 15-9). -/
def Claims.AlwaysOnTimeReadLatches : Prop :=
  ∀ s : State, s.hostReady = true → s.dev.booting = false →
    exec .pwAonTimeRead s = .next
      ((s.onDev fun d => d.setReg Reg.PW_AON_TIME_HI (w32 (d.aonCount / 2 ^ 32))).answer (leBytes 4 s.dev.aonCount))

/-- BAR0_IRREGULAR_ACCESS: a narrower or misaligned write is dropped whole, and logged (R7). -/
def Claims.NarrowWriteIsDropped : Prop :=
  ∀ (fn : Fin 9) (off : BitVec 26) (bs : List Byte) (m m2 : RegEnv) (s : State),
    s.hostReady = true → m.whole = true → ¬ (bs.length = 4 ∧ off.toNat % 4 = 0) → ¬ (bs.length = 8 ∧ off.toNat % 8 = 0) →
    exec (.bar0IrregularAccess fn off (.write bs) m m2) s = .next (s.onDev Dev.badAccess)

/-- A read of 1, 2 or 3 bytes within one mapped word returns its bytes and has no side effect (R7). -/
def Claims.NarrowReadHasNoSideEffect : Prop :=
  ∀ (fn : Fin 9) (off : BitVec 26) (n : Nat) (m m2 : RegEnv) (s : State) (x : Spot),
    s.hostReady = true → 1 ≤ n → off.toNat % 4 + n ≤ 4 → n ≠ 4 → s.dev.spot fn false (4 * (off.toNat / 4)) = some x → m.ecc = .clean →
    m.port = .clean →
    exec (.bar0IrregularAccess fn off (.read n) m m2) s = .next
      (s.answer (((leBytes 4 (s.value fn (4 * (off.toNat / 4)) m.link x).toNat).drop (off.toNat % 4)).take n))

/-- A naturally aligned 64-bit read is two 32-bit reads, the lower address first (R7). -/
def Claims.WideReadIsTwoReads : Prop :=
  ∀ (fn : Fin 9) (off : BitVec 26) (m m2 : RegEnv) (s : State), s.hostReady = true → m.port = .clean → off.toNat % 8 = 0 →
    exec (.bar0IrregularAccess fn off (.read 8) m m2) s = .next
      (let lo := s.read32 fn false off.toNat m
       let hi := lo.2.read32 fn false (off.toNat + 4) m2
       hi.2.answer (leBytes 4 lo.1.toNat ++ leBytes 4 hi.1.toNat))

/-- A naturally aligned 64-bit write is two 32-bit writes, the lower address first (R7). -/
def Claims.WideWriteIsTwoWrites : Prop :=
  ∀ (fn : Fin 9) (off : BitVec 26) (lo hi : Word) (m m2 : RegEnv) (s : State), s.hostReady = true → m.whole = true → off.toNat % 8 = 0 →
    exec (.bar0IrregularAccess fn off (.write (leBytes 4 lo.toNat ++ leBytes 4 hi.toNat)) m m2) s = .next
      ((s.write32 fn false off.toNat lo m).write32 fn false (off.toNat + 4) hi m2)

/-! ## The tick (R47 to R76) -/

/-- TICK_EDGE: an edge that is due and that nothing holds back is made (R14, R47). -/
def Claims.DueEdgeIsMade : Prop :=
  ∀ (env : EdgeEnv) (s : State), s.live = true → s.dev.edgeDue = true → s.dev.edgeFree = true →
    exec (.tickEdge env) s = .next (s.makeEdge env)

/-- HELD_REQUEST_DUE: a held request makes its edge from 0.85 P on (R50). -/
def Claims.HeldRequestMakesItsEdge : Prop :=
  ∀ (env : EdgeEnv) (s : State), s.live = true → s.dev.edgeFree = true → s.dev.tick.held = true → s.dev.tick.slipDue = none →
    s.dev.perNs * 17 ≤ s.dev.sinceEdge * 20 → exec (.heldRequestDue env) s = .next (s.makeEdge env)

/-- TICK_IN_REQUEST: the edge of the ball that TICKIN_FALL selects is a request, taken by the time since the previous edge (R47, R50); the other
edge only moves the ball. -/
def Claims.TickInRequestByTime : Prop :=
  ∀ (env : EdgeEnv) (s : State), s.live = true →
    (let s' := s.onDev fun d => { d with pins := { d.pins with tickIn := !d.pins.tickIn } }
     (bit s.dev.tick.ctrlUse 4 ≠ s.dev.pins.tickIn → exec (.tickInRequest env) s = .next s') ∧
     (bit s.dev.tick.ctrlUse 4 = s.dev.pins.tickIn → s'.dev.takesRequests 1 = true → s.dev.tick.started = true →
       exec (.tickInRequest env) s = .next
         (if s.dev.sinceEdge * 2 < s.dev.perNs then s'.onDev Dev.dropReq
          else if s.dev.sinceEdge * 20 < s.dev.perNs * 17 then
            s'.onDev fun d => { d with tick := { d.tick with fallback := false, srcLost := false, held := true } }
          else (s'.onDev Dev.acceptReq).edge env)))

/-- TK_KICK: a request of KICK likewise; a write of 0 asks nothing (R47, R50). -/
def Claims.KickByTime : Prop :=
  ∀ (v : Word) (env : EdgeEnv) (s : State), s.live = true → s.dev.takesRequests 2 = true → s.dev.tick.started = true →
    exec (.tkKick v env) s = .next
      (if v.getLsbD 0 = false then s
       else if s.dev.sinceEdge * 2 < s.dev.perNs then s.onDev Dev.dropReq
       else if s.dev.sinceEdge * 20 < s.dev.perNs * 17 then
         s.onDev fun d => { d with tick := { d.tick with fallback := false, srcLost := false, held := true } }
       else (s.onDev Dev.acceptReq).edge env)

/-- A dropped request only counts in TK_DROPPED. -/
def Claims.DroppedRequestIsCounted : Prop :=
  ∀ d : Dev, d.dropReq.reg Reg.TK_DROPPED = satAdd (d.reg Reg.TK_DROPPED) 1 ∧
    (∀ o, o ≠ Reg.TK_DROPPED → d.dropReq.reg o = d.reg o) ∧ d.dropReq = { d with regs := d.dropReq.regs }

/-- An accepted request that nothing holds back makes the edge. -/
def Claims.FreeEdgeIsMade : Prop :=
  ∀ (env : EdgeEnv) (s : State), s.dev.edgeFree = true → s.edge env = s.makeEdge env

/-- TICK_SRC_LOST: at 1.5 P without a request SRC_LOST is set and logged once; with FALLBACK 0 nothing else happens, with FALLBACK 1 the edge is
made on the internal timer (R51). -/
def Claims.SourceLossFallsBack : Prop :=
  ∀ (env : EdgeEnv) (s : State), s.live = true → s.dev.source = 1 → s.dev.tickOn = true → s.dev.pstate = 0 → s.dev.entering = false →
    s.dev.tick.fallback = false → s.dev.tick.held = false → s.dev.tick.slipDue = none → s.dev.booting = false →
    s.dev.perNs * 3 ≤ (s.dev.nowNs - s.dev.tick.timerNs) * 2 → s.dev.tick.srcLost = false →
    exec (.tickSrcLost env) s = .next
      (let d := s.dev.logC 0x0002 nodeTick
       let d := { d with tick := { d.tick with srcLost := true } }
       if (s.dev.logC 0x0002 nodeTick).tick.ctrlUse.getLsbD 2 then
         ({ s with dev := { d with tick := { d.tick with fallback := true } } }).edge env
       else { s with dev := d })

/-- TK_PERIOD_WRITE: a value in range is stored and waits for the next edge while the tick runs; a PERIOD_US of 0 cancels the packed table and
stops the tick at once; a value after 0 restarts it (R48, R49). A chip that follows a tick master only stores it (R52). -/
def Claims.PeriodWriteTakesEffect : Prop :=
  ∀ (p q : Nat) (s : State), s.live = true → 50 ≤ q → q ≤ 98 →
    ((s.dev.fromMaster s.dev.source && !s.dev.isMaster) = true → p = 0 ∨ (250 ≤ p ∧ p ≤ 40000) →
      exec (.tkPeriodWrite (w32 (p + q * 65536))) s = .next (s.onDev fun d => d.setReg Reg.TK_PERIOD (w32 (p + q * 65536)))) ∧
    ((s.dev.fromMaster s.dev.source && !s.dev.isMaster) = false →
    ((250 ≤ p ∧ p ≤ 40000 ∧ s.dev.tick.periodUse ≠ 0) →
      exec (.tkPeriodWrite (w32 (p + q * 65536))) s = .next (s.onDev fun d => d.setReg Reg.TK_PERIOD (w32 (p + q * 65536)))) ∧
    ((p = 0) →
      exec (.tkPeriodWrite (w32 (q * 65536))) s = .next (s.onDev fun d =>
        let d := (d.setReg Reg.TK_PERIOD (w32 (q * 65536))).cancelNext
        { d with tick := { d.tick with periodUse := 0, held := false, slipDue := none }, lk := { d.lk with due := none } })) ∧
    ((250 ≤ p ∧ p ≤ 40000 ∧ s.dev.tick.periodUse = 0) →
      exec (.tkPeriodWrite (w32 (p + q * 65536))) s = .next (s.onDev fun d =>
        let d := d.setReg Reg.TK_PERIOD (w32 (p + q * 65536))
        { d with tick := { d.tick with periodUse := p, pctUse := q, timerNs := d.nowNs, ctrlUse := d.reg Reg.TK_CTRL,
                                       fallback := false, srcLost := false, unsync := false } })))

/-- TABLE_FINISH: with the table finished, an edge that the overrun policy held occurs (R75). -/
def Claims.TableFinishMakesTheHeldEdge : Prop :=
  ∀ (env : EdgeEnv) (s : State), s.live = true → s.dev.tableRunning = false → s.dev.tick.started = true →
    (0xF001, 0) ∈ s.dev.tick.onced → s.dev.tick.slipDue.isSome = true → s.dev.edgeFree = true →
    exec (.tableFinish env) s = .next (s.makeEdge env)

/-- TABLE_FINISH of a table that no edge waits for: the tile clocks are gated from now on (R371) and nothing else happens. -/
def Claims.TableFinishGatesTheClocks : Prop :=
  ∀ (env : EdgeEnv) (s : State), s.live = true → s.dev.tableRunning = false → s.dev.tick.started = true →
    (0xF001, 0) ∉ s.dev.tick.onced → s.dev.tick.slipDue = none → s.dev.source ≠ 3 →
    exec (.tableFinish env) s = .next (s.onDev fun d =>
      { d with tick := { d.tick with onced := d.tick.onced ++ [(0xF001, 0)] },
               pwr := { d.pwr with gatedNs := some (d.pwr.gatedNs.getD d.nowNs) } })

/-- OVERRUN_ABORT: under ABORT a due edge halts and discards the running table, and the edge is made (R76). -/
def Claims.OverrunAbortsTheTable : Prop :=
  ∀ (env : EdgeEnv) (s : State), s.live = true → s.dev.edgeDue = true → s.dev.tableRunning = true → s.dev.tick.abort = true →
    s.dev.pwr.heldReq = none → s.dev.entering = false → s.dev.exiting = false → s.dev.pstate = 0 → s.dev.tickOn = true →
    s.dev.abortTable.pwr.req = none → s.dev.abortTable.edgeWaits = none → s.dev.isMaster = false →
    exec (.overrunAbort env) s = .next ((s.onDev Dev.abortTable).makeEdge env)

/-! ## The packing's end, the fragment store, rules and counters (R53, R55 to R57, R63, R71) -/

/-- TABLE_FINAL: 0.85 P after the edge the packed table is final; the length of a run of empty tables is counted (R71, R351). -/
def Claims.TableBecomesFinal : Prop :=
  ∀ s : State, s.live = true → s.dev.tick.started = true → s.dev.tick.final = false → s.dev.pstate = 0 → s.dev.tickOn = true →
    s.dev.perNs * 17 ≤ s.dev.sinceEdge * 20 → s.dev.tick.truncPend = false →
    exec .tableFinal s = .next (s.onDev fun d =>
      Dev.autoReq { d with tick := { d.tick with
        trunc := false, final := true, empties := if d.tick.nxt.isEmpty then d.tick.empties + 1 else 0 } })

/-- ALLOWANCE_SPENT: TK_STAT.TRUNC is set and TK_TRUNC counts the tick, once for a packing (R71). -/
def Claims.AllowanceSpentShowsTrunc : Prop :=
  ∀ s : State, s.live = true → s.dev.tick.truncPend = true → (0xF002, 0) ∉ s.dev.tick.onced →
    ∃ t, exec .allowanceSpent s = .next t ∧ t.dev.tick.trunc = true ∧ t.dev.reg Reg.TK_TRUNC = satAdd (s.dev.reg Reg.TK_TRUNC) 1 ∧
      (∀ o, o ≠ Reg.TK_TRUNC → t.dev.reg o = s.dev.reg o) ∧ t.dev.tick.cur = s.dev.tick.cur ∧ t.dev.tick.nxt = s.dev.tick.nxt ∧
      t.dev.mem = s.dev.mem ∧ t.dev.dram = s.dev.dram ∧ t.sp = s.sp ∧ t.th = s.th

/-- VALIDATE with no other command under way: the checks decide the valid bit of the next edge, PASS and LAST_ID; a failed check is logged (R55).
The fragment's images are resident no longer (R96). -/
def Claims.ValidateDecides : Prop :=
  ∀ (frag : BitVec 16) (s : State), s.live = true → s.dev.tick.fsOp = 0 →
    ∃ t, exec (.validate frag) s = .next t ∧
      (let r := (({ s.dev with tick := { s.dev.tick with fsOp := 0, lastId := frag.toNat } } : Dev).unload
         (fun i => decide (i = frag.toNat))).checkFrag frag.toNat
       t = s.onDev fun _ =>
         let d := r.2.setValid frag.toNat r.1
         let d := { d with tick := { d.tick with pass := r.1, lastId := frag.toNat } }
         if r.1 then d else d.logSev 0x0004 0 { atNode nodeComposer with frag := frag.toNat })

/-- INVALIDATE: at the next edge the fragment's valid bit is clear, and no other fragment's changes (R55); its images are resident no longer
(R96). -/
def Claims.InvalidateClearsOne : Prop :=
  ∀ (frag : BitVec 16) (s : State), s.live = true → s.dev.tick.fsOp = 0 →
    ∃ t, exec (.invalidate frag) s = .next t ∧ tabGet noValid t.dev.tick.validPend frag.toNat = some false ∧
      (∀ i, i ≠ frag.toNat → tabGet noValid t.dev.tick.validPend i = tabGet noValid s.dev.tick.validPend i) ∧
      t.dev = { s.dev.unload (fun i => decide (i = frag.toNat)) with
        tick := { s.dev.tick with lastId := frag.toNat, validPend := t.dev.tick.validPend } }

/-- INVALIDATE_ALL: at the next edge every valid bit that is set or pending is clear (R57). -/
def Claims.InvalidateAllClearsAll : Prop :=
  ∀ s : State, s.live = true → s.dev.tick.fsOp = 0 →
    ∃ t, exec .invalidateAll s = .next t ∧
      (∀ e, e ∈ s.dev.tick.valid → tabGet noValid t.dev.tick.validPend e.1 = some false) ∧
      (∀ e, e ∈ s.dev.tick.validPend → tabGet noValid t.dev.tick.validPend e.1 = some false) ∧
      t.dev.regs = s.dev.regs ∧ t.dev.dram = s.dev.dram ∧ t.dev.tick.cur = s.dev.tick.cur ∧ t.dev.tick.nxt = s.dev.tick.nxt

/-- TK_FSTORE_BASE_WRITE: dropped and logged while a valid bit is set or was at one of the last two edges, else stored (R57). -/
def Claims.FragmentStoreBaseWrite : Prop :=
  ∀ (hi : Bool) (v : Word) (s : State), s.live = true →
    exec (.tkFstoreBaseWrite hi v) s = .next (s.onDev fun d =>
      if d.storeHeld then d.logC 0x0005 nodeComposer
      else if hi then d.setReg Reg.TK_FSTORE_BASE_HI v else d.setReg Reg.TK_FSTORE_BASE_LO (v &&& 0xFFFFF000))

/-- TK_RULE_COMMIT: a write of 1 makes the next edge copy the shadow rules; nothing else happens until then (R63). -/
def Claims.RuleCommitWaitsForTheEdge : Prop :=
  ∀ (v : Word) (s : State), s.live = true →
    exec (.tkRuleCommit v) s = .next
      (if v.getLsbD 0 then s.onDev fun d => { d with tick := { d.tick with rulePend := true } } else s)

/-- At that edge the active rules are the shadow's first TK_RULE_COUNT (at most 256), and no commit is pending (R63). -/
def Claims.EdgeCopiesTheShadowRules : Prop :=
  ∀ d : Dev, d.storeEdge.tick.rulePend = false ∧
    d.storeEdge.tick.rules =
      if d.tick.rulePend then d.shadowRules (min (fld (d.reg Reg.TK_RULE_COUNT) 0 9) 256) else d.tick.rules

/-- TK_CNT_CLR: a write of 1 clears the six counters at 0x018 to 0x02C and nothing else. -/
def Claims.CounterClearClears : Prop :=
  ∀ (v : Word) (s : State), s.live = true → v.getLsbD 0 = true →
    ∃ t, exec (.tkCntClr v) s = .next t ∧
      (∀ o, t.dev.reg o = if o ∈ [Reg.TK_SLIP_TICKS, Reg.TK_SLIP_US, Reg.TK_SLIP_MAX_US, Reg.TK_ABORTS, Reg.TK_DROPPED, Reg.TK_TRUNC]
        then 0 else s.dev.reg o) ∧
      t.dev = { s.dev with regs := t.dev.regs, tick := { s.dev.tick with slipNs := 0 } }

/-! ## The sequencer (R92 to R100, R114, R115, R140) -/

/-- A row whose opcode is not the one at the PC, or of a tile that may not dispatch, changes nothing. -/
def Claims.OtherOpcodeChangesNothing : Prop :=
  ∀ (t : Fin 64) (ecc : SramEv) (s : State), ∀ p ∈ ctRows t ecc,
    s.dev.canDispatch t = false ∨ opOf (s.dev.wordAt t) ≠ p.2 → exec p.1 s = .next s

/-- An uncorrectable error of the instruction fetched halts the instance with SRAM_UE, and its image is no longer resident (R485). -/
def Claims.FetchErrorHalts : Prop :=
  ∀ (t : Fin 64) (s : State), s.live = true → ∀ p ∈ ctRows t .uncorrectable ++ queuedRows t (.dispatch .uncorrectable),
    s.dev.dispatches t p.2 = true → (s.dev.queueOf t p.2).length < 16 →
    exec p.1 s = .next (s.onDev fun d => (d.evict t).haltTile t 0x1011 (some (d.tile t).pc))

/-- An illegal encoding halts the instance with TILE_BAD_INSTR (R99, R111). -/
def Claims.IllegalEncodingHalts : Prop :=
  ∀ (t : Fin 64) (s : State), s.live = true → ∀ p ∈ ctRows t .clean ++ queuedRows t (.dispatch .clean),
    s.dev.canDispatch t = true → opOf (s.dev.wordAt t) = p.2 →
    (badEnc (s.dev.wordAt t) t || badLoop (s.dev.wordAt t) (s.dev.tile t).pc (s.dev.tile t).loops) = true →
    exec p.1 s = .next (s.onDev fun d => d.haltTile t 0x1001 (some (d.tile t).pc))

/-- An unassigned opcode halts the instance with TILE_BAD_INSTR (R140). -/
def Claims.UnassignedOpcodeHalts : Prop :=
  ∀ (t : Fin 64) (s : State), s.live = true → s.dev.canDispatch t = true → opAssigned (opOf (s.dev.wordAt t)) = false →
    exec (.unassignedOpcode t .clean) s = .next (s.onDev fun d => d.haltTile t 0x1001 (some (d.tile t).pc))

/-- NOP only moves the PC. -/
def Claims.NopAdvances : Prop :=
  ∀ (t : Fin 64) (ecc : SramEv) (s : State), s.live = true → ecc ≠ .uncorrectable → s.dev.dispatches t 0x00 = true →
    s.dev.inImage t ((s.dev.tile t).pc + 1) = true →
    ∃ s', exec (.nopOp t ecc) s = .next s' ∧
      (s.onDev (·.eccNoted t ecc)).TileBecomes t { s.dev.tile t with pc := (s.dev.tile t).pc + 1 } s'

/-- IX.SET, IX.ADD, IX.MOV and IX.MADD write their index register where the predicate holds, and the PC moves on (R88, R115). -/
def Claims.IndexInstructionsWrite : Prop :=
  ∀ (t : Fin 64) (ecc : SramEv) (s : State) (c : Instr) (op : Nat) (v : Word), s.live = true → ecc ≠ .uncorrectable →
    (let w := s.dev.wordAt t
     let ts := s.dev.tile t
     let src := if fld w 35 5 < 16 then ts.ix.getD (fld w 35 5) 0 else ts.p.getD (fld w 35 5 - 16) 0
     let old := ts.ix.getD (fld w 40 4) 0
     (c = .ixSet t ecc ∧ op = 0x05 ∧ v = w32 (fld w 0 32)) ∨ (c = .ixAdd t ecc ∧ op = 0x06 ∧ v = old + w32 (fld w 0 32)) ∨
     (c = .ixMov t ecc ∧ op = 0x07 ∧ v = src <<< fld w 32 3) ∨
     (c = .ixMadd t ecc ∧ op = 0x08 ∧ v = old + w32 (src.toNat * fld w 0 24))) →
    s.dev.dispatches t op = true → s.dev.inImage t ((s.dev.tile t).pc + 1) = true →
    ∃ s', exec c s = .next s' ∧
      (s.onDev (·.eccNoted t ecc)).TileBecomes t
        { s.dev.tile t with
          pc := (s.dev.tile t).pc + 1
          ix := if s.dev.predAt t then setAt (s.dev.tile t).ix (fld (s.dev.wordAt t) 40 4) v else (s.dev.tile t).ix } s'

/-- RDCLK writes the divided cycle count, and the instance is outside the guarantee from then on (R102, R115). -/
def Claims.RdclkWrites : Prop :=
  ∀ (t : Fin 64) (s : State) (i : Nat) (x : Inst), s.live = true → s.dev.dispatches t 0x09 = true → s.dev.predAt t = true →
    s.dev.inImage t ((s.dev.tile t).pc + 1) = true → (s.dev.tile t).cur = some i → s.dev.tick.cur[i]? = some x →
    exec (.rdclk t .clean) s = .next (s.onDev fun d =>
      let d := d.updTile t (fun ts => { ts with ix := setAt ts.ix (fld (s.dev.wordAt t) 40 4) (w32 (s.dev.divCycles t)) })
      let d := d.setInst i { x with outside := true }
      (d.setTile t { d.tile t with pc := (s.dev.tile t).pc + 1 }).settle t)

/-- LOOP enters its body with the counter set, or skips it when the count is 0 (R92, R114). -/
def Claims.LoopEntersOrSkips : Prop :=
  ∀ (t : Fin 64) (ecc : SramEv) (s : State), s.live = true → ecc ≠ .uncorrectable → s.dev.dispatches t 0x03 = true →
    (let w := s.dev.wordAt t
     let ts := s.dev.tile t
     let n := if !s.dev.predAt t then 0 else if w.getLsbD 40 then (ts.p.getD (fld w 24 4) 0).toNat else fld w 24 16
     let last := ts.pc + 1 + fld w 11 13
     s.dev.inImage t (if n = 0 then last + 1 else ts.pc + 1) = true →
     ∃ s', exec (.loopOp t ecc) s = .next s' ∧
       (s.onDev (·.eccNoted t ecc)).TileBecomes t
         { ts with
           lc := setAt ts.lc (fld w 41 3) (w32 n)
           loops := if n = 0 then ts.loops else { lc := fld w 41 3, top := ts.pc + 1, endAt := last, count := n } :: ts.loops
           pc := if n = 0 then last + 1 else ts.pc + 1 } s')

/-- ENDLOOP lowers the counter: back to the top while it is not 0, else on and out of the loop (R92). -/
def Claims.EndloopRepeatsOrLeaves : Prop :=
  ∀ (t : Fin 64) (ecc : SramEv) (s : State) (f : LoopFrame) (outer : List LoopFrame), s.live = true → ecc ≠ .uncorrectable →
    s.dev.dispatches t 0x04 = true → (s.dev.tile t).loops = f :: outer →
    (let ts := s.dev.tile t
     let v := ts.lc.getD f.lc 0 - 1
     s.dev.inImage t (if v = 0 then ts.pc + 1 else f.top) = true →
     ∃ s', exec (.endloop t ecc) s = .next s' ∧
       (s.onDev (·.eccNoted t ecc)).TileBecomes t
         { ts with lc := setAt ts.lc f.lc v, loops := if v = 0 then outer else ts.loops, pc := if v = 0 then ts.pc + 1 else f.top } s')

/-- TICKWAIT in an instance of several tiles: the tile waits, its ordinal counted (R97). -/
def Claims.TickwaitWaits : Prop :=
  ∀ (t : Fin 64) (ecc : SramEv) (s : State) (x : Inst), s.live = true → ecc ≠ .uncorrectable → s.dev.dispatches t 0x02 = true →
    s.dev.inImage t ((s.dev.tile t).pc + 1) = true → s.dev.instOf t = some x → popcountN 64 x.mask.toNat ≠ 1 →
    ∃ s', exec (.tickwait t ecc) s = .next s' ∧
      (s.onDev (·.eccNoted t ecc)).TileBecomes t
        { s.dev.tile t with align := true, aligns := (s.dev.tile t).aligns + 1, pc := (s.dev.tile t).pc + 1 } s'

/-- TICKWAIT_ALIGN: with every tile of the mask at its TICKWAIT of one ordinal, all complete, each as a ramp release (R97, R210). -/
def Claims.TickwaitAlignReleases : Prop :=
  ∀ (i : Nat) (x : Inst) (s : State), s.live = true → s.dev.tick.cur[i]? = some x → s.dev.aligned i x = true →
    exec (.tickwaitAlign i) s = .next (s.onDev fun d =>
      ((List.range 64).filter (fun t => x.mask.getLsbD t)).foldl
        (fun d t => (d.updTile t (fun ts => { ts with align := false })).ramp t) d)

/-- END: nothing more is dispatched; the tile's part ends with what it has under way (R98). -/
def Claims.EndDrains : Prop :=
  ∀ (t : Fin 64) (ecc : SramEv) (s : State), s.live = true → ecc ≠ .uncorrectable → s.dev.dispatches t 0x01 = true →
    ∃ s', exec (.endOp t ecc) s = .next s' ∧
      (s.onDev (·.eccNoted t ecc)).TileBecomes t { s.dev.tile t with drain := true } s'

/-- INSTANCE_START: a tile that runs nothing takes the next instance of the table in whose mask it lies: its registers are cleared, its
parameters and image are set, and dispatch waits for the code unless the image is resident (R83, R95). -/
def Claims.InstanceStarts : Prop :=
  ∀ (t : Fin 64) (s : State) (i : Nat) (x : Inst), s.live = true → nextInst s.dev.tick.cur t 0 = some (i, x) → s.dev.inRun = true →
    (s.dev.tile t).cur = none → (s.dev.tile t).inReset = false →
    (let c := s.dev.codeEntry x t
     let r := s.dev.readEntry x t (some i)
     let img : Resident := { frag := x.frag, base := c.2.2, len := c.2.1 }
     r.1 = none → (s.dev.tile t).resident.contains img = false → (s.dev.tile t).pre ≠ some img →
     ∃ s', exec (.instanceStart t) s = .next s' ∧ (s'.dev.tile t).cur = some i ∧ (s'.dev.tile t).loading = true ∧
       (s'.dev.tile t).ready = false ∧ (s'.dev.tile t).pc = c.2.2 ∧ (s'.dev.tile t).imgBase = c.2.2 ∧ (s'.dev.tile t).imgLen = c.2.1 ∧
       (s'.dev.tile t).ix = List.replicate 16 0 ∧ (s'.dev.tile t).lc = List.replicate 8 0 ∧ (s'.dev.tile t).loops = [] ∧
       (s'.dev.tile t).p = (x.params ++ List.replicate 16 0).take 16 ∧ (s'.dev.tile t).block = none ∧
       (s'.dev.tile t).cyc = 0 ∧ (∀ u, u ≠ t.val → s'.dev.tile u = r.2.tile u) ∧ s'.dev.mem = r.2.mem ∧
       s'.dev.dram = r.2.dram ∧ s'.dev.regs = r.2.regs ∧ s'.sp = s.sp ∧ s'.th = s.th)

/-- INSTANCE_START with a resident image, or one that the loader has preloaded: dispatch begins at once (R96). -/
def Claims.ResidentInstanceStarts : Prop :=
  ∀ (t : Fin 64) (s : State) (i : Nat) (x : Inst), s.live = true → nextInst s.dev.tick.cur t 0 = some (i, x) → s.dev.inRun = true →
    (s.dev.tile t).cur = none → (s.dev.tile t).inReset = false →
    (let c := s.dev.codeEntry x t
     let img : Resident := { frag := x.frag, base := c.2.2, len := c.2.1 }
     (s.dev.readEntry x t (some i)).1 = none → 0 < c.2.1 →
     ((s.dev.tile t).pre = some img ∨ ((s.dev.tile t).pre = none ∧ (s.dev.tile t).resident.contains img = true)) →
     ∃ s', exec (.instanceStart t) s = .next s' ∧ (s'.dev.tile t).cur = some i ∧ (s'.dev.tile t).loading = false ∧
       (s'.dev.tile t).ready = true ∧ (s'.dev.tile t).pc = c.2.2)

/-- CODE_LOAD_COMPLETE: the image's bytes are in instruction memory and dispatch begins at the image's load address (R95, R96); the flits of the
load are counted (R11). -/
def Claims.CodeLoadCompletes : Prop :=
  ∀ (t : Fin 64) (dr : DramEv) (s : State) (i : Nat) (x : Inst), s.live = true → (s.dev.tile t).cur = some i →
    s.dev.tick.cur[i]? = some x → (s.dev.tile t).loading = true → s.dev.inRun = true →
    (let r := s.dev.loadRead x t (some i) dr
     let c := r.2.codeEntry x t
     r.1 = none →
     exec (.codeLoadComplete t dr false) s = .next (s.onDev fun _ =>
       let d := (r.2.traffic ⟨2, 9⟩ (tileNode t) tyWR ((c.2.1 * 8 + 63) / 64)).traffic (tileNode t) ⟨2, 9⟩ tyWACK 1
       (d.setImem t (c.2.2 * 8) (d.dramBytes c.1 (c.2.1 * 8))).beginCode t c.2.2))

/-- CODE_LOAD_COMPLETE while an instance runs: the image of the tile's next instance is preloaded, where PRELOAD is set and the images do not
overlap (R96). -/
def Claims.CodeLoadPreloads : Prop :=
  ∀ (t : Fin 64) (dr : DramEv) (s : State) (i j : Nat) (x y : Inst), s.live = true → (s.dev.tile t).cur = some i →
    s.dev.tick.cur[i]? = some x → s.dev.inRun = true → (s.dev.tile t).loading = false → (s.dev.tile t).ready = true →
    (s.dev.tile t).preload = true → (s.dev.tile t).pre = none → s.dev.nextAfter t i = some (j, y) →
    (let c := s.dev.codeEntry y t
     let img : Resident := { frag := y.frag, base := c.2.2, len := c.2.1 }
     let r := s.dev.loadRead y t none dr
     (s.dev.tile t).resident.contains img = false → img.overlaps (s.dev.tile t).imgBase (s.dev.tile t).imgLen = false → r.1 = none →
     exec (.codeLoadComplete t dr false) s = .next (s.onDev fun _ =>
       (r.2.putImage y t).updTile t (fun ts => { ts with pre := some img })))

/-- WATCHDOG: past (WDOG_MULT + 1) × WC_CYCLES divided cycles the instance halts with TILE_WATCHDOG; up to them nothing happens (R100). -/
def Claims.WatchdogHalts : Prop :=
  ∀ (t : Fin 64) (s : State) (x : Inst), s.live = true → s.dev.instOf t = some x →
    exec (.watchdog t) s = .next
      (if ((s.dev.tile t).wdogMult + 1) * x.wc < s.dev.divCycles t then s.onDev (fun d => d.haltTile t 0x1003) else s)

/-- INSTANCE_COMMIT: once every tile of the mask has executed END the instance is committed; before, nothing happens (R74). -/
def Claims.InstanceCommits : Prop :=
  ∀ (i : Nat) (s : State) (x : Inst), s.live = true → s.dev.tick.cur[i]? = some x →
    (x.mask &&& ~~~ x.done = 0 → exec (.instanceCommit i) s = .next (s.onDev fun d => d.commitInst i)) ∧
    (x.mask &&& ~~~ x.done ≠ 0 → exec (.instanceCommit i) s = .next s)

/-! ## Queued instructions: dispatch (R78, R85, R88, R120) -/

/-- A queued instruction whose predicate holds enters the queue of its stream with the index registers as they are at dispatch; its
post-increments are applied and the PC moves on. -/
def Claims.QueuedInstructionEntersItsQueue : Prop :=
  ∀ (t : Fin 64) (s : State), s.live = true → ∀ p ∈ queuedRows t (.dispatch .clean),
    s.dev.dispatches t p.2 = true → s.dev.predAt t = true → (s.dev.queueOf t p.2).length < 16 →
    accOrder (s.dev.tile t) (s.dev.wordAt t) = false → p.2 ≠ 0x84 → p.2 ≠ 0x85 → s.dev.inImage t ((s.dev.tile t).pc + 1) = true →
    ∃ s', exec p.1 s = .next s' ∧
      (let ts := s.dev.tile t
       let w := s.dev.wordAt t
       let st := streamOf p.2
       s.TileBecomes t
         { ts with
           queues := setAt ts.queues st (s.dev.queueOf t p.2 ++
             [{ word := w, ix := ts.ix, first := firstSet ts, need := needOf ts w, pc := ts.pc }])
           disp := setAt ts.disp st (ts.disp.getD st 0 + 1)
           ix := postInc w ts.ix
           mxw := (accFlags ts w).1
           vxr := (accFlags ts w).2
           pc := ts.pc + 1 } s')

/-- Where the predicate does not hold only the post-increments are applied, and the PC moves on (R88). -/
def Claims.FalsePredicateOnlyIncrements : Prop :=
  ∀ (t : Fin 64) (s : State), s.live = true → ∀ p ∈ queuedRows t (.dispatch .clean),
    s.dev.dispatches t p.2 = true → s.dev.predAt t = false → s.dev.inImage t ((s.dev.tile t).pc + 1) = true →
    ∃ s', exec p.1 s = .next s' ∧
      s.TileBecomes t
        { s.dev.tile t with ix := postInc (s.dev.wordAt t) (s.dev.tile t).ix, pc := (s.dev.tile t).pc + 1 } s'

/-- A full queue of 16 holds dispatch: nothing changes (R78). -/
def Claims.FullQueueHoldsDispatch : Prop :=
  ∀ (t : Fin 64) (ecc : SramEv) (s : State), ∀ p ∈ queuedRows t (.dispatch ecc),
    s.dev.dispatches t p.2 = true → s.dev.predAt t = true → 16 ≤ (s.dev.queueOf t p.2).length → exec p.1 s = .next s

/-- An instruction that breaks the order of R120 halts the instance with TILE_ACC_ORDER. -/
def Claims.AccumulatorOrderHalts : Prop :=
  ∀ (t : Fin 64) (s : State), s.live = true → ∀ p ∈ queuedRows t (.dispatch .clean),
    s.dev.dispatches t p.2 = true → s.dev.predAt t = true → (s.dev.queueOf t p.2).length < 16 →
    accOrder (s.dev.tile t) (s.dev.wordAt t) = true →
    exec p.1 s = .next (s.onDev fun d => (d.haltTile t 0x1008 (some (d.tile t).pc)).settle t)

/-- SC.READ and WAIT.ANY enter the SY queue likewise; their index register is still to be written, and their instance stands outside the guarantee
(R85, R102). -/
def Claims.CounterReadersEnterTheirQueue : Prop :=
  ∀ (t : Fin 64) (s : State), s.live = true →
    ∀ p ∈ [((.scRead t (.dispatch .clean) : Instr), 0x84), (.waitAny t (.dispatch .clean), 0x85)],
    s.dev.dispatches t p.2 = true → s.dev.predAt t = true → (s.dev.queueOf t p.2).length < 16 → s.dev.inImage t ((s.dev.tile t).pc + 1) = true →
    ∃ s', exec p.1 s = .next s' ∧
      (let ts := s.dev.tile t
       let w := s.dev.wordAt t
       (s.onDev (·.flagOutside t)).TileBecomes t
         { ts with
           queues := setAt ts.queues 3 (s.dev.queueOf t p.2 ++
             [{ word := w, ix := ts.ix, first := firstSet ts, need := needOf ts w, pc := ts.pc }])
           disp := setAt ts.disp 3 (ts.disp.getD 3 0 + 1)
           ix := postInc w ts.ix
           pendIx := ts.pendIx ++ [fld w 40 4]
           mxw := (accFlags ts w).1
           vxr := (accFlags ts w).2
           pc := ts.pc + 1 } s')

end Clauses
end

