-- ==== Sys2Proof/Safety/ClausesTile.lean ====
section
/-! DEFINITION. Clauses of the statements about the instructions that a tile runs in its queues: the matrix and vector streams, data movement, synchronisation.
Each clause is named under Claims; Sys2Proof/Certificates/Slice0/Obligations.lean joins them into the statements. Where a clause says `= .next t` for a
whole state t, everything that t does not change is unchanged: the clause is its own frame. -/

section Clauses

open Sys2Proof Sys2Proof.Machine

/-! ## The matrix and vector streams (R116 to R125, R154 to R167, R210) -/

/-- MX.LDW loads the block at SA. -/
def Claims.MxLdwLoads : Prop :=
  ∀ (t : Fin 64) (s : State) (e : QEntry), s.live = true → s.dev.startsWith t 0x20 e = true → (s.dev.tile t).rampUntil = 0 →
    spCheck 64 [(saAddr e.word 25 e.ix, wfmtBytes (fld e.word 41 3))] = none →
    exec (.mxLdw t (.start .clean) none) s = .next (s.started t 0x20 fun d =>
      let f := fld e.word 41 3
      let blk : Block := { fmt := f, bytes := s.dev.spadBytes t (saAddr e.word 25 e.ix) (wfmtBytes f) }
      (d.updTile t (fun ts => { ts with block := some blk })).complete t 0)

/-- MX.MAC adds to, or sets, its rows of the accumulator store, one after the other. -/
def Claims.MxMacAccumulates : Prop :=
  ∀ (t : Fin 64) (s : State) (e : QEntry) (b : Block), s.live = true → s.dev.startsWith t 0x21 e = true →
    (s.dev.tile t).rampUntil = 0 → (s.dev.tile t).block = some b →
    (let w := e.word
     let af := fld w 38 3
     let sa := saAddr w 22 e.ix
     let add := decide (fld w 41 2 = 1) || (decide (fld w 41 2 = 2) && !e.first)
     spCheck 64 [(sa, fld w 15 7 * actBytes b.fmt af)] = none →
     macCheck s.dev t (some b) af (fld w 43 1) (fld w 9 6) (fld w 15 7) add = none →
     exec (.mxMac t (.start .clean) none) s = .next (s.started t 0x21 fun d =>
       ((List.range (fld w 15 7)).foldl (macOne t b af (fld w 43 1) (fld w 9 6) sa add) d).complete t 0))

/-- MX.MAC without a loaded block halts the instance with TILE_BAD_FORMAT (R117). -/
def Claims.MxMacNeedsABlock : Prop :=
  ∀ (t : Fin 64) (s : State) (e : QEntry), s.live = true → s.dev.startsWith t 0x21 e = true → (s.dev.tile t).rampUntil = 0 →
    (s.dev.tile t).block = none →
    spCheck 64 [(saAddr e.word 22 e.ix, fld e.word 15 7 * actBytes 0 (fld e.word 38 3))] = none →
    exec (.mxMac t (.start .clean) none) s = .next (s.started t 0x21 fun d => d.haltTile t 0x1007 (some e.pc))

/-- MX.CLR sets every row of its store to 0, tagged INT32. -/
def Claims.MxClrClears : Prop :=
  ∀ (t : Fin 64) (s : State) (e : QEntry), s.live = true → s.dev.startsWith t 0x22 e = true → (s.dev.tile t).rampUntil = 0 →
    exec (.mxClr t (.start .clean)) s = .next (s.started t 0x22 fun d =>
      ((List.range 64).foldl (fun d r => d.setAcc t (fld e.word 43 1) r false (List.replicate 64 0)) d).complete t 0)

/-- A row of an accumulator store holds what was last written to it, and its tag; every other row keeps what it held. -/
def Claims.AccumulatorRowsAreStored : Prop :=
  ∀ (d : Dev) (t a r t' a' r' : Nat) (fp : Bool) (ws : List Word), ws.length = 64 → a < 2 → r < 64 → a' < 2 → r' < 64 →
    (d.setAcc t a r fp ws).accRow t a r = ws ∧ (d.setAcc t a r fp ws).accIsFp t a r = fp ∧
    ((t', a', r') ≠ (t, a, r) → (d.setAcc t a r fp ws).accRow t' a' r' = d.accRow t' a' r' ∧
      (d.setAcc t a r fp ws).accIsFp t' a' r' = d.accIsFp t' a' r')

/-- VX.LD fills a vector register from the scratchpad. -/
def Claims.VxLdLoads : Prop :=
  ∀ (t : Fin 64) (s : State) (e : QEntry), s.live = true → s.dev.startsWith t 0x40 e = true →
    (let f := fld e.word 21 2
     let sa := saAddr e.word 23 e.ix
     spCheck 64 [(sa, vfmtBytes f)] = none →
     exec (.vxLd t (.start .clean) none) s = .next (s.started t 0x40 fun d =>
       (d.setVec t (fld e.word 39 5) (vxLoad f (s.dev.spadBytes t sa (vfmtBytes f)))).complete t 1))

/-- VX.ST stores a vector register to the scratchpad, narrowed, and notes what the conversion met. -/
def Claims.VxStStores : Prop :=
  ∀ (t : Fin 64) (s : State) (e : QEntry), s.live = true → s.dev.startsWith t 0x41 e = true →
    (let f := fld e.word 21 2
     let sa := saAddr e.word 23 e.ix
     let r := vxStore (s.dev.ftz t) f (s.dev.vec t (fld e.word 39 5))
     spCheck 64 [(sa, vfmtBytes f)] = none →
     exec (.vxSt t (.start .clean) none) s = .next (s.started t 0x41 fun d =>
       ((d.setSpad t sa r.1).numStat t r.2).complete t 1))

/-- VX.ALU, VX.CURVE, VX.RED, VX.BCAST and VX.ACC write one vector register with what their function gives, and note its flags. -/
def Claims.VectorResultsAreWritten : Prop :=
  ∀ (t : Fin 64) (s : State) (e : QEntry) (c : Instr) (op v : Nat) (r : List Word × Nat), s.live = true →
    (let w := e.word
     let d := s.dev
     (c = .vxAlu t (.start .clean) ∧ op = 0x42 ∧ v = fld w 33 5 ∧
       r = vxAlu (d.ftz t) (bit w 17) (fld w 38 6) (d.vec t (fld w 28 5)) (d.vec t (fld w 23 5)) (d.vec t (fld w 18 5))) ∨
     (c = .vxCurve t (.start .clean) ∧ op = 0x43 ∧ v = fld w 36 5 ∧
       r = lanesOf ((d.vec t (fld w 31 5)).map (curveLane (d.ftz t) (d.nm t) (fld w 41 3)))) ∨
     (c = .vxRed t (.start .clean) ∧ op = 0x44 ∧ v = fld w 37 5 ∧ r = vxRed (d.ftz t) (fld w 42 2) (d.vec t (fld w 32 5))) ∨
     (c = .vxBcast t (.start .clean) ∧ op = 0x45 ∧ v = fld w 39 5 ∧
       r = (List.replicate 64 ((d.vec t (fld w 34 5)).getD (fld w 28 6) 0), 0)) ∨
     (c = .vxAcc t (.start .clean) ∧ op = 0x48 ∧ v = fld w 39 5 ∧ r = (d.accRow t (fld w 38 1) (fld w 32 6), 0))) →
    s.dev.startsWith t op e = true →
    exec c s = .next (s.started t op fun d => ((d.setVec t v r.1).numStat t r.2).complete t 1)

/-- VX.SORT writes the sorted keys and their lane numbers; VX.TOPK keeps the first K of each, and with K = 0 changes no register (R124). -/
def Claims.SortsAreWritten : Prop :=
  ∀ (t : Fin 64) (s : State) (e : QEntry), s.live = true →
    (let w := e.word
     let r := vxSort (bit w 27) (bit w 28) (s.dev.vec t (fld w 29 5))
     let k := fld w 20 7
     (s.dev.startsWith t 0x46 e = true →
       exec (.vxSort t (.start .clean)) s = .next (s.started t 0x46 fun d =>
         ((d.setVec t (fld w 39 5) r.1).setVec t (fld w 34 5) r.2).complete t 1)) ∧
     (s.dev.startsWith t 0x47 e = true →
       exec (.vxTopk t (.start .clean)) s = .next (s.started t 0x47 fun d =>
         if k = 0 then d.complete t 1
         else ((d.setVec t (fld w 39 5) (keepK k r.1)).setVec t (fld w 34 5) (keepK k r.2)).complete t 1)))

/-- VX.DEQ writes its rows, converted and scaled, to the scratchpad, where its scales and its first row lie in different banks (R125, R148). -/
def Claims.VxDeqStores : Prop :=
  ∀ (t : Fin 64) (s : State) (e : QEntry), s.live = true → s.dev.startsWith t 0x49 e = true →
    (let w := e.word
     let rows := fld w 4 7
     let o := fld w 2 2
     let dst := saAddr w 27 e.ix
     let scl := saAddr w 11 e.ix
     spCheck 64 [(dst, rows * deqRowBytes o), (scl, if rows = 0 then 0 else 256)] = none →
     selfHits (deqUse dst scl (deqRowBytes o) rows) = [] →
     exec (.vxDeq t (.start .clean) none) s = .next (s.started t 0x49 fun d =>
       ((List.range rows).foldl (deqOne t (fld w 43 1) dst o (words (s.dev.spadBytes t scl 256))) d).complete t 1))

/-- VX.DEQ whose last scale line and first row share a bank, after the first conflict of the instance has been logged, under DELAY: the rows are
written all the same, and the delayed access is counted (R148, R149). -/
def Claims.VxDeqIsDelayed : Prop :=
  ∀ (t : Fin 64) (s : State) (e : QEntry) (i : Nat), s.live = true → s.dev.startsWith t 0x49 e = true →
    (s.dev.tile t).cur = some i → (s.dev.tile t).confHalt = false → (s.dev.tile t).confSeen = true →
    (let w := e.word
     let rows := fld w 4 7
     let o := fld w 2 2
     let dst := saAddr w 27 e.ix
     let scl := saAddr w 11 e.ix
     let hits := selfHits (deqUse dst scl (deqRowBytes o) rows)
     spCheck 64 [(dst, rows * deqRowBytes o), (scl, if rows = 0 then 0 else 256)] = none → hits ≠ [] →
     exec (.vxDeq t (.start .clean) none) s = .next (s.started t 0x49 fun d =>
       ((List.range rows).foldl (deqOne t (fld w 43 1) dst o (words (s.dev.spadBytes t scl 256)))
         (d.incReg (Reg.TL_CONFLICT_CNT t) hits.length)).complete t 1))

/-- A scratchpad access that fails a check of R110 halts the instance with the check's code and moves nothing. -/
def Claims.ScratchpadCheckHalts : Prop :=
  ∀ (t : Fin 64) (s : State) (e : QEntry) (c : Instr) (op sa n code : Nat), s.live = true →
    ((c = .mxLdw t (.start .clean) none ∧ op = 0x20 ∧ sa = saAddr e.word 25 e.ix ∧ n = wfmtBytes (fld e.word 41 3) ∧
       (s.dev.tile t).rampUntil = 0) ∨
     (c = .vxLd t (.start .clean) none ∧ op = 0x40 ∧ sa = saAddr e.word 23 e.ix ∧ n = vfmtBytes (fld e.word 21 2)) ∨
     (c = .vxSt t (.start .clean) none ∧ op = 0x41 ∧ sa = saAddr e.word 23 e.ix ∧ n = vfmtBytes (fld e.word 21 2))) →
    s.dev.startsWith t op e = true → spCheck 64 [(sa, n)] = some code →
    exec c s = .next (s.started t op fun d => d.haltTile t code (some e.pc))

/-! ## The data-movement stream (R79, R126 to R133, R152) -/

/-- DM.MOVE within the tile copies its lines in ascending order, each read as it stands when it is reached (R126, R522), where no line shares a
bank with the one it is copied to. -/
def Claims.DmMoveCopiesLocally : Prop :=
  ∀ (t : Fin 64) (s : State) (e : QEntry), s.live = true → s.dev.startsWith t 0x60 e = true →
    (let sa := saAddr e.word 6 e.ix
     let da := saAddr e.word 22 e.ix
     let n := fld e.word 0 6 * 64
     fld e.word 38 6 = t.val → s.dev.dmFree t [linesOf sa n] [linesOf da n] 0 = true →
     spCheck 64 [(sa, n), (da, n)] = none → selfHits (copyUse true (lineRows sa da n)) = [] →
     exec (.dmMove t (.start .clean) none) s = .next (s.started t 0x60 fun d =>
       ((List.range (n / 64)).foldl (fun d i => d.setSpad t (da + i * 64) (d.spadBytes t (sa + i * 64) 64)) d).addDm t
         (dmOp (s.dev.dmOrd t) e.pc)))

/-- DM.MOVE to another tile of its stand sends one write transfer of its lines (R172). -/
def Claims.DmMoveSendsALocalCopy : Prop :=
  ∀ (t : Fin 64) (s : State) (e : QEntry), s.live = true → s.dev.startsWith t 0x60 e = true →
    (let u := fld e.word 38 6
     let sa := saAddr e.word 6 e.ix
     let da := saAddr e.word 22 e.ix
     let n := fld e.word 0 6 * 64
     u ≠ t.val → n ≠ 0 → s.dev.sameStand t u = true → s.dev.dmFree t [linesOf sa n] [] 1 = true →
     spCheck 64 [(sa, n), (da, n)] = none →
     exec (.dmMove t (.start .clean) none) s = .next (s.started t 0x60 fun d =>
       (d.transfer t (s.dev.dmOrd t) (tileNode u) (0, 0) 1 none (da / 64)
         ((lineRows sa da n).flatMap (fun r => d.spadLines t r.src 64 (r.dst / 64)))).addDm t (dmOp (s.dev.dmOrd t) e.pc)))

/-- A move to or from a tile of another tenant's stand halts the instance with FIREBREAK (R133). -/
def Claims.DmMoveHonoursTheStand : Prop :=
  ∀ (t : Fin 64) (s : State) (e : QEntry), s.live = true → s.dev.startsWith t 0x60 e = true →
    (let u := fld e.word 38 6
     let sa := saAddr e.word 6 e.ix
     let da := saAddr e.word 22 e.ix
     let n := fld e.word 0 6 * 64
     u ≠ t.val → s.dev.sameStand t u = false → s.dev.dmFree t [linesOf sa n] [] 1 = true → spCheck 64 [(sa, n), (da, n)] = none →
     exec (.dmMove t (.start .clean) none) s = .next (s.started t 0x60 fun d => d.haltTile t 0x8001 (some e.pc)))

/-- DM.MOVE.RD requests its lines of the other tile, at most 64 lines a request; they land from DSA on. -/
def Claims.DmMoveRdRequests : Prop :=
  ∀ (t : Fin 64) (s : State) (e : QEntry), s.live = true → s.dev.startsWith t 0x61 e = true →
    (let u := fld e.word 38 6
     let sa := saAddr e.word 22 e.ix
     let da := saAddr e.word 6 e.ix
     let n := fld e.word 0 6 * 64
     s.dev.sameStand t u = true → s.dev.dmFree t [] [linesOf da n] 0 = true → spCheck 64 [(sa, n), (da, n)] = none →
     exec (.dmMoveRd t (.start .clean)) s = .next (s.started t 0x61 fun d =>
       d.addDm t { dmOp (s.dev.dmOrd t) e.pc with
                   todo := rdJobs (fun _ => tileNode u) (sa / 64) (n / 64) (da / 64), land := [linesOf da n] }))

/-- DM.MOVE.DS requests its lines of DRAM, in the stand of the tile. -/
def Claims.DmMoveDsRequests : Prop :=
  ∀ (t : Fin 64) (s : State) (e : QEntry), s.live = true → s.dev.startsWith t 0x62 e = true →
    (let a := ixAt e.ix (fld e.word 40 4)
     let sa := saAddr e.word 21 e.ix
     let n := fld e.word 9 12 * 64
     s.dev.dmFree t [] [linesOf sa n] 0 = true → spCheck 64 [(sa, n)] = none → s.dev.dramCheck t a n true = none →
     exec (.dmMoveDs t (.start .clean)) s = .next (s.started t 0x62 fun d =>
       d.addDm t { dmOp (s.dev.dmOrd t) e.pc with todo := rdJobs d.dramNode a (n / 64) (sa / 64), land := [linesOf sa n] }))

/-- DM.MOVE.SD sends its lines to DRAM, in the stand of the tile. -/
def Claims.DmMoveSdSends : Prop :=
  ∀ (t : Fin 64) (s : State) (e : QEntry), s.live = true → s.dev.startsWith t 0x63 e = true →
    (let a := ixAt e.ix (fld e.word 40 4)
     let sa := saAddr e.word 21 e.ix
     let n := fld e.word 9 12 * 64
     s.dev.dmFree t [linesOf sa n] [] (sdTx a n) = true → spCheck 64 [(sa, n)] = none → s.dev.dramCheck t a n false = none →
     exec (.dmMoveSd t (.start .clean) none) s = .next (s.started t 0x63 fun d =>
       (d.toDram t (s.dev.dmOrd t) sa a n).addDm t (dmOp (s.dev.dmOrd t) e.pc)))

/-- A DRAM access beyond the installed capacity, or outside the stand, halts the instance (R110, R133). -/
def Claims.DramChecksHalt : Prop :=
  ∀ (t : Fin 64) (s : State) (e : QEntry) (code : Nat), s.live = true →
    (let a := ixAt e.ix (fld e.word 40 4)
     let sa := saAddr e.word 21 e.ix
     let n := fld e.word 9 12 * 64
     spCheck 64 [(sa, n)] = none →
     (s.dev.startsWith t 0x62 e = true → s.dev.dmFree t [] [linesOf sa n] 0 = true → s.dev.dramCheck t a n true = some code →
       exec (.dmMoveDs t (.start .clean)) s = .next (s.started t 0x62 fun d => d.haltTile t code (some e.pc))) ∧
     (s.dev.startsWith t 0x63 e = true → s.dev.dmFree t [linesOf sa n] [] (sdTx a n) = true →
       s.dev.dramCheck t a n false = some code →
       exec (.dmMoveSd t (.start .clean) none) s = .next (s.started t 0x63 fun d => d.haltTile t code (some e.pc))))

/-- DM.MOVE.G checks every entry of its list, and then requests each named element (R91, R128). The count comes from an index or a parameter
register. -/
def Claims.DmMoveGGathers : Prop :=
  ∀ (t : Fin 64) (s : State) (e : QEntry), s.live = true → s.dev.startsWith t 0x64 e = true →
    (let w := e.word
     let cnt := if fld w 3 5 < 16 then ixAt e.ix (fld w 3 5) else ((s.dev.tile t).p.getD (fld w 3 5 - 16) 0).toNat
     let da := saAddr w 24 e.ix
     let la := saAddr w 8 e.ix
     let g := grpAt w e.ix
     let es := s.dev.listEntries t la cnt
     let place := fun i => (g 0 + i * g 2) % 2 ^ 32
     s.dev.dmFree t [linesOf la (listLen cnt)] [linesOf da (cnt * g 2 * 64)] 0 = true →
     spCheck 64 [(la, listLen cnt), (da, cnt * g 2 * 64)] = none → (∀ i ∈ es, i < g 1) →
     (∀ i ∈ es, g 2 ≠ 0 → s.dev.dramCheck t (place i) (g 2 * 64) true = none) →
     exec (.dmMoveG t (.start .clean) none) s = .next (s.started t 0x64 fun d =>
       d.addDm t { dmOp (s.dev.dmOrd t) e.pc with
                   todo := (es.zipIdx).flatMap (fun p => rdJobs d.dramNode (place p.1) (g 2) (da / 64 + p.2 * g 2)),
                   land := [linesOf da (cnt * g 2 * 64)] }))

/-- An entry outside the window halts the instance with TILE_GATHER_RANGE, and nothing is moved (R91, R128). -/
def Claims.GatherRangeHalts : Prop :=
  ∀ (t : Fin 64) (s : State) (e : QEntry), s.live = true → s.dev.startsWith t 0x64 e = true →
    (let w := e.word
     let cnt := ixAt e.ix (fld w 3 5)
     let da := saAddr w 24 e.ix
     let la := saAddr w 8 e.ix
     let es := s.dev.listEntries t la cnt
     fld w 3 5 < 16 → grpAt w e.ix 2 = 0 → s.dev.dmFree t [linesOf la (listLen cnt)] [linesOf da 0] 0 = true →
     spCheck 64 [(la, listLen cnt), (da, 0)] = none → (∃ i ∈ es, grpAt w e.ix 1 ≤ i) →
     exec (.dmMoveG t (.start .clean) none) s = .next (s.started t 0x64 fun d => d.haltTile t 0x1006 (some e.pc)))

/-- DM.STRIDE copies rows from strided places to strided places of a tile of its stand (R127). -/
def Claims.DmStrideCopies : Prop :=
  ∀ (t : Fin 64) (s : State) (e : QEntry), s.live = true → s.dev.startsWith t 0x65 e = true →
    (let w := e.word
     let u := fld w 38 6
     let g := grpAt w e.ix
     let n := g 1 * 64
     let rows : List CopyRow := if n = 0 then [] else (List.range (g 0)).map (fun i =>
       { src := (saAddr w 6 e.ix + i * g 2) % 2 ^ 32, dst := (saAddr w 22 e.ix + i * g 3) % 2 ^ 32, n := n })
     s.dev.dmFree t [allLines] [allLines] (copyTx t u) = true → s.dev.sameStand t u = true →
     spCheck 64 (rows.flatMap (fun r => [(r.src, n), (r.dst, n)])) = none → selfHits (copyUse (decide (u = t.val)) rows) = [] →
     exec (.dmStride t (.start .clean) none) s = .next (s.started t 0x65 fun d =>
       (d.copyRows t (s.dev.dmOrd t) u rows none).addDm t (dmOp (s.dev.dmOrd t) e.pc)))

/-- DM.STRIDE.G copies listed elements of its own scratchpad to strided places of a tile of its stand (R128). -/
def Claims.DmStrideGGathers : Prop :=
  ∀ (t : Fin 64) (s : State) (e : QEntry), s.live = true → s.dev.startsWith t 0x66 e = true →
    (let w := e.word
     let u := fld w 38 6
     let g := grpAt w e.ix
     let la := saAddr w 6 e.ix
     let n := g 2 * 64
     let src := fun i => (g 0 + i * n) % 2 ^ 32
     let dst := fun i => (saAddr w 22 e.ix + i * g 3) % 2 ^ 32
     let es := s.dev.listEntries t la (g 4)
     let rows : List CopyRow := if n = 0 then [] else (es.zipIdx).map (fun p => { src := src p.1, dst := dst p.2, n := n })
     s.dev.dmFree t [allLines] [allLines] (copyTx t u) = true → s.dev.sameStand t u = true →
     spCheck 64 ((la, listLen (g 4)) ::
       (if n = 0 ∨ g 4 = 0 then [] else (g 0 % 64, 64) :: (List.range (g 4)).map (fun i => (dst i, n)))) = none →
     (∀ i ∈ es, i < g 1) → spCheck 64 (es.map (fun i => (src i, n))) = none →
     selfHits (lineUse 3 la (listLen (g 4)) ++ copyUse (decide (u = t.val)) rows) = [] →
     exec (.dmStrideG t (.start .clean) none) s = .next (s.started t 0x66 fun d =>
       (d.copyRows t (s.dev.dmOrd t) u rows none).addDm t (dmOp (s.dev.dmOrd t) e.pc)))

/-- DM.XPOSE within the tile writes the transpose of its block, a line from each transposed column as it stands in its cycle (R152, R522), where no
column shares a bank with the line written with it. -/
def Claims.DmXposeTransposes : Prop :=
  ∀ (t : Fin 64) (s : State) (e : QEntry), s.live = true → s.dev.startsWith t 0x68 e = true →
    (let sa := saAddr e.word 6 e.ix
     let da := saAddr e.word 22 e.ix
     let z := fld e.word 5 1 + 1
     fld e.word 38 6 = t.val → s.dev.dmFree t [linesOf sa (4096 * z)] [linesOf da (4096 * z)] 0 = true →
     spCheck 4096 [(sa, 4096 * z), (da, 4096 * z)] = none → selfHits (xposeUse true sa da z) = [] →
     exec (.dmXpose t (.start .clean) none) s = .next (s.started t 0x68 fun d =>
       ((List.range (64 * z)).foldl (fun d c => d.setSpad t (da + c * 64) (d.xposeLine t sa z c)) d).addDm t
         (dmOp (s.dev.dmOrd t) e.pc)))

/-- DM.XPOSE to another tile of its stand sends the transpose as one write transfer (R152, R172). -/
def Claims.DmXposeSends : Prop :=
  ∀ (t : Fin 64) (s : State) (e : QEntry), s.live = true → s.dev.startsWith t 0x68 e = true →
    (let u := fld e.word 38 6
     let sa := saAddr e.word 6 e.ix
     let da := saAddr e.word 22 e.ix
     let z := fld e.word 5 1 + 1
     u ≠ t.val → s.dev.sameStand t u = true → s.dev.dmFree t [linesOf sa (4096 * z)] [] 1 = true →
     spCheck 4096 [(sa, 4096 * z), (da, 4096 * z)] = none →
     exec (.dmXpose t (.start .clean) none) s = .next (s.started t 0x68 fun d =>
       (d.transfer t (s.dev.dmOrd t) (tileNode u) (0, 0) 1 none (da / 64)
         ((List.range (64 * z)).map (fun c => (da / 64 + c, bytesLine (d.xposeLine t sa z c))))).addDm t (dmOp (s.dev.dmOrd t) e.pc)))

/-- DM.MCAST sends one transfer to the tiles of its range, with a counter signal to each, and then adds 1 to the source counter (R129); it completes
once its own copy, if any, has landed (R80). -/
def Claims.DmMcastSends : Prop :=
  ∀ (t : Fin 64) (s : State) (e : QEntry), s.live = true → s.dev.startsWith t 0x69 e = true →
    (let o := mcOps e
     let col := e.word.getLsbD 43
     let own := ownLand t col o
     o.count ≠ 0 → s.dev.dmFree t [linesOf o.sa o.n] own.1 1 = true → s.dev.mcCheck t col o = none →
     exec (.dmMcast t (.start .clean) none) s = .next (s.started t 0x69 fun d =>
       ((d.transfer t (s.dev.dmOrd t) (mcForm t col o).1 (mcForm t col o).2 o.count (some o.dctr) (o.da / 64)
         (s.dev.spadLines t o.sa o.n (o.da / 64))).addDm t { dmOp (s.dev.dmOrd t) e.pc with land := own.1, own := own.2 }).addCtr t o.sctr 1))

/-- DM.FWD waits for the lines of its region to forward each down the column (R130). -/
def Claims.DmFwdForwards : Prop :=
  ∀ (t : Fin 64) (s : State) (e : QEntry), s.live = true → s.dev.startsWith t 0x6A e = true →
    (let o := mcOps e
     let own := ownLand t true o
     o.count ≠ 0 → o.n ≠ 0 → s.dev.dmFree t [linesOf o.sa o.n] own.1 1 = true → s.dev.mcCheck t true o = none →
     exec (.dmFwd t (.start .clean) none) s = .next (s.started t 0x6A fun d =>
       let tx := d.openTx t true false o.count (some (s.dev.dmOrd t))
       tx.2.addDm t { dmOp (s.dev.dmOrd t) e.pc with
         region := linesOf o.sa o.n
         land := own.1
         own := own.2
         fwd := (List.range (o.n / 64)).map (fun i => (o.sa / 64 + i, o.da / 64 + i))
         fwdTag := tagMcast (mkTag (tileNode t) (mcForm t true o).1 tyWR (s.dev.tileTenant t) false tx.1 false 0 0)
           (mcForm t true o).2.1 (mcForm t true o).2.2
         fwdDst := o.dctr
         fwdSrc := o.sctr }))

/-- DM.CODEC hands its operation, a decode or an encode, to the codec of the row's east node (R131, R225). -/
def Claims.DmCodecCommands : Prop :=
  ∀ (t : Fin 64) (s : State) (e : QEntry), s.live = true → s.dev.startsWith t 0x6C e = true →
    (let w := e.word
     let g := grpAt w e.ix
     let sa := saAddr w 21 e.ix
     let enc := w.getLsbD 43
     s.dev.dmFree t (if enc then [linesOf sa (g 2)] else []) [] 1 = true →
     (if enc then spCheck 64 [(sa, g 2)] = none else sa % 64 = 0 ∧ (g 2 = 0 ∨ sa < 524288)) →
     s.dev.sameStand t (fld w 37 6) = true → (∀ a ∈ codecAddrs enc (g 0) (g 2) (g 3), s.dev.codecAt t enc a = none) →
     exec (.dmCodec t (.start .clean) none) s = .next (s.started t 0x6C fun d =>
       d.command t e.pc fun id => .codec
         { id := 0, tile := t, ord := s.dev.dmOrd t, txid := id, inst := (s.dev.tile t).cur, tenant := s.dev.tileTenant t, enc := enc,
           dtile := fld w 37 6, sa := sa, addr := g 0, count := g 2, stride := g 3, ctrD := g 1 % 2048, ctrS := g 1 / 65536 % 2048,
           num := 0, nextA := g 0 * 64, nextO := sa, prof := s.dev.plan.encCfg.getD (s.dev.tileTenant t) 0,
           cand := s.dev.plan.encCand.getD (s.dev.tileTenant t) 0, data := if enc then s.dev.spadBytes t sa (g 2) else [], open_ := 0,
           held := false, failed := false, seq := 0, sent := 0 }))

/-- DM.PREF hands its steps to the prefetcher; steps past the end of the plan halt the instance with TILE_PLAN_RANGE (R132). -/
def Claims.DmPrefCommands : Prop :=
  ∀ (t : Fin 64) (s : State) (e : QEntry) (x : Inst), s.live = true → s.dev.startsWith t 0x6D e = true →
    s.dev.instOf t = some x → s.dev.dmFree t [] [] 1 = true → fld e.word 16 12 ≠ 0 →
    exec (.dmPref t (.start .clean)) s = .next (s.started t 0x6D fun d =>
      if x.planLen < 32 * (fld e.word 28 16 + fld e.word 16 12) then d.haltTile t 0x1009 (some e.pc)
      else d.command t e.pc fun id =>
        .pref t id (s.dev.tile t).cur (s.dev.tileTenant t) (x.hdrAddr + x.planOff) (fld e.word 28 16) (fld e.word 16 12))

/-- DM.PREF of no step, and DM.MCAST and DM.FWD to no tile, complete without a flit (R129, R130, R132). -/
def Claims.EmptyDmInstructionsComplete : Prop :=
  ∀ (t : Fin 64) (s : State) (e : QEntry) (x : Inst), s.live = true →
    (s.dev.startsWith t 0x6D e = true → s.dev.instOf t = some x → s.dev.dmFree t [] [] 0 = true → fld e.word 16 12 = 0 →
      exec (.dmPref t (.start .clean)) s = .next (s.started t 0x6D fun d => d.addDm t (dmOp (s.dev.dmOrd t) e.pc))) ∧
    (s.dev.startsWith t 0x69 e = true → (mcOps e).count = 0 → s.dev.dmFree t [linesOf (mcOps e).sa (mcOps e).n] [] 0 = true →
      s.dev.mcCheck t (e.word.getLsbD 43) (mcOps e) = none →
      exec (.dmMcast t (.start .clean) none) s = .next (s.started t 0x69 fun d =>
        (d.addDm t (dmOp (s.dev.dmOrd t) e.pc)).addCtr t (mcOps e).sctr 1)) ∧
    (s.dev.startsWith t 0x6A e = true → (mcOps e).count = 0 → s.dev.dmFree t [linesOf (mcOps e).sa (mcOps e).n] [] 0 = true →
      s.dev.mcCheck t true (mcOps e) = none →
      exec (.dmFwd t (.start .clean) none) s = .next (s.started t 0x6A fun d =>
        (d.addDm t { dmOp (s.dev.dmOrd t) e.pc with region := linesOf (mcOps e).sa (mcOps e).n }).addCtr t (mcOps e).sctr 1))

/-! ## The synchronisation stream (R133 to R139, R192, R204) -/

/-- SC.ADD, SC.SET and SC.SIGNAL hold a counter update of a tile of the stand until the writes that they cover are visible (R134, R192). -/
def Claims.CounterUpdatesAreHeld : Prop :=
  ∀ (t : Fin 64) (s : State) (e : QEntry) (c : Instr) (op ty : Nat), s.live = true →
    ((c = .scAdd t (.start .clean) ∧ op = 0x80 ∧ ty = tyCADD) ∨ (c = .scSet t (.start .clean) ∧ op = 0x81 ∧ ty = tyCSET) ∨
     (c = .scSignal t (.start .clean) ∧ op = 0x82 ∧ ty = tyCADD)) →
    s.dev.startsWith t op e = true → (s.dev.tile t).syOps = [] → e.word.getLsbD 43 = true →
    s.dev.sameStand t (fld e.word 33 6) = true →
    exec c s = .next (s.started t op fun d =>
      d.beginSy t (.hold e.pc
        (mkTag (tileNode t) (tileNode (fld e.word 33 6)) ty (s.dev.tileTenant t) true 0 false 0
          (fld e.word 33 6 * 2048 + fld e.word 22 11))
        (scOperand e.word e.ix) (s.dev.releaseCov t)))

/-- A counter of a tile outside the stand halts the instance with FIREBREAK (R133). -/
def Claims.CounterUpdateHonoursTheStand : Prop :=
  ∀ (t : Fin 64) (s : State) (e : QEntry), s.live = true → s.dev.startsWith t 0x80 e = true → (s.dev.tile t).syOps = [] →
    e.word.getLsbD 43 = true → s.dev.sameStand t (fld e.word 33 6) = false →
    exec (.scAdd t (.start .clean)) s = .next (s.started t 0x80 fun d => d.haltTile t 0x8001 (some e.pc))

/-- A counter of another chip is reached by the north node of the chip's route (R200, R318). -/
def Claims.CounterUpdatesOfAnotherChipAreHeld : Prop :=
  ∀ (t : Fin 64) (s : State) (e : QEntry) (c : Instr) (op ty : Nat), s.live = true →
    ((c = .scAdd t (.start .clean) ∧ op = 0x80 ∧ ty = tyCADD) ∨ (c = .scSet t (.start .clean) ∧ op = 0x81 ∧ ty = tyCSET) ∨
     (c = .scSignal t (.start .clean) ∧ op = 0x82 ∧ ty = tyCADD)) →
    (let chip := fld e.word 39 4
     let p := s.dev.routeTo chip
     s.dev.startsWith t op e = true → (s.dev.tile t).syOps = [] → e.word.getLsbD 43 = false → s.dev.multi = false →
     chip ≠ s.dev.chipId → bit (s.dev.reg Reg.HT_ROLES) chip = false →
     exec c s = .next (s.started t op fun d =>
       d.beginSy t (.hold e.pc
         (mkTag (tileNode t) (portNode (if p < 4 then p else 0)) ty (s.dev.tileTenant t) true 0 false 0
           (chip * 2 ^ 17 + (fld e.word 33 6 * 2048 + fld e.word 22 11)))
         (scOperand e.word e.ix) (s.dev.releaseCov t))))

/-- SC.WAIT on a counter that is not poisoned waits for its condition (R136); a wait that a plan step still has to satisfy is late (R233). -/
def Claims.ScWaitWaits : Prop :=
  ∀ (t : Fin 64) (s : State) (e : QEntry), s.live = true → s.dev.startsWith t 0x83 e = true → (s.dev.tile t).syOps = [] →
    (let i := fld e.word 33 11
     let v := scOperand e.word e.ix
     s.dev.ctrBad t i = false →
     exec (.scWait t (.start .clean)) s = .next (s.started t 0x83 fun d =>
       let l := d.lateWait t (ctrCond (d.ctr t i) (e.word.getLsbD 32) v) [i]
       l.2.beginSy t (.wait e.pc l.1 i (e.word.getLsbD 32) v false)))

/-- SC.READ, once the tile's counter updates are acknowledged (R195), gives a counter's value to its index register, which may be read again (R85,
R137). -/
def Claims.ScReadReads : Prop :=
  ∀ (t : Fin 64) (s : State) (e : QEntry), s.live = true → s.dev.startsWith t 0x84 e = true → (s.dev.tile t).syOps = [] →
    (s.dev.tile t).unacked = 0 → s.dev.ctrBad t (fld e.word 29 11) = false →
    exec (.scRead t (.start .clean)) s = .next (s.started t 0x84 fun d =>
      (d.updTile t (fun ts => { ts with
        ix := setAt ts.ix (fld e.word 40 4) (s.dev.ctr t (fld e.word 29 11)), pendIx := ts.pendIx.erase (fld e.word 40 4) })).complete t 3)

/-- A poisoned counter halts the instance that waits on it or reads it (R485). -/
def Claims.PoisonedCounterHalts : Prop :=
  ∀ (t : Fin 64) (s : State) (e : QEntry), s.live = true → (s.dev.tile t).syOps = [] →
    (s.dev.startsWith t 0x83 e = true → s.dev.ctrBad t (fld e.word 33 11) = true →
      exec (.scWait t (.start .clean)) s = .next (s.started t 0x83 fun d => d.haltTile t 0x1011 (some e.pc))) ∧
    (s.dev.startsWith t 0x84 e = true → (s.dev.tile t).unacked = 0 → s.dev.ctrBad t (fld e.word 29 11) = true →
      exec (.scRead t (.start .clean)) s = .next (s.started t 0x84 fun d => d.haltTile t 0x1011 (some e.pc)))

/-- WAIT.ANY, once the tile's counter updates are acknowledged (R195), reads its conditions and waits for the first that holds (R137); it is late as
SC.WAIT is (R233). -/
def Claims.WaitAnyWaits : Prop :=
  ∀ (t : Fin 64) (s : State) (e : QEntry), s.live = true → s.dev.startsWith t 0x85 e = true → (s.dev.tile t).syOps = [] →
    (s.dev.tile t).unacked = 0 →
    (let sa := saAddr e.word 21 e.ix
     let raw := (List.range (fld e.word 37 3 + 1)).map (fun i => leNat (s.dev.spadBytes t (sa + 8 * i) 8))
     let cs := raw.map waitCond
     spCheck 64 [(sa, 64)] = none → (∀ n ∈ raw, fldN n 12 20 = 0 ∧ s.dev.ctrBad t (waitCond n).1 = false) →
     exec (.waitAny t (.start .clean)) s = .next (s.started t 0x85 fun d =>
       let l := d.lateWait t (cs.any (fun c => ctrCond (d.ctr t c.1) c.2.1 c.2.2)) (cs.map (·.1))
       l.2.beginSy t (.any e.pc l.1 (fld e.word 40 4) cs none)))

/-- SC.READ and WAIT.ANY wait while a counter update of the tile is not acknowledged (R195). -/
def Claims.CounterReadersWaitForAcks : Prop :=
  ∀ (t : Fin 64) (s : State), (s.dev.tile t).unacked ≠ 0 →
    exec (.scRead t (.start .clean)) s = .next s ∧ exec (.waitAny t (.start .clean)) s = .next s

/-- WAIT_CONDITION_MET: an SC.WAIT or WAIT.ANY whose condition has held completes; WAIT.ANY writes which one held first (R136, R137); the time of a
late wait is counted (R233). Before, nothing happens. -/
def Claims.MetWaitsComplete : Prop :=
  ∀ (t : Fin 64) (s : State) (pc i n r : Nat) (late : Option Nat) (eq : Bool) (v : Word) (cs : List (Nat × Bool × Word)), s.live = true →
    ((s.dev.tile t).syOps = [.wait pc late i eq v true] → s.dev.ctrBad t i = false →
      exec (.waitConditionMet t) s = .next (s.onDev fun d => ((d.lateEnd t late).endSy t).settle t)) ∧
    ((s.dev.tile t).syOps = [.wait pc late i eq v false] → exec (.waitConditionMet t) s = .next s) ∧
    ((s.dev.tile t).syOps = [.any pc late r cs (some n)] → (∀ c ∈ cs, s.dev.ctrBad t c.1 = false) →
      exec (.waitConditionMet t) s = .next (s.onDev fun d => (((d.lateEnd t late).giveIx t r (w32 n)).endSy t).settle t)) ∧
    ((s.dev.tile t).syOps = [.any pc late r cs none] → exec (.waitConditionMet t) s = .next s)

/-- FENCE.P waits for the writes of the DM instructions complete at its start (R138). -/
def Claims.FenceWaits : Prop :=
  ∀ (t : Fin 64) (s : State) (e : QEntry), s.live = true → s.dev.startsWith t 0x86 e = true → (s.dev.tile t).syOps = [] →
    exec (.fenceP t (.start .clean)) s = .next (s.started t 0x86 fun d => d.beginSy t (.fence e.pc (s.dev.releaseCov t)))

/-- BAR.ARRIVE counts the tile's arrival at the slot and holds its flit until the writes it covers are visible; BAR.WAIT waits for the generation
of the latest arrival (R139, R204). -/
def Claims.BarriersArriveAndWait : Prop :=
  ∀ (t : Fin 64) (s : State) (e : QEntry), s.live = true → (s.dev.tile t).syOps = [] →
    (let slot := fld e.word 38 6
     let ten := s.dev.tileTenant t
     let k := barKey ten slot
     let b := s.dev.bar k
     let g := tabGet (fun _ => 0) b.sent t
     s.dev.barCheck t slot = none →
     (s.dev.startsWith t 0x87 e = true → g < 65536 →
       exec (.barArrive t (.start .clean)) s = .next (s.started t 0x87 fun d =>
         (d.setBar k { b with sent := tabSet (fun _ => 0) b.sent t (g + 1) }).beginSy t
           (.hold e.pc (barTag (tileNode t) nTick tyBARR ten slot) (w32 (g % 65536 + t.val * 65536)) (s.dev.releaseCov t)))) ∧
     (s.dev.startsWith t 0x88 e = true → g ≠ 0 →
       exec (.barWait t (.start .clean)) s = .next (s.started t 0x88 fun d => d.beginSy t (.bar e.pc slot (g - 1)))))

/-- A BAR.WAIT before any arrival, and a 65,537th arrival, halt the instance with TILE_BARRIER_ORDER (R139, R204). -/
def Claims.BarrierOrderHalts : Prop :=
  ∀ (t : Fin 64) (s : State) (e : QEntry), s.live = true → (s.dev.tile t).syOps = [] →
    (let slot := fld e.word 38 6
     let g := tabGet (fun _ => 0) (s.dev.bar (barKey (s.dev.tileTenant t) slot)).sent t
     s.dev.barCheck t slot = none →
     (s.dev.startsWith t 0x87 e = true → 65536 ≤ g →
       exec (.barArrive t (.start .clean)) s = .next (s.started t 0x87 fun d => d.haltTile t 0x100B (some e.pc))) ∧
     (s.dev.startsWith t 0x88 e = true → g = 0 →
       exec (.barWait t (.start .clean)) s = .next (s.started t 0x88 fun d => d.haltTile t 0x100B (some e.pc))))

end Clauses
end

