-- ==== Sys2Proof/Certificates/Slice0/Obligations.lean ====
section
/-! DEFINITION. The statements for the provers. A statement that covers several commands is the conjunction of its clauses; each clause is a definition
under Claims, in the file of Sys2Proof/Safety/ that the heading over the statement names. The docstring of such a statement says for each command
(constructor of Instr) which clause concludes that `exec` answers a next state on it. -/

section Statements

open Sys2Proof Sys2Proof.Machine

/-! ## The queue, the gate and the whole machine -/

/-- A step takes the command at the front of the queue and is its meaning, on the state with the rest of the queue. -/
def Obligations.StepRunsTheFrontCommand : Prop :=
  ∀ (s : State) (c : Instr) (cs : List Instr), s.pending = c :: cs → step s = exec c (s.withPending cs)

/-- With no command waiting a step only lets 10 ns pass (the model's choice: notes/assumptions/2.md). -/
def Obligations.StepOnAnEmptyQueueLetsTimePass : Prop :=
  ∀ s : State, s.pending = [] → step s = .next s.idle ∧ s.idle.dev.nowNs = s.dev.nowNs + 10 ∧
    s.idle.sp = s.sp ∧ s.idle.th = s.th ∧ s.idle.tap = s.tap ∧ s.idle.dev = { s.dev with nowNs := s.idle.dev.nowNs }

/-- Every command answers a next state, with every operand and in every state: none ends in a fault or a refusal. -/
def Obligations.EveryCommandAnswersANextState : Prop := ∀ (c : Instr) (s : State), ∃ t, exec c s = .next t

/-- No command touches the queue of the commands that wait behind it. -/
def Obligations.NoCommandTouchesTheQueue : Prop :=
  ∀ (c : Instr) (s t : State), exec c s = .next t → t.pending = s.pending

/-- What the service ports and the thermal unit keep holds at reset. -/
def Obligations.PortAndThermalBoundsHoldAtReset : Prop := State.reset.bounded = true

/-- What the service ports and the thermal unit keep (64-entry FIFOs, R442 and R445; levels T0 to T4, a saturating dwell count, R383 and
R384) is kept by every step, from every state that has it and whatever command is in front. -/
def Obligations.PortAndThermalBoundsAreKeptByEveryStep : Prop :=
  ∀ s t : State, s.bounded = true → step s = .next t → t.bounded = true

/-- While the trip latch is set (R389: the clocks have stopped and the supplies are off), or an instruction of the test access port holds the core
(R494), every command but the power-on reset and the rows of that port leaves the state as it is. -/
def Obligations.StoppedCoreIgnoresCommands : Prop :=
  ∀ (c : Instr) (s : State), (s.th.tripped = true ∨ s.tap.held = true) → c.offCore = false → exec c s = .next s

/-! ## Registers and host accesses (R4 to R7, R53, R357): clauses in Sys2Proof/Safety/ClausesTick.lean -/

/-- Host reads and writes of BAR0: REGISTER_WRITE, READ_CLEAR, TK_COUNT_READ, PW_AON_TIME_READ and BAR0_IRREGULAR_ACCESS complete with the effect of
R4, R6, R7, R53 and leave everything else. `exec` answers a next state, under conditions on the state and operands alone, on: registerWrite by
RegisterWriteStores, UnmappedWriteIsLogged; readClear by ReadClearReturnsAndClears, PlainReadReturns; tkCountRead by TickCountReadLatches;
pwAonTimeRead by AlwaysOnTimeReadLatches; bar0IrregularAccess by NarrowWriteIsDropped, NarrowReadHasNoSideEffect, WideReadIsTwoReads,
WideWriteIsTwoWrites. -/
def Obligations.HostRegisterAccessesComplete : Prop :=
  Claims.RegisterWriteStores ∧ Claims.UnmappedWriteIsLogged ∧ Claims.PoisonedWriteIsDiscarded ∧ Claims.ReadClearReturnsAndClears ∧
  Claims.PlainReadReturns ∧ Claims.TickCountReadLatches ∧
  Claims.AlwaysOnTimeReadLatches ∧ Claims.NarrowWriteIsDropped ∧ Claims.NarrowReadHasNoSideEffect ∧ Claims.WideReadIsTwoReads ∧
  Claims.WideWriteIsTwoWrites

/-- The access codes: after a write, an RW bit has the written value; a W1C bit is 1 where an event sets it, else 0 where a 1 was written, else
unchanged; every other bit is unchanged (R4 to R6). -/
def Obligations.WriteActsByAccessCode : Prop :=
  ∀ (r : RegSpec) (old v ev : Word) (i : Nat), i < 32 → (w32 r.rw).getLsbD i && (w32 r.w1c).getLsbD i = false →
    (r.write old v ev).getLsbD i =
      if (w32 r.rw).getLsbD i then v.getLsbD i
      else if (w32 r.w1c).getLsbD i then ev.getLsbD i || (old.getLsbD i && !v.getLsbD i)
      else old.getLsbD i

/-- After a read, an RC bit is 1 exactly where an event sets it in the same cycle; every other bit is unchanged (R4, R6). -/
def Obligations.ReadClearsExactlyTheReadClearBits : Prop :=
  ∀ (r : RegSpec) (old ev : Word) (i : Nat), i < 32 →
    (r.afterRead old ev).getLsbD i = if (w32 r.rc).getLsbD i then ev.getLsbD i else old.getLsbD i

/-! ## The tick (R47 to R76): clauses in Sys2Proof/Safety/ClausesTick.lean -/

/-- TK_COUNT advances by one at every edge. It does not advance for a dropped request, for the edge that a PERIOD_US of 0 cancels, or while the tick
is disabled, whichever command would make an edge (R53). An edge begins its tick now, and time, the ports and the queue are as before. -/
def Obligations.EdgeAdvancesTheTickCounterByOne : Prop :=
  (∀ (env : EdgeEnv) (s : State),
    (s.makeEdge env).dev.tick.count = (s.dev.tick.count + 1) % 2 ^ 64 ∧ (s.makeEdge env).dev.tick.edgeNs = s.dev.nowNs ∧
    (s.makeEdge env).dev.nowNs = s.dev.nowNs ∧ (s.makeEdge env).sp = s.sp ∧ (s.makeEdge env).tap = s.tap ∧
    (s.makeEdge env).pending = s.pending) ∧
  (∀ d : Dev, d.dropReq.tick = d.tick) ∧
  (∀ (v : Word) (s t : State), exec (.tkPeriodWrite v) s = .next t → t.dev.tick.count = s.dev.tick.count) ∧
  ∀ (v : Word) (env : EdgeEnv) (c : Instr) (s t : State), s.dev.tickOn = false →
    c ∈ [.tickEdge env, .tickInRequest env, .heldRequestDue env, .tkKick v env, .tickSrcLost env, .tableFinish env, .overrunAbort env] →
    exec c s = .next t → t.dev.tick.count = s.dev.tick.count

/-- Edges and requests: TICK_EDGE, TICK_IN_REQUEST, HELD_REQUEST_DUE, TK_KICK, TICK_SRC_LOST, TK_PERIOD_WRITE, TABLE_FINISH and OVERRUN_ABORT complete
as R47 to R51, R75 and R76 say. `exec` answers a next state, under conditions on the state and operands alone, on: tickEdge by DueEdgeIsMade;
heldRequestDue by HeldRequestMakesItsEdge; tickInRequest by TickInRequestByTime; tkKick by KickByTime; tickSrcLost by SourceLossFallsBack;
tkPeriodWrite by PeriodWriteTakesEffect; tableFinish by TableFinishMakesTheHeldEdge, TableFinishGatesTheClocks; overrunAbort by
OverrunAbortsTheTable. -/
def Obligations.TickRequestsAndEdgesComplete : Prop :=
  Claims.DueEdgeIsMade ∧ Claims.HeldRequestMakesItsEdge ∧ Claims.TickInRequestByTime ∧ Claims.KickByTime ∧ Claims.DroppedRequestIsCounted ∧
  Claims.FreeEdgeIsMade ∧ Claims.SourceLossFallsBack ∧ Claims.PeriodWriteTakesEffect ∧ Claims.TableFinishMakesTheHeldEdge ∧
  Claims.TableFinishGatesTheClocks ∧ Claims.OverrunAbortsTheTable

/-! ## The packing's end, the fragment store, rules and counters (R53, R55 to R57, R63, R71): clauses in Sys2Proof/Safety/ClausesTick.lean -/

/-- TABLE_FINAL, ALLOWANCE_SPENT, VALIDATE, INVALIDATE, INVALIDATE_ALL, TK_FSTORE_BASE_WRITE, TK_RULE_COMMIT and TK_CNT_CLR complete as R53, R55, R57,
R63 and R71 say. `exec` answers a next state, under conditions on the state and operands alone, on: tableFinal by TableBecomesFinal;
allowanceSpent by AllowanceSpentShowsTrunc; validate by ValidateDecides; invalidate by InvalidateClearsOne; invalidateAll by
InvalidateAllClearsAll; tkFstoreBaseWrite by FragmentStoreBaseWrite; tkRuleCommit by RuleCommitWaitsForTheEdge; tkCntClr by CounterClearClears. -/
def Obligations.ComposerCommandsComplete : Prop :=
  Claims.TableBecomesFinal ∧ Claims.AllowanceSpentShowsTrunc ∧ Claims.ValidateDecides ∧ Claims.InvalidateClearsOne ∧
  Claims.InvalidateAllClearsAll ∧ Claims.FragmentStoreBaseWrite ∧ Claims.RuleCommitWaitsForTheEdge ∧ Claims.EdgeCopiesTheShadowRules ∧
  Claims.CounterClearClears

/-! ## The sequencer (R92 to R100, R114, R115, R140): clauses in Sys2Proof/Safety/ClausesTick.lean -/

/-- NOP, END, TICKWAIT, TICKWAIT_ALIGN, LOOP, ENDLOOP, IX_SET, IX_ADD, IX_MOV, IX_MADD, RDCLK and UNASSIGNED_OPCODE complete as R92, R97 to R99, R114,
R115 and R140 say. `exec` answers a next state, under conditions on the state and operands alone, on: unassignedOpcode by UnassignedOpcodeHalts;
nopOp by NopAdvances; ixSet, ixAdd, ixMov, ixMadd by IndexInstructionsWrite; rdclk by RdclkWrites; loopOp by LoopEntersOrSkips; endloop by
EndloopRepeatsOrLeaves; tickwait by TickwaitWaits; tickwaitAlign by TickwaitAlignReleases; endOp by EndDrains. -/
def Obligations.SequencerInstructionsComplete : Prop :=
  Claims.OtherOpcodeChangesNothing ∧ Claims.FetchErrorHalts ∧ Claims.IllegalEncodingHalts ∧ Claims.UnassignedOpcodeHalts ∧
  Claims.NopAdvances ∧ Claims.IndexInstructionsWrite ∧ Claims.RdclkWrites ∧ Claims.LoopEntersOrSkips ∧ Claims.EndloopRepeatsOrLeaves ∧
  Claims.TickwaitWaits ∧ Claims.TickwaitAlignReleases ∧ Claims.EndDrains

/-- INSTANCE_START, CODE_LOAD_COMPLETE, WATCHDOG and INSTANCE_COMMIT complete as R74, R83, R95, R96 and R100 say. `exec` answers a next state, under
conditions on the state and operands alone, on: instanceStart by InstanceStarts, ResidentInstanceStarts; codeLoadComplete by CodeLoadCompletes,
CodeLoadPreloads; watchdog by WatchdogHalts; instanceCommit by InstanceCommits. -/
def Obligations.InstancesRunAndCommit : Prop :=
  Claims.InstanceStarts ∧ Claims.ResidentInstanceStarts ∧ Claims.CodeLoadCompletes ∧ Claims.CodeLoadPreloads ∧ Claims.WatchdogHalts ∧ Claims.InstanceCommits

/-- A committed instance stays committed: its status is `committed` after the commit and no halt of the same table changes it (R74). -/
def Obligations.CommittedInstanceIsNeverDiscarded : Prop :=
  ∀ (d : Dev) (i j code : Nat) (pc : Option Nat) (x : Inst), d.tick.cur[i]? = some x → x.status = .committed →
    (d.haltQuiet j code pc).tick.cur[i]? = some x ∧ (d.abortInst i) = d ∧ d.commitInst i = d

/-! ## Queued instructions: dispatch (R78, R85, R88, R120): clauses in Sys2Proof/Safety/ClausesTick.lean -/

/-- The dispatch of every queued instruction. `exec` answers a next state, under conditions on the state and operands alone, on: barArrive, barWait,
dmCodec, dmFwd, dmMcast, dmMove, dmMoveDs, dmMoveG, dmMoveRd, dmMoveSd, dmPref, dmStride, dmStrideG, dmXpose, fenceP, mxClr, mxLdw, mxMac, scAdd,
scSet, scSignal, scWait, vxAcc, vxAlu, vxBcast, vxCurve, vxDeq, vxLd, vxRed, vxSort, vxSt, vxTopk by QueuedInstructionEntersItsQueue; scRead,
waitAny by QueuedInstructionEntersItsQueue, CounterReadersEnterTheirQueue. -/
def Obligations.QueuedInstructionsDispatch : Prop :=
  Claims.QueuedInstructionEntersItsQueue ∧ Claims.CounterReadersEnterTheirQueue ∧ Claims.FalsePredicateOnlyIncrements ∧ Claims.FullQueueHoldsDispatch ∧
  Claims.AccumulatorOrderHalts

/-! ## The matrix and vector streams (R116 to R125, R154 to R167, R210): clauses in Sys2Proof/Safety/ClausesTile.lean -/

/-- MX_LDW, MX_MAC, MX_CLR and the VX rows (LD, ST, ALU, CURVE, RED, BCAST, SORT, TOPK, ACC, DEQ) complete as R110 and R116 to R125 say. `exec`
answers a next state, under conditions on the state and operands alone, on: mxLdw by MxLdwLoads; mxMac by MxMacAccumulates; mxClr by MxClrClears;
vxLd by VxLdLoads; vxSt by VxStStores; vxAlu, vxCurve, vxRed, vxBcast, vxAcc by VectorResultsAreWritten; vxSort, vxTopk by SortsAreWritten; vxDeq
by VxDeqStores, VxDeqIsDelayed. -/
def Obligations.MatrixAndVectorInstructionsComplete : Prop :=
  Claims.MxLdwLoads ∧ Claims.MxMacAccumulates ∧ Claims.MxMacNeedsABlock ∧ Claims.MxClrClears ∧ Claims.VxLdLoads ∧ Claims.VxStStores ∧
  Claims.VectorResultsAreWritten ∧ Claims.SortsAreWritten ∧ Claims.VxDeqStores ∧ Claims.VxDeqIsDelayed ∧ Claims.ScratchpadCheckHalts

/-- What a vector register, an accumulator row and a scratchpad byte read after a write, and that every other one keeps its value. -/
def Obligations.TileMemoriesKeepWhatIsWritten : Prop :=
  Claims.AccumulatorRowsAreStored ∧
  (∀ (d : Dev) (t v t' v' : Nat) (ws : List Word), ws.length = 64 → v < 32 → v' < 32 →
    (d.setVec t v ws).vec t v = ws ∧ ((t', v') ≠ (t, v) → (d.setVec t v ws).vec t' v' = d.vec t' v')) ∧
  (∀ (d : Dev) (t a t' a' : Nat) (bs : List Byte), a + bs.length ≤ 0x80000 → a' < 0x80000 →
    (d.setSpad t a bs).spad t' a' =
      if h : t' = t ∧ a ≤ a' ∧ a' < a + bs.length then bs[a' - a]'(by omega) else d.spad t' a')

/-- Before the ramp delay has passed no MX instruction starts (R210); RAMP_RELEASE ends the hold once the time has come. `exec` answers a next state,
under conditions on the state and operands alone, on rampRelease here. -/
def Obligations.RampHoldsTheMatrixStream : Prop :=
  (∀ (t : Fin 64) (ecc : SramEv) (cf : Option Conflict) (s : State), (s.dev.tile t).rampUntil ≠ 0 →
    exec (.mxLdw t (.start ecc) cf) s = .next s ∧ exec (.mxMac t (.start ecc) cf) s = .next s ∧
    exec (.mxClr t (.start ecc)) s = .next s) ∧
  (∀ (t : Fin 64) (s : State), s.live = true → (s.dev.tile t).rampUntil ≠ 0 → (s.dev.tile t).rampUntil ≤ s.dev.nowNs →
    exec (.rampRelease t) s = .next (s.onDev fun d => d.setTile t { d.tile t with rampUntil := 0 }))

/-! ## The data-movement stream (R79, R126 to R133, R152): clauses in Sys2Proof/Safety/ClausesTile.lean -/

/-- The DM rows (MOVE, MOVE.RD, MOVE.DS, MOVE.SD, MOVE.G, STRIDE, STRIDE.G, XPOSE, MCAST, FWD, CODEC, PREF) complete as R91 and R126 to R133 and R152
say. `exec` answers a next state, under conditions on the state and operands alone, on: dmMove by DmMoveCopiesLocally, DmMoveSendsALocalCopy,
DmMoveHonoursTheStand; dmMoveRd by DmMoveRdRequests; dmMoveDs by DmMoveDsRequests; dmMoveSd by DmMoveSdSends; dmMoveG by DmMoveGGathers; dmStride
by DmStrideCopies; dmStrideG by DmStrideGGathers; dmXpose by DmXposeTransposes, DmXposeSends; dmMcast by DmMcastSends,
EmptyDmInstructionsComplete; dmFwd by DmFwdForwards, EmptyDmInstructionsComplete; dmCodec by DmCodecCommands; dmPref by DmPrefCommands,
EmptyDmInstructionsComplete. -/
def Obligations.DataMovementInstructionsComplete : Prop :=
  Claims.DmMoveCopiesLocally ∧ Claims.DmMoveSendsALocalCopy ∧ Claims.DmMoveHonoursTheStand ∧ Claims.DmMoveRdRequests ∧
  Claims.DmMoveDsRequests ∧ Claims.DmMoveSdSends ∧ Claims.DramChecksHalt ∧ Claims.DmMoveGGathers ∧ Claims.GatherRangeHalts ∧
  Claims.DmStrideCopies ∧ Claims.DmStrideGGathers ∧ Claims.DmXposeTransposes ∧ Claims.DmXposeSends ∧ Claims.DmMcastSends ∧
  Claims.DmFwdForwards ∧ Claims.DmCodecCommands ∧ Claims.DmPrefCommands ∧ Claims.EmptyDmInstructionsComplete

/-! ## The synchronisation stream (R133 to R139, R192, R204): clauses in Sys2Proof/Safety/ClausesTile.lean -/

/-- The SY rows (SC.ADD, SC.SET, SC.SIGNAL, SC.WAIT, SC.READ, WAIT.ANY, FENCE.P, BAR.ARRIVE, BAR.WAIT) and WAIT_CONDITION_MET complete as R133 to
R139, R192 and R204 say. `exec` answers a next state, under conditions on the state and operands alone, on: scAdd by CounterUpdatesAreHeld,
CounterUpdateHonoursTheStand; scSet, scSignal by CounterUpdatesAreHeld; scWait by ScWaitWaits; scRead by ScReadReads; waitAny by WaitAnyWaits;
waitConditionMet by MetWaitsComplete; fenceP by FenceWaits; barArrive, barWait by BarriersArriveAndWait. -/
def Obligations.SynchronisationInstructionsComplete : Prop :=
  Claims.CounterUpdatesAreHeld ∧ Claims.CounterUpdateHonoursTheStand ∧ Claims.CounterUpdatesOfAnotherChipAreHeld ∧ Claims.ScWaitWaits ∧
  Claims.ScReadReads ∧ Claims.PoisonedCounterHalts ∧ Claims.WaitAnyWaits ∧ Claims.CounterReadersWaitForAcks ∧ Claims.MetWaitsComplete ∧
  Claims.FenceWaits ∧ Claims.BarriersArriveAndWait ∧
  Claims.BarrierOrderHalts

/-- DROOP_DETECT: a tile's rail below its threshold stretches the tile's clock until HOLD cycles later, is counted, and logged once per tick (R372).
`exec` answers a next state, under conditions on the state and operands alone, on droopDetect here. -/
def Obligations.DroopStretchesTheTile : Prop :=
  ∀ (t : Fin 64) (mv : Nat) (s : State), s.live = true → s.dev.pstate ≤ 2 →
    (droops s.dev s.th t mv = true →
      exec (.droopDetect t mv) s = .next (s.onDev fun d =>
        let d1 := (d.incReg Reg.DROOP_CNT 1).logOnce 0x700A 0 nodePower
        (d1.retimeTile t).updTile t (fun ts =>
          { ts with droopUntil := d1.nowNs + d1.regN Reg.DROOP_CTRL * 1000 / d1.fclk }))) ∧
    (droops s.dev s.th t mv = false → exec (.droopDetect t mv) s = .next s)

/-! ## Canopy flits (R168 to R186): clauses in Sys2Proof/Safety/ClausesFabric.lean -/

/-- Canopy requests and answers reach their destination: WR, WRZ, RD, CMD, RDATA, WACK and ERR complete (R172, R174, R180, R183, R184). `exec` answers
a next state, under conditions on the state and operands alone, on: wrFlit by WriteFlitLandsAtATile, WriteFlitLandsInDram; wrz by
ZeroWriteSignals; rdFlit by ReadFlitReturnsLines, ReadFlitReadsDram; cmd by DescriptorIsTaken; rdata by ReadDataLands; wack by
WriteAckEndsTheTransfer, WriteAckReachesTheEastNode; errFlit by ErrorFlitHalts, ErrorFlitHaltsAnArrival. -/
def Obligations.CanopyTransfersComplete : Prop :=
  Claims.WriteFlitLandsAtATile ∧ Claims.WriteFlitLandsInDram ∧ Claims.PoisonedWriteIsRefused ∧ Claims.ZeroWriteSignals ∧
  Claims.ReadFlitReturnsLines ∧ Claims.ReadFlitReadsDram ∧ Claims.DescriptorIsTaken ∧ Claims.ReadDataLands ∧
  Claims.PoisonedReadDataHalts ∧ Claims.WriteAckEndsTheTransfer ∧ Claims.WriteAckReachesTheEastNode ∧ Claims.ErrorFlitHalts ∧
  Claims.ErrorFlitHaltsAnArrival

/-- Counter updates, barrier flits, the grant bound of REQ flits and the fabric's own register complete: CADD, CSET, BARR, BREL, REQ_AFTER_GRANT,
CN_PERF_SEL_WRITE and SYNC_COUNTER_WINDOW_WRITE. `exec` answers a next state, under conditions on the state and operands alone, on: cadd by
CounterAddApplies; cset by CounterSetApplies; barr by ArrivalReachesTheTickUnit; brel by ReleaseReachesTheRow; reqAfterGrant by
WaitingRequestIsGranted; cnPerfSelWrite by PerfSelectRestartsTheCount; syncCounterWindowWrite by CounterWindowSets. -/
def Obligations.SynchronisationFlitsComplete : Prop :=
  Claims.CounterAddApplies ∧ Claims.CounterSetApplies ∧ Claims.PoisonedCounterUpdateIsRefused ∧ Claims.ArrivalReachesTheTickUnit ∧
  Claims.ReleaseReachesTheRow ∧ Claims.WaitingRequestIsGranted ∧ Claims.PerfSelectRestartsTheCount ∧ Claims.CounterWindowSets ∧
  Claims.ForeignCounterWindowIsRefused

/-- A tag that breaks R171 is discarded, whatever its row: no scratchpad, counter, DRAM cell, barrier slot or plan step changes but by what waited
for the flit's place in the fabric and now goes on (R171, R173). -/
def Obligations.BadFlitIsDiscarded : Prop :=
  ∀ (f : FlitEv) (c : Instr) (s t : State),
    c ∈ [.wrFlit f, .wrz f, .rdFlit f, .cmd f, .rdata f, .wack f, .errFlit f, .cadd f, .cset f, .barr f, .brel f] →
    tagBad f.tag = true → exec c s = .next t →
    ∃ d, (d = s.dev ∨ d = s.dev.leave (s.dev.copyOf f)) ∧
      t.dev.mem = d.mem ∧ t.dev.dram = d.dram ∧ t.dev.bars = d.bars ∧ t.dev.plan = d.plan

/-- A flit that a router of its way refuses reaches no scratchpad, counter, DRAM cell, barrier slot or plan step (R183: a tenant's flit stays within
its stand); only what waited for its place in the fabric goes on (R173). -/
def Obligations.RefusedFlitChangesNoMemory : Prop :=
  ∀ (f : FlitEv) (c : Instr) (s t : State) (n : Node),
    c ∈ [.wrFlit f, .wrz f, .rdFlit f, .cmd f, .rdata f, .wack f, .errFlit f, .cadd f, .cset f, .barr f, .brel f] →
    (s.dev.leave (s.dev.copyOf f)).refusedAt f.tag f.dst = some n → exec c s = .next t →
    ∃ d, (d = s.dev ∨ d = s.dev.leave (s.dev.copyOf f)) ∧
      t.dev.mem = d.mem ∧ t.dev.dram = d.dram ∧ t.dev.bars = d.bars ∧ t.dev.plan = d.plan

/-- A unicast tag carries each of its fields (Table 7-3): what a router reads is what the source wrote. -/
def Obligations.RouteTagFieldsReadBack : Prop :=
  ∀ (src dst : Node) (ty tenant txid cidx addr : Nat) (last cen : Bool),
    src.x < 16 → src.y < 16 → dst.x < 16 → dst.y < 16 → ty < 16 → tenant < 8 → txid < 256 → cidx < 2048 → addr < 2 ^ 32 →
    (let t := mkTag src dst ty tenant last txid cen cidx addr
     tagDx t = dst.x ∧ tagDy t = dst.y ∧ tagSx t = src.x ∧ tagSy t = src.y ∧ tagCls t = clsOf ty ∧ tagTy t = ty ∧
     tagTenant t = tenant ∧ tagLast t = last ∧ tagMc t = 0 ∧ tagMend t = 0 ∧ tagTxid t = txid ∧ tagCen t = cen ∧ tagCidx t = cidx ∧
     tagPoison t = false ∧ tagAddr t = addr)

/-- The way of a flit between tiles goes along its row first and then along the column, one node at a time: it begins at the source, ends at the
destination, visits mesh nodes only and turns once (R176). -/
def Obligations.TileRoutesGoRowFirst : Prop :=
  ∀ s e : Node, isTile s.x s.y = true → isTile e.x e.y = true →
    (route s e).head? = some s ∧ (route s e).getLast? = some e ∧ (∀ n ∈ route s e, isTile n.x n.y = true ∧ (n.y = s.y ∨ n.x = e.x)) ∧
    (route s e).length = (s.x - e.x) + (e.x - s.x) + (s.y - e.y) + (e.y - s.y) + 1

/-! ## The prefetcher and the codec (R217 to R234, R286 to R302): clauses in Sys2Proof/Safety/ClausesFabric.lean -/

/-- The prefetcher's and the codec's events complete: UNIT_READ, PAGE_READ, BLOCK_LANDED, BLOCK_REREAD, BLOCK_DECODED, TABLE_FETCH, BLOCK_ENCODE and
CD_TBL_COMMIT. `exec` answers a next state, under conditions on the state and operands alone, on: unitRead by UnitReadIsIssued; pageRead by
PageReadLandsTheUnit, PageReadFillsTheBuffer; blockLanded by BlockOfAUnitIsJudged, BlockOfAStepIsJudged, BlockOfACodecIsJudged; blockReread by
SecondReadRepairs; blockDecoded by DecodedBlockIsPlaced, DecodedCodecBlockIsPlaced; tableFetch by TableFetchGivesTheTable; blockEncode by
EncodedBlockIsWritten; cdTblCommit by TableCommitIsPending. -/
def Obligations.PrefetchAndCodecEventsComplete : Prop :=
  Claims.UnitReadIsIssued ∧ Claims.PageReadLandsTheUnit ∧ Claims.PageReadFillsTheBuffer ∧ Claims.BlockOfAUnitIsJudged ∧
  Claims.BlockOfAStepIsJudged ∧ Claims.BlockOfACodecIsJudged ∧ Claims.SecondReadRepairs ∧ Claims.DecodedBlockIsPlaced ∧ Claims.DecodedCodecBlockIsPlaced ∧ Claims.TableFetchGivesTheTable ∧
  Claims.EncodedBlockIsWritten ∧ Claims.TableCommitIsPending

/-- Each transform of the block format is undone by its inverse, on every part of even length; transform 0 on every part (R287, Table 12-4). -/
def Obligations.BlockTransformsInvert : Prop :=
  ∀ (x : Nat) (b : List Byte), x = 0 ∨ b.length % 2 = 0 → mbfInv x (mbfFwd x b) = b

/-- A block encoded without a table passes its check and decodes to its data (R286, R287, R294, R301). -/
def Obligations.StoredBlocksDecodeToTheirData : Prop :=
  ∀ (x : Nat) (b : List Byte), x < 4 → b.length ≤ 16384 → b.length % 2 = 0 →
    mbfOk (mbfEncode x none b) = true ∧ mbfDecode [] (mbfEncode x none b) = some b

/-- The rANS decoder gives back what the encoder coded, under every table of 4,096 entries that never decreases and gives every symbol of the
sequence a slot (R289, R293, R301). -/
def Obligations.RansDecodesWhatItEncodes : Prop :=
  ∀ t q : List Byte, t.length = 4096 → mbfRises t = true → ransEligible t q = true → ransDecode t q.length (ransEncode t q) = some q

/-! ## The DRAM controllers (R235 to R264): clauses in Sys2Proof/Safety/ClausesMemory.lean -/

/-- The DRAM's commands complete: DRAM_START, DRAM_TRAINING_DONE, DR_CFG_WRITE, REFRESH_TEMP, REFRESH_FIXED, MR4_POLL, WCK2DQ_TRACKING and
PAGE_IDLE_CLOSE. `exec` answers a next state, under conditions on the state and operands alone, on: dramStart by DramStartBeginsBringUp,
ReservedRateFailsEveryChannel, SecondDramStartIsIgnored; dramTrainingDone by TrainingMakesTheDramReady, FailedChannelKeepsTheDramDown; drCfgWrite
by DramConfigIsWrittenBeforeStart, LockedDramFieldsKeep; refreshTemp by TempRefreshClosesOneBank; refreshFixed by FixedRefreshFollowsTheGrid;
mr4Poll by PollReadsTheTemperature; wck2dqTracking by TrackingIsDone; pageIdleClose by IdlePageCloses. -/
def Obligations.DramCommandsComplete : Prop :=
  Claims.DramStartBeginsBringUp ∧ Claims.ReservedRateFailsEveryChannel ∧ Claims.SecondDramStartIsIgnored ∧ Claims.TrainingMakesTheDramReady ∧
  Claims.FailedChannelKeepsTheDramDown ∧ Claims.DramConfigIsWrittenBeforeStart ∧ Claims.LockedDramFieldsKeep ∧
  Claims.TempRefreshClosesOneBank ∧ Claims.FixedRefreshFollowsTheGrid ∧ Claims.PollReadsTheTemperature ∧ Claims.TrackingIsDone ∧
  Claims.IdlePageCloses

/-- A unit of DRAM that a write has filled reads back, and every byte outside it reads as before (R214). -/
def Obligations.DramKeepsWhatIsWritten : Prop :=
  ∀ (d : Dev) (a : Nat) (bs : List Byte) (b : Nat),
    (d.setDram a bs).dramBytes b 1 = if a ≤ b ∧ b < a + bs.length then [bs.getD (b - a) 0] else d.dramBytes b 1

/-! ## The flash controller (R265 to R285): clauses in Sys2Proof/Safety/ClausesMemory.lean -/

/-- The flash's commands complete: FLASH_START, FLASH_START_DONE, FL_GCFG_WRITE, the region writes, READ_PAGE, PROGRAM_PAGE, ERASE_BLOCK, MARK_BAD,
BBT_STORE, SCAN, PROGRAM_ERASE_COMPLETE and HOST_COMMAND_AGED. `exec` answers a next state, under conditions on the state and operands alone, on:
flashStart by FlashStartBeginsBringUp, SecondFlashStartIsIgnored; flashStartDone by FlashBecomesReady, FlashChannelFails; flGcfgWrite by
FlashRateIsLockedByStart; flChWregWrite, flChSregWrite by RegionRegistersAreWritten; readPage, eraseBlock, bbtStore by FlashCommandsAreIssued;
programPage by ProgramPageIsIssued; markBad by MarkBadMarks; flScan by ScanBuildsTheTable; programEraseComplete by ProgramAndEraseEnd,
TableStoreGoesOn, FailedBlockIsMarked; hostCommandAged by OldCommandIsAged. -/
def Obligations.FlashCommandsComplete : Prop :=
  Claims.FlashStartBeginsBringUp ∧ Claims.SecondFlashStartIsIgnored ∧ Claims.FlashBecomesReady ∧ Claims.FlashChannelFails ∧ Claims.FlashRateIsLockedByStart ∧
  Claims.RegionRegistersAreWritten ∧ Claims.FlashCommandsAreIssued ∧ Claims.ProgramPageIsIssued ∧ Claims.MarkBadMarks ∧
  Claims.ScanBuildsTheTable ∧ Claims.FlashCommandsAreRefused ∧ Claims.ProgramAndEraseEnd ∧ Claims.TableStoreGoesOn ∧
  Claims.FailedBlockIsMarked ∧ Claims.OldCommandIsAged

/-! ## Hertia links (R303 to R333): clauses in Sys2Proof/Safety/ClausesLink.lean -/

/-- The port commands complete: PORT_TRAINING, LINK_TRAIN_RETRY, PORT_DOWN, IDLE, DATA, TICK, NOTICE, NAK and REPLAY_TIMEOUT. `exec` answers a next
state, under conditions on the state and operands alone, on: portTraining by TrainedPortIsUp, ThirdFailureStopsTraining; linkTrainRetry by
TrainingIsRetried; portDown by SilentPortGoesDown; idleFlit by IdleFlitIsHeard; dataFlit by DataFlitIsTaken; tickFlit by TickFlitSchedulesTheEdge;
noticeFlit by NoticeSpreads; nakFlit by NakCausesReplay; replayTimeout by TimeoutReplays. -/
def Obligations.LinkPortsComplete : Prop :=
  Claims.TrainedPortIsUp ∧ Claims.ThirdFailureStopsTraining ∧ Claims.TrainingIsRetried ∧ Claims.SilentPortGoesDown ∧
  Claims.IdleFlitIsHeard ∧ Claims.DataFlitIsTaken ∧ Claims.TickFlitSchedulesTheEdge ∧ Claims.NoticeSpreads ∧ Claims.NakCausesReplay ∧
  Claims.BadFlitDrawsANak ∧ Claims.TimeoutReplays ∧ Claims.LinkBufferErrorsAct

/-- The channel commands complete: LINES, EACK, EACK_DUE, UNDELIV, FINISH, E2E_TIMEOUT, MASTER_LOST, OPEN, CLOSE, HT_ROUTE_COMMIT, HT_CHIP_WRITE and
LINK_RST_N. `exec` answers a next state, under conditions on the state and operands alone, on: linesPkt by NextLinesAreDelivered; eack by
EackRetires; eackDue by EackIsSent; undeliv by UndeliveredFences; finishPkt by FinishIsNoted; e2eTimeout by OldPacketFences; masterLost by
LostMasterFreesTheTick; chOpen by OpenOpensOneEnd; chClose by CloseClosesOneEnd; htRouteCommit, htChipWrite by LinkRegistersAreWritten; linkRstN
by LinkResetSilences. -/
def Obligations.LinkChannelsComplete : Prop :=
  Claims.NextLinesAreDelivered ∧ Claims.OtherLinesAreDropped ∧ Claims.EackRetires ∧ Claims.EackIsSent ∧ Claims.UndeliveredFences ∧
  Claims.FinishIsNoted ∧ Claims.OldPacketFences ∧ Claims.LostMasterFreesTheTick ∧ Claims.OpenOpensOneEnd ∧ Claims.CloseClosesOneEnd ∧
  Claims.LinkRegistersAreWritten ∧ Claims.LinkResetSilences

/-- A packet is read from its bytes as it was written, wherever it ends among further bytes (R311). -/
def Obligations.PacketsParseBack : Prop :=
  ∀ (k : Pkt) (rest : List Byte), k.dchip < 16 → k.schip < 16 → k.kind < 4 → k.cls < 3 → k.mc < 3 → k.epoch < 16 → k.nlines < 16 →
    k.seq < 65536 → k.body.length = pktBodyLen k.kind k.nlines (fldN (leNat (k.body.take 12)) 74 4) →
    parsePkt (pktBytes k ++ rest) = some (k, rest)

/-- A port never holds more than 256 flits in its replay buffer by what it sends in its slots, and each DATA flit that it sends takes one credit of
its VC (R308, R309). -/
def Obligations.ReplayBufferHolds256 : Prop :=
  ∀ (x : LPort) (now n : Nat), x.replay.length ≤ 256 →
    (LPort.slots now n x).1.replay.length ≤ 256 ∧
    (x.ctl = [] → (LPort.slots now n x).1.replay.length + (LPort.slots now n x).1.credits.sum = x.replay.length + x.credits.sum)

/-! ## Mappings, power states and operating points (R341 to R372): clauses in Sys2Proof/Safety/ClausesPower.lean -/

/-- The power commands complete: MP_COMMIT, HOST_WAKE, the five requests, STATE_ENTRY, WAKE_PIN, SP0_BREAK_WAKE, WAKE_TIMER, STATE_EXIT,
DRAM_READY_EVENT, OP_COMMIT, PLL_LOCK, AVS_READBACK and AVS_TIMEOUT. `exec` answers a next state, under conditions on the state and operands
alone, on: mpCommit by MappingCommitIsPending; requestS1Poise, requestS2Rest, requestS3Doze, requestS4Deep, requestS5Dormant by
PowerRequestsAreTaken; hostWake by HostWakeWakes; stateEntry by PoiseIsEntered, RestIsEntered; wakePin, sp0BreakWake, wakeTimer by
WakeSourcesWake; stateExit by ShallowStatesAreLeft, DozeIsLeft; dramReadyEvent by MemoryIsRestoredAfterDeep; opCommit by OperatingPointsWait;
pllLock by IdlePllLocks; avsReadback by RailIsReadBack; avsTimeout by FailedRaiseRunsAtTheLowestPoint. -/
def Obligations.PowerCommandsComplete : Prop :=
  Claims.MappingCommitIsPending ∧ Claims.PowerRequestsAreTaken ∧ Claims.PowerRequestsAreHeld ∧ Claims.ShallowerRequestsAreRefused ∧ Claims.HostWakeWakes ∧
  Claims.PoiseIsEntered ∧ Claims.RestIsEntered ∧ Claims.WakeSourcesWake ∧ Claims.ShallowStatesAreLeft ∧
  Claims.DozeIsLeft ∧ Claims.MemoryIsRestoredAfterDeep ∧ Claims.OperatingPointsWait ∧ Claims.IdlePllLocks ∧ Claims.RailIsReadBack ∧
  Claims.FailedRaiseRunsAtTheLowestPoint

/-! ## Thermal control (R373 to R392): clauses in Sys2Proof/Safety/ClausesPower.lean -/

/-- The thermal commands complete: SAMPLING_INSTANT, IDLE_INSTANT, TH_COMMIT, THERMAL_TRIP, FAN_TACH_WINDOW and FAN_DUTY_FALL. `exec` answers a next
state, under conditions on the state and operands alone, on: samplingInstant by SamplingTakesEverySensor; idleInstant by IdleInstantJudges;
thCommit by ThermalCommitWaits; thermalTrip by TripSetsTheLatch, OneComparisonDoesNotTrip; fanTachWindow by TachWindowShowsTheSpeed; fanDutyFall
by DutyFallsByOne. -/
def Obligations.ThermalCommandsComplete : Prop :=
  Claims.SamplingTakesEverySensor ∧ Claims.IdleInstantJudges ∧ Claims.ThermalCommitWaits ∧ Claims.TripSetsTheLatch ∧
  Claims.OneComparisonDoesNotTrip ∧ Claims.TachWindowShowsTheSpeed ∧ Claims.DutyFallsByOne

/-- The judgment of the level at an edge (R384), with the temperature and the dwell count D, this edge counted. Below T4 the level becomes T4 at its
ENTRY, whatever D is; else it stays while D is below its DWELL; else it becomes the highest level above it whose ENTRY is reached; else it falls by
one at its EXIT; else it stays. D starts anew where the level has changed (R383). The judgment of an edge starts from the level, the dwell and the
temperature of the state before it. -/
def Obligations.LevelsMoveAsJudged : Prop :=
  (∀ (th : ThSt) (force : Word), th.judged ≤ 4 →
    (let l := th.judged
     let t := th.judgedTheta
     let dw := min (th.dwell + 1) 65535
     let l' := (th.judge force).judged
     (l < 4 ∧ thEntry (th.entry 4) ≤ t → l' = 4) ∧
     (¬ (l < 4 ∧ thEntry (th.entry 4) ≤ t) → dw < thDwell (th.entry l) → l' = l) ∧
     (¬ (l < 4 ∧ thEntry (th.entry 4) ≤ t) → thDwell (th.entry l) ≤ dw → (∃ k, l < k ∧ k ≤ 4 ∧ thEntry (th.entry k) ≤ t) →
       l < l' ∧ l' ≤ 4 ∧ thEntry (th.entry l') ≤ t ∧ ∀ k, l' < k → k ≤ 4 → t < thEntry (th.entry k)) ∧
     (thDwell (th.entry l) ≤ dw → (∀ k, l < k → k ≤ 4 → t < thEntry (th.entry k)) → 0 < l → t ≤ thExit (th.entry l) → l' = l - 1) ∧
     (thDwell (th.entry l) ≤ dw → (∀ k, l < k → k ≤ 4 → t < thEntry (th.entry k)) → (l = 0 ∨ thExit (th.entry l) < t) → l' = l) ∧
     (th.judge force).dwell = if l' = l then dw else 0)) ∧
  ∀ (env : EdgeEnv) (s : State), ∃ (th : ThSt) (force : Word), th.judged = s.th.judged ∧ th.dwell = s.th.dwell ∧ th.theta = s.th.theta ∧
    (s.makeEdge env).th.judged = (th.judge force).judged ∧ (s.makeEdge env).th.dwell = (th.judge force).dwell ∧
    (s.makeEdge env).th.level = (th.judge force).level

/-- The filtered value of a sensor is one of its valid samples, and at least as many valid samples lie at or below it as above it: the median, the
larger of the two middle ones (R374). -/
def Obligations.FilteredValueIsTheMedian : Prop :=
  ∀ (h : List (Option Int)) (m : Int), medianOf h = some m →
    (let v := h.filterMap id
     m ∈ v ∧ (v.filter (fun x => decide (x < m))).length ≤ v.length / 2 ∧ v.length - v.length / 2 ≤ (v.filter (fun x => decide (x ≤ m))).length ∧
     (v.filter (fun x => decide (m < x))).length ≤ v.length - v.length / 2 - 1)

/-! ## The security unit (R394 to R413): clauses in Sys2Proof/Safety/ClausesPower.lean -/

/-- The security commands complete: SEC_STAND_GO, CLEARING_REQUEST, CLEARING_ACCEPT, CLEARING_RELEASE, GENERATE, UNWRAP, EXPORT, PROG_ROOT, LOCK,
DEBUG_DIS and ROLLBACK_INC. `exec` answers a next state, under conditions on the state and operands alone, on: secStandGo by StandRequestWaits;
clearingRequest by ClearingIsRequested; clearingAccept by ClearingIsAccepted; clearingRelease by ClearingIsReleased; keyGenerate by
KeyIsGenerated; keyUnwrap by KeyIsUnwrapped; keyExport by KeyIsExported; progRoot, fuseLock, debugDis, rollbackInc by FusesAreBlown. -/
def Obligations.SecurityCommandsComplete : Prop :=
  Claims.StandRequestWaits ∧ Claims.ClearingIsRequested ∧ Claims.ClearingIsAccepted ∧ Claims.ClearingIsReleased ∧ Claims.KeyIsGenerated ∧
  Claims.EntropyMayFail ∧ Claims.HeldKeyIsKept ∧ Claims.KeyIsUnwrapped ∧ Claims.KeyIsExported ∧ Claims.FusesAreBlown ∧ Claims.FusesAreRefused

/-- No command of the security unit clears a fuse: LOCK and DEBUG_DIS stay set, the rollback count never falls, and a root hash that is not blank
stays as it is; what is in effect changes under none of them (R412). -/
def Obligations.SecurityCommandsNeverUnblowAFuse : Prop :=
  ∀ (v : Word) (n : Fin 8) (slot : Fin 16) (entropyFail : Bool) (s t : State), ∀ c ∈ Claims.securityRows v n slot entropyFail,
    exec c s = .next t →
    (s.dev.sec.lock = true → t.dev.sec.lock = true) ∧ (s.dev.sec.debugDis = true → t.dev.sec.debugDis = true) ∧
    s.dev.sec.rollback ≤ t.dev.sec.rollback ∧ (s.dev.sec.rootHash ≠ 0 → t.dev.sec.rootHash = s.dev.sec.rootHash) ∧
    t.dev.sec.lockUse = s.dev.sec.lockUse ∧ t.dev.sec.dbgUse = s.dev.sec.dbgUse ∧ t.dev.sec.rootUse = s.dev.sec.rootUse ∧
    t.dev.sec.rollUse = s.dev.sec.rollUse

/-- A power-on reset keeps every fuse and takes them all into effect (R412, R466). -/
def Obligations.PowerOnResetTakesTheFuses : Prop :=
  ∀ d : Dev, (let e := d.porReset.sec
    e.lock = d.sec.lock ∧ e.debugDis = d.sec.debugDis ∧ e.rollback = d.sec.rollback ∧ e.rootHash = d.sec.rootHash ∧
    e.lockUse = d.sec.lock ∧ e.dbgUse = d.sec.debugDis ∧ e.rollUse = d.sec.rollback ∧ e.rootUse = d.sec.rootHash) ∧
    (d.flash.cmd = none → d.porReset.flash.cells = d.flash.cells)

/-! ## The host port (R414 to R437): clauses in Sys2Proof/Safety/ClausesPort.lean -/

/-- The host port's commands complete: DOORBELL_WRITE, DOORBELL_VISIBLE, RING_CONFIG_WRITE, BAR2_READ, COMPLETION_WRITE, COALESCE_TIMER, MSIX_UNMASK,
FLR_VF, FLR_PF and PME_TURN_OFF. `exec` answers a next state, under conditions on the state and operands alone, on: doorbellWrite by
DoorbellIsTaken; doorbellVisible by DoorbellBecomesVisible; ringConfigWrite by RingIsConfigured; bar2Read by HostReadsDram, HostWritesDram;
completionWrite by CompletionIsWritten; coalesceTimer by CoalescedMessageIsSent; msixUnmask by MsixWordIsStored, PendingMessageIsSent; flrVf by
FunctionResetClearsTheTenant; flrPf by PhysicalFunctionResetIsWarm; pmeTurnOff by TurnOffIsNoted. -/
def Obligations.HostPortCommandsComplete : Prop :=
  Claims.DoorbellIsTaken ∧ Claims.BadDoorbellIsDropped ∧ Claims.DoorbellBecomesVisible ∧ Claims.RingIsConfigured ∧ Claims.HostReadsDram ∧
  Claims.ForeignHostReadIsRefused ∧ Claims.HostWritesDram ∧ Claims.HostAccessWaitsInDoze ∧ Claims.CompletionIsWritten ∧ Claims.CoalescedMessageIsSent ∧
  Claims.MsixWordIsStored ∧ Claims.PendingMessageIsSent ∧ Claims.FunctionResetClearsTheTenant ∧ Claims.PhysicalFunctionResetIsWarm ∧
  Claims.TurnOffIsNoted

/-- A doorbell write changes the indices of one ring only, and no memory, whatever the check of R427 says. -/
def Obligations.DoorbellsTouchOneRing : Prop :=
  ∀ (fn : Fin 9) (r : Fin 16384) (v : Word) (ecc : SramEv) (s t : State), exec (.doorbellWrite fn r v ecc) s = .next t →
    (∀ q, q ≠ r.val → t.dev.ring q = s.dev.ring q) ∧ t.dev.mem = s.dev.mem ∧ t.dev.dram = s.dev.dram ∧ t.dev.flash = s.dev.flash ∧
    t.dev.tiles = s.dev.tiles ∧ t.sp = s.sp ∧ t.th = s.th ∧ t.tap = s.tap

/-! ## The service ports (R438 to R464): clauses in Sys2Proof/Safety/ClausesPort.lean -/

/-- The ports' commands complete: SP_BAUD_WRITE, SP_DATA_READ, SP_STAT_READ, SP_DATA_WRITE, SP_BRK_TX, FLUSH_RX, FLUSH_TX, CHARACTER_RECEIVE,
START_BIT_ABANDON, BREAK_END, CHARACTER_TRANSMIT, TELEMETRY_LINE and SERVICE_FRAME_TIMEOUT. `exec` answers a next state, under conditions on the
state and operands alone, on: spBaudWrite by BaudIsWritten; spDataRead by DataReadPopsTheOldest, EmptyDataReadsZero; spStatRead by
StatReadShowsTheFlags; spDataWrite by DataWriteQueues; spBrkTx by BreakIsAskedFor; flushRx, flushTx by FlushEmptiesTheFifo; characterReceive by
CharacterIsReceived; startBitAbandon by StartBitIsAbandoned; breakEnd by BreakLengthIsRecorded; characterTransmit by CharacterIsSent;
telemetryLine by TelemetryLineIsQueued; serviceFrameTimeout by StaleFrameIsDiscarded. -/
def Obligations.ServicePortCommandsComplete : Prop :=
  Claims.BaudIsWritten ∧ Claims.DataReadPopsTheOldest ∧ Claims.EmptyDataReadsZero ∧ Claims.StatReadShowsTheFlags ∧ Claims.DataWriteQueues ∧
  Claims.BreakIsAskedFor ∧ Claims.FlushEmptiesTheFifo ∧ Claims.CharacterIsReceived ∧ Claims.FullFifoDiscards ∧ Claims.StartBitIsAbandoned ∧
  Claims.BreakLengthIsRecorded ∧ Claims.CharacterIsSent ∧ Claims.TelemetryLineIsQueued ∧ Claims.StaleFrameIsDiscarded

/-- The service protocol's commands complete: READ32, WRITE32, FLASH_READ, FLASH_PROGRAM, TELEMETRY_NOW, BIST_RUN and RESET. `exec` answers a next
state, under conditions on the state and operands alone, on: read32 by ServiceReadAnswers; write32 by ServiceWriteAnswers; flashRead by
ServiceReadsFlash; flashProgram by ServiceProgramsFlash; telemetryNow by ServiceShowsTelemetry; bistRun by ServiceStartsATest; svcReset by
ServiceResets. -/
def Obligations.ServiceProtocolCommandsComplete : Prop :=
  Claims.ServiceReadAnswers ∧ Claims.ServiceWriteAnswers ∧ Claims.ServiceAddressIsRefused ∧ Claims.ServiceReadsFlash ∧
  Claims.ServiceProgramsFlash ∧ Claims.ServiceShowsTelemetry ∧ Claims.ServiceStartsATest ∧ Claims.ServiceResets

/-- The engine finds a frame in the bytes of it, with its command, sequence byte and payload and whatever follows (R456, R457). -/
def Obligations.ServiceFramesScanBack : Prop :=
  ∀ (cmd : Nat) (seq : Byte) (pay rest : List Byte) (cut : Bool) (n : Nat), cmd < 256 → pay.length ≤ 1031 →
    svcScan cut (n + 1) (svcFrame cmd seq pay ++ rest) = (0, .frame cmd seq pay rest)

/-- A character driven without parity errors is received as it was sent: the samples of its bits spell its data, in every format and at every number of samples
a bit, IrDA mode apart (R440, R441). -/
def Obligations.CharactersReadBack : Prop :=
  ∀ (baud fmt ctrl : Word) (v : Nat), bit ctrl 5 = false → v < 2 ^ dbitsOf fmt →
    (let bits := charBits fmt v ++ [true]
     let sam := bits.flatMap (fun b => List.replicate (osOf baud ctrl) { level := b, low2 := !b, high2 := b : RxSample })
     charOf baud fmt ctrl sam = some { data := BitVec.ofNat 9 v, pe := false, fe := false, brk := false })

/-! ## Resets, boot, error log and numeric-mode tables (R164, R465 to R477, R487): clauses in Sys2Proof/Safety/ClausesReset.lean -/

/-- The resets of the reset block, the read pointer of the log and the numeric-mode commit complete: PORST_N, PERST_N, WARM_RESET, TILE_RESET,
ERR_LOG_RD_WRITE and TL_NM_COMMIT. `exec` answers a next state, under conditions on the state and operands alone, on: porstN by
PowerOnResetTakesTheResetValues; perstN by BusResetRebootsTheCore; warmReset by KeyedWriteIsAWarmReset; tileReset by TileResetResetsItsTile;
errLogRdWrite by LogPointerStaysInRange; tlNmCommit by CommitWaitsForTheEdge. -/
def Obligations.ResetCommandsComplete : Prop :=
  Claims.PowerOnResetTakesTheResetValues ∧ Claims.BusResetRebootsTheCore ∧ Claims.KeyedWriteIsAWarmReset ∧
  Claims.WriteWithoutTheKeyIsDropped ∧ Claims.CoreResetReach ∧ Claims.TileResetResetsItsTile ∧ Claims.LogPointerStaysInRange ∧
  Claims.CommitWaitsForTheEdge

/-- The entries of a boot table complete: BOOT_END, BOOT_WRITE32, BOOT_POLL32, BOOT_DELAY, BOOT_LOAD, BOOT_COPY, BOOT_VALIDATE and BOOT_TIMEOUT.
`exec` answers a next state, under conditions on the state and operands alone, on: bootEnd by EndEntryEndsTheBoot; bootWrite32 by
WriteEntryWrites; bootPoll32 by PollEntryWaits; bootDelay by DelayEntryWaits; bootLoad by LoadEntryLoads; bootCopy by CopyEntryCopies;
bootValidate by ValidateEntryValidates; bootTimeout by LongBootTimesOut. -/
def Obligations.BootEntriesComplete : Prop :=
  Claims.EndEntryEndsTheBoot ∧ Claims.WriteEntryWrites ∧ Claims.PollEntryWaits ∧ Claims.DelayEntryWaits ∧ Claims.LoadEntryLoads ∧
  Claims.LoadEntryFails ∧ Claims.CopyEntryCopies ∧ Claims.ValidateEntryValidates ∧ Claims.LongBootTimesOut ∧ Claims.EntriesFollowInOrder

/-- The image search: a good copy A is executed whatever copy B holds; copy B where A is absent or has failed, A's failure being logged; two absent
copies leave the part stand-alone with BLANK and no error (R474). -/
def Obligations.ImageSearchTakesTheFirstGoodCopy : Prop :=
  ∀ (d : Dev) (env : BootEnv) (img : List Byte) (v : Bool), env.noFlash = false →
    (d.copyBlank 0 = false → d.readCopy 0 env.badA = .ok (img, v) → d.bootSearch env = d.bootTable 1 img v) ∧
    (d.copyBlank 0 = true → d.copyBlank 1 = false → d.readCopy 1 env.badB = .ok (img, v) → d.bootSearch env = d.bootTable 2 img v) ∧
    (∀ c, d.copyBlank 0 = false → d.readCopy 0 env.badA = .error c → (d.copyFail 0 c).copyBlank 1 = false →
      (d.copyFail 0 c).readCopy 1 env.badB = .ok (img, v) → d.bootSearch env = (d.copyFail 0 c).bootTable 2 img v) ∧
    (d.copyBlank 0 = true → d.copyBlank 1 = true → d.bootSearch env = (d.orReg Reg.RB_STAT 8).bootEnd false)

/-- A part with LOCK in effect executes no image that it has not verified, and none that fails a check of R411 or whose table is not valid. -/
def Obligations.LockedPartExecutesNoUnverifiedImage : Prop :=
  ∀ (d : Dev) (blk : Nat) (bad : Bool) (img : List Byte), d.sec.lockUse = true →
    d.readCopy blk bad ≠ .ok (img, false) ∧
    (d.imageFault img ≠ none ∨ bootTableOk (img.drop 256) = false → ∀ v, d.readCopy blk bad ≠ .ok (img, v))

/-! ## The test access port and the field tests (R489 to R505): clauses in Sys2Proof/Safety/ClausesReset.lean -/

/-- The commands of the boundary scan complete: TRST_N, EXTEST, SAMPLE_PRELOAD, IDCODE, CLAMP, HIGHZ, EXTEST_PULSE, EXTEST_TRAIN, LEAVE_EXTEST and
BYPASS. `exec` answers a next state, under conditions on the state and operands alone, on: trstN by PortResets; tapExtest by
ExtestDrivesAndCaptures, UnsuppliedCellsKeep; extestPulse, extestTrain by ExtestDrivesAndCaptures; samplePreload by SampleLeavesTheCore; tapIdcode
by IdcodeIsRead; tapClamp, tapHighz by ClampAndHighzHold; leaveExtest by LeavingExtestResetsTheCore; tapBypass by UnlistedCodesBypass. -/
def Obligations.BoundaryScanCommandsComplete : Prop :=
  Claims.PortResets ∧ Claims.ExtestDrivesAndCaptures ∧ Claims.SampleLeavesTheCore ∧ Claims.UnsuppliedCellsKeep ∧ Claims.IdcodeIsRead ∧
  Claims.ClampAndHighzHold ∧ Claims.LeavingExtestResetsTheCore ∧ Claims.UnlistedCodesBypass ∧ Claims.DataRegisterLengths

/-- The field tests complete: FIELD_TEST, MBIST, LBIST, SERDES_LB and TEST_RUN_END. `exec` answers a next state, under conditions on the state and
operands alone, on: fieldTest by FieldTestStartsARun, FieldTestShowsTheResult; mbist, lbist, serdesLb by PrivateTestsStart; testRunEnd by
RunEndShowsTheResult. -/
def Obligations.FieldTestCommandsComplete : Prop :=
  Claims.FieldTestStartsARun ∧ Claims.FieldTestShowsTheResult ∧ Claims.PrivateTestsStart ∧ Claims.DebugDisHidesPrivateTests ∧
  Claims.RunEndShowsTheResult ∧ Claims.ResultParts

/-! ## Reset values -/

/-- What reset leaves, as the register tables give it: GL_IDENT, the tick period and its source, the power state, no error, nothing valid, no table, no
tile running, empty FIFOs and rings, T0, and no request of a power state. -/
def Obligations.ResetLeavesTheStatedValues : Prop :=
  State.reset.dev.reg Reg.GL_IDENT = 0x7260B001 ∧ State.reset.dev.reg Reg.PW_STAT = 0 ∧ State.reset.dev.reg Reg.ERR_STAT = 0 ∧
  State.reset.dev.reg Reg.ERR_TOTAL = 0 ∧ State.reset.dev.tick.count = 0 ∧ State.reset.dev.tick.valid = [] ∧
  State.reset.dev.tiles = [] ∧ State.reset.dev.host.rings = [] ∧ State.reset.sp.p0.rx = [] ∧ State.reset.sp.p1.tx = [] ∧
  State.reset.th.level = 0 ∧ State.reset.th.tripped = false ∧ State.reset.tap.held = false ∧ State.reset.tap.ir = 2 ∧
  State.reset.pending = []

end Statements
end

