-- ==== Sys2Proof/Laws/Tab.lean ====
section
/-! SUPPORT. What the operations of a sparse map do: a read after a write, a write elsewhere, a dropped key; and every operation keeps
the canonical form. -/

namespace Sys2Proof.Machine

variable {α : Type}

theorem tabGet_tabPut (d : Nat → α) (t : Tab α) (k j : Nat) (v : α) :
    tabGet d (tabPut t k v) j = if j = k then v else tabGet d t j := by
  induction t with
  | nil => simp [tabPut, tabGet]
  | cons e t ih =>
    obtain ⟨i, w⟩ := e
    simp only [tabPut]
    split
    · subst_vars; simp only [tabGet]; split <;> simp_all
    · split
      · simp only [tabGet]
      · simp only [tabGet, ih]; grind

theorem tabGet_tabDel (d : Nat → α) (t : Tab α) (k j : Nat) :
    tabGet d (tabDel t k) j = if j = k then d k else tabGet d t j := by
  induction t with
  | nil => simp only [tabDel, tabGet]; split <;> simp_all
  | cons e t ih =>
    obtain ⟨i, w⟩ := e
    simp only [tabDel]
    split <;> simp only [tabGet, ih] <;> grind

/-- What a key reads after a write. -/
theorem tabGet_tabSet [DecidableEq α] (d : Nat → α) (t : Tab α) (k j : Nat) (v : α) :
    tabGet d (tabSet d t k v) j = if j = k then v else tabGet d t j := by
  unfold tabSet
  split
  · rw [tabGet_tabDel]; split <;> simp_all
  · exact tabGet_tabPut d t k j v

@[simp] theorem tabGet_tabSet_same [DecidableEq α] (d : Nat → α) (t : Tab α) (k : Nat) (v : α) :
    tabGet d (tabSet d t k v) k = v := by simp [tabGet_tabSet]

theorem tabGet_tabSet_ne [DecidableEq α] (d : Nat → α) (t : Tab α) {k j : Nat} (v : α) (h : j ≠ k) :
    tabGet d (tabSet d t k v) j = tabGet d t j := by simp [tabGet_tabSet, h]

/-- What a key reads after others are dropped. -/
theorem tabGet_tabDrop (d : Nat → α) (t : Tab α) (p : Nat → Bool) (j : Nat) :
    tabGet d (tabDrop t p) j = if p j then d j else tabGet d t j := by
  induction t with
  | nil => simp [tabDrop, tabGet]
  | cons e t ih =>
    obtain ⟨i, w⟩ := e
    unfold tabDrop at ih ⊢
    simp only [List.filter_cons]
    split <;> simp only [tabGet, ih] <;> grind

/-- What a key reads after consecutive writes: the value of its place, or what it read before. -/
theorem tabGet_tabSetList [DecidableEq α] (d : Nat → α) (t : Tab α) (k j : Nat) (vs : List α) :
    tabGet d (tabSetList d t k vs) j = if h : k ≤ j ∧ j < k + vs.length then vs[j - k] else tabGet d t j := by
  induction vs generalizing t k with
  | nil =>
    have h : ¬ (k ≤ j ∧ j < k + ([] : List α).length) := fun h => Nat.lt_irrefl k (Nat.lt_of_le_of_lt h.1 h.2)
    rw [dif_neg h]; rfl
  | cons v vs ih =>
    simp only [tabSetList, ih, tabGet_tabSet]
    by_cases h0 : j = k
    · subst h0; rw [dif_neg (by omega), dif_pos (by simp)]; simp
    · by_cases h1 : k + 1 ≤ j ∧ j < k + 1 + vs.length
      · have h2 : k ≤ j ∧ j < k + (v :: vs).length := by simp; omega
        rw [dif_pos h1, dif_pos h2]
        have : j - k = (j - (k + 1)) + 1 := by omega
        simp [this]
      · have h2 : ¬ (k ≤ j ∧ j < k + (v :: vs).length) := by simp; omega
        rw [dif_neg h1, dif_neg h2, if_neg h0]

theorem length_tabGetList (d : Nat → α) (t : Tab α) (k n : Nat) : (tabGetList d t k n).length = n := by
  induction n generalizing k with
  | zero => rfl
  | succ n ih => simp [tabGetList, ih]

/-- A list written and read back. -/
theorem tabGetList_congr (d d' : Nat → α) (t t' : Tab α) (k n : Nat)
    (h : ∀ j, k ≤ j → j < k + n → tabGet d t j = tabGet d' t' j) : tabGetList d t k n = tabGetList d' t' k n := by
  induction n generalizing k with
  | zero => rfl
  | succ n ih => simp only [tabGetList]; rw [h k (by omega) (by omega), ih]; intro j h1 h2; exact h j (by omega) (by omega)

/-! ## The canonical form -/

theorem tabSorted_mono {lo lo' : Nat} {t : Tab α} (h : lo' ≤ lo) (hs : tabSorted lo t = true) : tabSorted lo' t = true := by
  cases t with
  | nil => rfl
  | cons e t => obtain ⟨i, w⟩ := e; simp only [tabSorted, Bool.and_eq_true, decide_eq_true_eq] at hs ⊢; exact ⟨by omega, hs.2⟩

theorem tabSorted_tabPut (t : Tab α) (lo k : Nat) (v : α) (hk : lo ≤ k) (hs : tabSorted lo t = true) :
    tabSorted lo (tabPut t k v) = true := by
  induction t generalizing lo with
  | nil => simp [tabPut, tabSorted, hk]
  | cons e t ih =>
    obtain ⟨i, w⟩ := e
    simp only [tabSorted, Bool.and_eq_true, decide_eq_true_eq] at hs
    simp only [tabPut]
    split
    · subst_vars; simp [tabSorted, hs]
    · split
      · simp [tabSorted, hk, hs.2]; omega
      · simp only [tabSorted, Bool.and_eq_true, decide_eq_true_eq]; exact ⟨hs.1, ih _ (by omega) hs.2⟩

theorem tabSorted_filter (t : Tab α) (lo : Nat) (p : Nat × α → Bool) (hs : tabSorted lo t = true) :
    tabSorted lo (t.filter p) = true := by
  induction t generalizing lo with
  | nil => rfl
  | cons e t ih =>
    obtain ⟨i, w⟩ := e
    simp only [tabSorted, Bool.and_eq_true, decide_eq_true_eq] at hs
    simp only [List.filter_cons]
    split
    · simp only [tabSorted, Bool.and_eq_true, decide_eq_true_eq]; exact ⟨hs.1, ih _ hs.2⟩
    · exact tabSorted_mono (by omega) (ih _ hs.2)

theorem tabDel_eq_filter (t : Tab α) (k : Nat) : tabDel t k = t.filter (fun e => decide (k ≠ e.1)) := by
  induction t with
  | nil => rfl
  | cons e t ih => obtain ⟨i, w⟩ := e; by_cases h : k = i <;> simp [tabDel, h, ih] at * <;> exact ih

theorem mem_tabPut {t : Tab α} {k : Nat} {v : α} {e : Nat × α} (h : e ∈ tabPut t k v) : e = (k, v) ∨ e ∈ t := by
  induction t with
  | nil => simpa [tabPut] using h
  | cons f t ih =>
    obtain ⟨i, w⟩ := f
    simp only [tabPut] at h
    split at h
    · grind
    · split at h <;> grind

/-- A write keeps the canonical form. -/
theorem tabWf_tabSet [DecidableEq α] (d : Nat → α) (t : Tab α) (k : Nat) (v : α) (h : tabWf d t = true) :
    tabWf d (tabSet d t k v) = true := by
  simp only [tabWf, Bool.and_eq_true, List.all_eq_true, decide_eq_true_eq] at h ⊢
  unfold tabSet
  split
  · rw [tabDel_eq_filter]
    exact ⟨tabSorted_filter _ _ _ h.1, fun e he => h.2 e (List.mem_filter.mp he).1⟩
  · refine ⟨tabSorted_tabPut _ _ _ _ (Nat.zero_le _) h.1, fun e he => ?_⟩
    rcases mem_tabPut he with rfl | he
    · assumption
    · exact h.2 e he

/-- So do consecutive writes. -/
theorem tabWf_tabSetList [DecidableEq α] (d : Nat → α) (t : Tab α) (k : Nat) (vs : List α) (h : tabWf d t = true) :
    tabWf d (tabSetList d t k vs) = true := by
  induction vs generalizing t k with
  | nil => exact h
  | cons v vs ih => exact ih _ _ (tabWf_tabSet d t k v h)

/-- So does dropping keys. -/
theorem tabWf_tabDrop [DecidableEq α] (d : Nat → α) (t : Tab α) (p : Nat → Bool) (h : tabWf d t = true) :
    tabWf d (tabDrop t p) = true := by
  simp only [tabWf, Bool.and_eq_true, List.all_eq_true, decide_eq_true_eq] at h ⊢
  exact ⟨tabSorted_filter _ _ _ h.1, fun e he => h.2 e (List.mem_filter.mp he).1⟩

end Sys2Proof.Machine
end

