-- ==== Sys2Proof/Laws/Flash.lean ====
section
/-! SUPPORT. What a page of the flash reads after it has been programmed (R269, R270), with the small facts about lists of a sparse map, byte
order and CRC-32C that it rests on. -/

namespace Sys2Proof.Machine

variable {α : Type}

theorem getElem?_tabGetList (d : Nat → α) (t : Tab α) (k n i : Nat) (h : i < n) : (tabGetList d t k n)[i]? = some (tabGet d t (k + i)) := by
  induction n generalizing k i with
  | zero => omega
  | succ n ih =>
    cases i with
    | zero => simp [tabGetList]
    | succ i => simp only [tabGetList, List.getElem?_cons_succ]; rw [ih (k + 1) i (by omega)]; congr 2; omega

/-- A list that has been stored reads back. -/
theorem tabGetList_tabSetList [DecidableEq α] (d : Nat → α) (t : Tab α) (k : Nat) (vs : List α) :
    tabGetList d (tabSetList d t k vs) k vs.length = vs := by
  apply List.ext_getElem?
  intro i
  by_cases h : i < vs.length
  · rw [getElem?_tabGetList _ _ _ _ _ h, tabGet_tabSetList]
    simp [h]
  · rw [List.getElem?_eq_none (by rw [length_tabGetList]; omega), List.getElem?_eq_none (by omega)]

/-- A list stored elsewhere leaves what is read. -/
theorem tabGetList_tabSetList_apart [DecidableEq α] (d : Nat → α) (t : Tab α) (k j n : Nat) (vs : List α)
    (h : j + n ≤ k ∨ k + vs.length ≤ j) : tabGetList d (tabSetList d t k vs) j n = tabGetList d t j n := by
  apply tabGetList_congr
  intro i h1 h2
  rw [tabGet_tabSetList]
  have : ¬ (k ≤ i ∧ i < k + vs.length) := by omega
  simp [this]

theorem length_leBytes (n x : Nat) : (leBytes n x).length = n := by
  induction n generalizing x with
  | zero => rfl
  | succ n ih => simp [leBytes, ih]

/-- Little-endian bytes spell their number (R3). -/
theorem leNat_leBytes (n x : Nat) : leNat (leBytes n x) = x % 256 ^ n := by
  induction n generalizing x with
  | zero => simp [leBytes, leNat, Nat.mod_one]
  | succ n ih =>
    simp only [leBytes, leNat, ih, BitVec.toNat_ofNat]
    rw [show (256 : Nat) ^ (n + 1) = 256 * 256 ^ n by rw [Nat.pow_succ, Nat.mul_comm], Nat.mod_mul]

theorem crc32cBit_lt (c : Nat) (h : c < 2 ^ 32) : crc32cBit c < 2 ^ 32 := by
  unfold crc32cBit
  split
  · exact Nat.xor_lt_two_pow (by omega) (by omega)
  · omega

theorem crc32cByte_lt (c : Nat) (b : Byte) (h : c < 2 ^ 32) : crc32cByte c b < 2 ^ 32 := by
  have h1 : c ^^^ b.toNat < 2 ^ 32 := Nat.xor_lt_two_pow h (by have := b.isLt; omega)
  unfold crc32cByte
  repeat' apply crc32cBit_lt
  exact h1

/-- A CRC-32C has 32 bits. -/
theorem crc32c_lt (bs : List Byte) : crc32c bs < 2 ^ 32 := by
  have h : ∀ (l : List Byte) (c : Nat), c < 2 ^ 32 → l.foldl crc32cByte c < 2 ^ 32 := by
    intro l
    induction l with
    | nil => exact fun c h => h
    | cons b l ih => exact fun c h => ih _ (crc32cByte_lt c b h)
  exact Nat.xor_lt_two_pow (h bs _ (by omega)) (by omega)

/-- Commands on the flash bus leave the contents of the pages. -/
@[simp] theorem Dev.onfi_cells (d : Dev) (pg : Nat) (cs : List Onfi) : (d.onfi pg cs).flash.cells = d.flash.cells := rfl
@[simp] theorem Dev.onfi_undef (d : Dev) (pg : Nat) (cs : List Onfi) : (d.onfi pg cs).flash.undef = d.flash.undef := rfl
@[simp] theorem Dev.onfi_pageErased (d : Dev) (pg : Nat) (cs : List Onfi) : (d.onfi pg cs).pageErased = d.pageErased := rfl
@[simp] theorem Dev.onfi_pageBytes (d : Dev) (pg : Nat) (cs : List Onfi) : (d.onfi pg cs).pageBytes = d.pageBytes := rfl
@[simp] theorem Dev.keepBits_pageBytes (d : Dev) (ch n : Nat) : (d.keepBits ch n).pageBytes = d.pageBytes := rfl

/-- An erased page that is programmed holds the data, and its META matches. -/
theorem programPage_reads (d : Dev) (pg : Nat) (data : List Byte) (he : d.pageErased pg = true) (hl : data.length = 16384) :
    (d.programPage pg data).pageBytes pg 0 16384 = data ∧ (d.programPage pg data).pageMeta pg = true := by
  have hu : tabGet noGen d.flash.undef pg = 0 := by
    simp only [Dev.pageErased, Bool.and_eq_true, decide_eq_true_eq] at he; exact he.1
  have ht : data.take 16384 = data := List.take_of_length_le (by omega)
  have hb : ∀ o n, (d.programPage pg data).pageBytes pg o n =
      tabGetList flashDef (tabSetList flashDef (tabSetList flashDef d.flash.cells (pg * 32768) data) (pg * 32768 + 16386)
        (leBytes 4 (crc32c data))) (pg * 32768 + o) n := by
    intro o n
    simp only [Dev.programPage, Dev.onfi_pageErased, he, if_true, Dev.pageBytes, Dev.onfi_undef, hu, Dev.onfi_cells, ht, ne_eq,
      not_true_eq_false, if_false]
  have h1 : (d.programPage pg data).pageBytes pg 0 16384 = data := by
    rw [hb, tabGetList_tabSetList_apart _ _ _ _ _ _ (by omega), Nat.add_zero]
    have := tabGetList_tabSetList flashDef d.flash.cells (pg * 32768) data
    rwa [hl] at this
  refine ⟨h1, ?_⟩
  have h2 : (d.programPage pg data).pageBytes pg 16386 4 = leBytes 4 (crc32c data) := by
    rw [hb]
    have := tabGetList_tabSetList flashDef (tabSetList flashDef d.flash.cells (pg * 32768) data) (pg * 32768 + 16386) (leBytes 4 (crc32c data))
    rwa [length_leBytes] at this
  have h3 : crc32c data % 256 ^ 4 = crc32c data := Nat.mod_eq_of_lt (crc32c_lt data)
  simp only [Dev.pageMeta, h1, h2, leNat_leBytes, h3, decide_true]

/-- Such a page is read at the first step. -/
theorem readPage_programPage (d : Dev) (pg bits : Nat) (slc : Bool) (data : List Byte) (he : d.pageErased pg = true)
    (hl : data.length = 16384) : ((d.programPage pg data).readPage pg slc (.decodes bits 0)).1 = some data := by
  obtain ⟨h1, h2⟩ := programPage_reads d pg data he hl
  have h : (d.programPage pg data).pageMeta pg = true := h2
  simp only [Dev.readPage, h, Nat.zero_le, and_self, if_true, Dev.onfi_pageBytes, Dev.keepBits_pageBytes]
  exact congrArg some h1

/-- A key that no entry of a sparse map has reads its default. -/
theorem tabGet_absent (d : Nat → α) (t : Tab α) (k : Nat) (h : ∀ e ∈ t, e.1 ≠ k) : tabGet d t k = d k := by
  induction t with
  | nil => rfl
  | cons e t ih =>
    have h1 : e.1 ≠ k := h e (by simp)
    have h2 := ih fun e he => h e (by simp [he])
    simp only [tabGet]
    grind

/-- A page that is not the default everywhere is not erased. -/
theorem programPage_not_erased (d : Dev) (pg : Nat) (data : List Byte) (he : d.pageErased pg = true) (hl : data.length = 16384)
    (i : Nat) (hi : i < 16384) (b : Byte) (hb : data[i]? = some b) (hne : b ≠ 0xFF) : (d.programPage pg data).pageErased pg = false := by
  obtain ⟨h1, -⟩ := programPage_reads d pg data he hl
  cases hc : (d.programPage pg data).pageErased pg with
  | false => rfl
  | true =>
    exfalso
    simp only [Dev.pageErased, Bool.and_eq_true, decide_eq_true_eq, Bool.not_eq_true', List.any_eq_false] at hc
    obtain ⟨hu, hn⟩ := hc
    have h2 : (d.programPage pg data).pageBytes pg 0 16384 =
        tabGetList flashDef (d.programPage pg data).flash.cells (pg * 32768 + 0) 16384 := by
      simp only [Dev.pageBytes, hu, ne_eq, not_true_eq_false, if_false]
    rw [← h1, h2, getElem?_tabGetList _ _ _ _ _ hi, tabGet_absent _ _ _ (fun e he hk => hn e he (by rw [hk]; omega))] at hb
    exact hne (Option.some.inj hb).symm

end Sys2Proof.Machine
end

