-- ==== Sys2Proof/Laws/Mem.lean ====
section
/-! SUPPORT. Every operation that writes a memory keeps the canonical form of all of them, and the memories of reset have it. -/

namespace Sys2Proof.Machine

/-- The parts of the canonical form. -/
theorem memory_wf_iff (d : Dev) : Memory.wf d = true ↔
    tabWf (spadDef d.spadGen) d.mem.spad = true ∧ tabWf imemDef d.mem.imem = true ∧ tabWf nmDef d.mem.nmSh = true ∧
    tabWf nmDef d.mem.nmAct = true ∧ tabWf zeroW d.mem.acc = true ∧ tabWf zeroW d.mem.vreg = true ∧ tabWf zeroW d.mem.ctr = true ∧
    tabWf (dramDef d.dram.scr) d.dram.cells = true ∧ tabWf flashDef d.flash.cells = true := by
  simp [Memory.wf, and_assoc]

theorem memory_wf_reset : Memory.wf State.reset.dev = true := by decide

/-- A change that leaves every memory leaves the form. -/
theorem memory_wf_congr {d e : Dev} (h1 : e.spadGen = d.spadGen) (h2 : e.mem = d.mem) (h3 : e.dram.scr = d.dram.scr)
    (h4 : e.dram.cells = d.dram.cells) (h5 : e.flash.cells = d.flash.cells) : Memory.wf e = Memory.wf d := by
  simp [Memory.wf, h1, h2, h3, h4, h5]

/-- An entry that the old default does not equal is not the new default either, where the new one differs only on keys that were dropped. -/
theorem tabWf_redefault {α : Type} [DecidableEq α] (d e : Nat → α) (t : Tab α) (p : Nat → Bool) (h : tabWf d t = true)
    (he : ∀ k, p k = false → e k = d k) : tabWf e (tabDrop t p) = true := by
  simp only [tabWf, Bool.and_eq_true, List.all_eq_true, decide_eq_true_eq] at h ⊢
  refine ⟨tabSorted_filter _ _ _ h.1, fun x hx => ?_⟩
  obtain ⟨h1, h2⟩ := List.mem_filter.mp hx
  rw [he _ (by simpa using h2)]
  exact h.2 x h1

theorem memory_wf_setSpad (d : Dev) (t a : Nat) (bs : List Byte) (h : Memory.wf d = true) : Memory.wf (d.setSpad t a bs) = true := by
  rw [memory_wf_iff] at h ⊢
  exact ⟨tabWf_tabSetList _ _ _ _ h.1, h.2⟩

theorem memory_wf_setImem (d : Dev) (t a : Nat) (bs : List Byte) (h : Memory.wf d = true) : Memory.wf (d.setImem t a bs) = true := by
  rw [memory_wf_iff] at h ⊢
  exact ⟨h.1, tabWf_tabSetList _ _ _ _ h.2.1, h.2.2⟩

theorem memory_wf_setAcc (d : Dev) (t s r : Nat) (fp : Bool) (ws : List Word) (h : Memory.wf d = true) :
    Memory.wf (d.setAcc t s r fp ws) = true := by
  rw [memory_wf_iff] at h ⊢
  exact ⟨h.1, h.2.1, h.2.2.1, h.2.2.2.1, tabWf_tabSetList _ _ _ _ h.2.2.2.2.1, h.2.2.2.2.2⟩

theorem memory_wf_setVec (d : Dev) (t v : Nat) (ws : List Word) (h : Memory.wf d = true) : Memory.wf (d.setVec t v ws) = true := by
  rw [memory_wf_iff] at h ⊢
  exact ⟨h.1, h.2.1, h.2.2.1, h.2.2.2.1, h.2.2.2.2.1, tabWf_tabSetList _ _ _ _ h.2.2.2.2.2.1, h.2.2.2.2.2.2⟩

theorem memory_wf_setCtr (d : Dev) (t i : Nat) (v : Word) (h : Memory.wf d = true) : Memory.wf (d.setCtr t i v) = true := by
  rw [memory_wf_iff] at h ⊢
  exact ⟨h.1, h.2.1, h.2.2.1, h.2.2.2.1, h.2.2.2.2.1, h.2.2.2.2.2.1, tabWf_tabSet _ _ _ _ h.2.2.2.2.2.2.1, h.2.2.2.2.2.2.2⟩

theorem memory_wf_addCtr (d : Dev) (t i : Nat) (v : Word) (h : Memory.wf d = true) : Memory.wf (d.addCtr t i v) = true := by
  rw [memory_wf_iff] at h ⊢
  exact ⟨h.1, h.2.1, h.2.2.1, h.2.2.2.1, h.2.2.2.2.1, h.2.2.2.2.2.1, tabWf_tabSet _ _ _ _ h.2.2.2.2.2.2.1, h.2.2.2.2.2.2.2⟩

theorem memory_wf_setDram (d : Dev) (a : Nat) (bs : List Byte) (h : Memory.wf d = true) : Memory.wf (d.setDram a bs) = true := by
  rw [memory_wf_iff] at h ⊢
  exact ⟨h.1, h.2.1, h.2.2.1, h.2.2.2.1, h.2.2.2.2.1, h.2.2.2.2.2.1, h.2.2.2.2.2.2.1, tabWf_tabSetList _ _ _ _ h.2.2.2.2.2.2.2.1,
    h.2.2.2.2.2.2.2.2⟩

/-- A new range changes what unlisted addresses read as within the range only. -/
theorem dramDef_append (scr : List Scramble) (x : Scramble) (a : Nat) (h : ¬ (x.lo ≤ a ∧ a < x.hi)) :
    dramDef (scr ++ [x]) a = dramDef scr a := by
  have hg : scrambleGen (scr ++ [x]) a = scrambleGen scr a := by simp [scrambleGen, List.foldl_append, h]
  simp only [dramDef, hg]

theorem memory_wf_scramble (d : Dev) (lo hi : Nat) (h : Memory.wf d = true) : Memory.wf (d.scramble lo hi) = true := by
  rw [memory_wf_iff] at h ⊢
  simp only [Dev.scramble]
  refine ⟨h.1, h.2.1, h.2.2.1, h.2.2.2.1, h.2.2.2.2.1, h.2.2.2.2.2.1, h.2.2.2.2.2.2.1, ?_, h.2.2.2.2.2.2.2.2⟩
  exact tabWf_redefault _ _ _ _ h.2.2.2.2.2.2.2.1 fun k hk => dramDef_append _ _ _ (of_decide_eq_false hk)

theorem memory_wf_zeroDram (d : Dev) (lo hi : Nat) (h : Memory.wf d = true) : Memory.wf (d.zeroDram lo hi) = true := by
  rw [memory_wf_iff] at h ⊢
  simp only [Dev.zeroDram]
  refine ⟨h.1, h.2.1, h.2.2.1, h.2.2.2.1, h.2.2.2.2.1, h.2.2.2.2.2.1, h.2.2.2.2.2.2.1, ?_, h.2.2.2.2.2.2.2.2⟩
  exact tabWf_redefault _ _ _ _ h.2.2.2.2.2.2.2.1 fun k hk => dramDef_append _ _ _ (of_decide_eq_false hk)

theorem memory_wf_programPage (d : Dev) (pg : Nat) (bs : List Byte) (h : Memory.wf d = true) : Memory.wf (d.programPage pg bs) = true := by
  unfold Dev.programPage
  dsimp only
  split
  · rw [memory_wf_iff] at h ⊢
    exact ⟨h.1, h.2.1, h.2.2.1, h.2.2.2.1, h.2.2.2.2.1, h.2.2.2.2.2.1, h.2.2.2.2.2.2.1, h.2.2.2.2.2.2.2.1,
      tabWf_tabSetList _ _ _ _ (tabWf_tabSetList _ _ _ _ h.2.2.2.2.2.2.2.2)⟩
  · exact h

theorem memory_wf_eraseBlock (d : Dev) (pg : Nat) (h : Memory.wf d = true) : Memory.wf (d.eraseBlock pg) = true := by
  rw [memory_wf_iff] at h ⊢
  simp only [Dev.eraseBlock]
  exact ⟨h.1, h.2.1, h.2.2.1, h.2.2.2.1, h.2.2.2.2.1, h.2.2.2.2.2.1, h.2.2.2.2.2.2.1, h.2.2.2.2.2.2.2.1, tabWf_tabDrop _ _ _ h.2.2.2.2.2.2.2.2⟩

theorem memory_wf_loseTiles (d : Dev) (h : Memory.wf d = true) : Memory.wf d.loseTiles = true := by
  rw [memory_wf_iff] at h ⊢
  exact ⟨rfl, h.2.1, h.2.2.1, h.2.2.2.1, rfl, h.2.2.2.2.2.1, rfl, h.2.2.2.2.2.2.2.1, h.2.2.2.2.2.2.2.2⟩

theorem memory_wf_clearAcc (d : Dev) (p : Nat → Bool) (h : Memory.wf d = true) : Memory.wf (d.clearAcc p) = true := by
  rw [memory_wf_iff] at h ⊢
  simp only [Dev.clearAcc]
  exact ⟨h.1, h.2.1, h.2.2.1, h.2.2.2.1, tabWf_tabDrop _ _ _ h.2.2.2.2.1, h.2.2.2.2.2⟩

theorem memory_wf_nmDefault (d : Dev) (p : Nat → Bool) (h : Memory.wf d = true) : Memory.wf (d.nmDefault p) = true := by
  rw [memory_wf_iff] at h ⊢
  simp only [Dev.nmDefault]
  exact ⟨h.1, h.2.1, tabWf_tabDrop _ _ _ h.2.2.1, tabWf_tabDrop _ _ _ h.2.2.2.1, h.2.2.2.2⟩

theorem memory_wf_scrubTiles (d : Dev) (p : Nat → Bool) (h : Memory.wf d = true) : Memory.wf (d.scrubTiles p) = true := by
  rw [memory_wf_iff] at h ⊢
  simp only [Dev.scrubTiles]
  refine ⟨tabWf_redefault _ _ _ _ h.1 fun k hk => ?_, tabWf_tabDrop _ _ _ h.2.1, h.2.2.1, h.2.2.2.1, tabWf_tabDrop _ _ _ h.2.2.2.2.1,
    tabWf_tabDrop _ _ _ h.2.2.2.2.2.1, tabWf_tabDrop _ _ _ h.2.2.2.2.2.2.1, h.2.2.2.2.2.2.2.1, h.2.2.2.2.2.2.2.2⟩
  simp only [spadDef, tabGet_tabDrop, hk, Bool.false_eq_true, if_false]

end Sys2Proof.Machine
end

