-- ==== Sys2Proof/Laws/State.lean ====
section
/-! SUPPORT. What each named update leaves in each field of the state, by definition, and what the gate before every meaning does. -/

namespace Sys2Proof.Machine

/-! ### State.onDev -/

@[simp] theorem State.onDev_dev (s : State) (f : Dev → Dev) : (s.onDev f).dev = f s.dev := rfl
@[simp] theorem State.onDev_sp (s : State) (f : Dev → Dev) : (s.onDev f).sp = s.sp := rfl
@[simp] theorem State.onDev_th (s : State) (f : Dev → Dev) : (s.onDev f).th = s.th := rfl
@[simp] theorem State.onDev_tap (s : State) (f : Dev → Dev) : (s.onDev f).tap = s.tap := rfl
@[simp] theorem State.onDev_pending (s : State) (f : Dev → Dev) : (s.onDev f).pending = s.pending := rfl

/-! ### State.withPending -/

@[simp] theorem State.withPending_dev (s : State) (cs : List Instr) : (s.withPending cs).dev = s.dev := rfl
@[simp] theorem State.withPending_sp (s : State) (cs : List Instr) : (s.withPending cs).sp = s.sp := rfl
@[simp] theorem State.withPending_th (s : State) (cs : List Instr) : (s.withPending cs).th = s.th := rfl
@[simp] theorem State.withPending_tap (s : State) (cs : List Instr) : (s.withPending cs).tap = s.tap := rfl
@[simp] theorem State.withPending_pending (s : State) (cs : List Instr) : (s.withPending cs).pending = cs := rfl

/-! ### State.idle -/

@[simp] theorem State.idle_dev (s : State) : (s.idle).dev = { s.dev with nowNs := s.dev.nowNs + 10 } := rfl
@[simp] theorem State.idle_sp (s : State) : (s.idle).sp = s.sp := rfl
@[simp] theorem State.idle_th (s : State) : (s.idle).th = s.th := rfl
@[simp] theorem State.idle_tap (s : State) : (s.idle).tap = s.tap := rfl
@[simp] theorem State.idle_pending (s : State) : (s.idle).pending = s.pending := rfl

/-! ### State.answer -/

@[simp] theorem State.answer_dev (s : State) (bs : List Byte) : (s.answer bs).dev = { s.dev with host := { s.dev.host with rdData := bs } } := rfl
@[simp] theorem State.answer_sp (s : State) (bs : List Byte) : (s.answer bs).sp = s.sp := rfl
@[simp] theorem State.answer_th (s : State) (bs : List Byte) : (s.answer bs).th = s.th := rfl
@[simp] theorem State.answer_tap (s : State) (bs : List Byte) : (s.answer bs).tap = s.tap := rfl
@[simp] theorem State.answer_pending (s : State) (bs : List Byte) : (s.answer bs).pending = s.pending := rfl

/-! ### Dev.setReg -/

@[simp] theorem Dev.setReg_regs (d : Dev) (o : Nat) (v : Word) : (d.setReg o v).regs = tabSet regReset d.regs o v := rfl
@[simp] theorem Dev.setReg_nowNs (d : Dev) (o : Nat) (v : Word) : (d.setReg o v).nowNs = d.nowNs := rfl
@[simp] theorem Dev.setReg_porstNs (d : Dev) (o : Nat) (v : Word) : (d.setReg o v).porstNs = d.porstNs := rfl
@[simp] theorem Dev.setReg_freeCtr (d : Dev) (o : Nat) (v : Word) : (d.setReg o v).freeCtr = d.freeCtr := rfl
@[simp] theorem Dev.setReg_log (d : Dev) (o : Nat) (v : Word) : (d.setReg o v).log = d.log := rfl
@[simp] theorem Dev.setReg_dropPend (d : Dev) (o : Nat) (v : Word) : (d.setReg o v).dropPend = d.dropPend := rfl
@[simp] theorem Dev.setReg_tick (d : Dev) (o : Nat) (v : Word) : (d.setReg o v).tick = d.tick := rfl
@[simp] theorem Dev.setReg_tiles (d : Dev) (o : Nat) (v : Word) : (d.setReg o v).tiles = d.tiles := rfl
@[simp] theorem Dev.setReg_mem (d : Dev) (o : Nat) (v : Word) : (d.setReg o v).mem = d.mem := rfl
@[simp] theorem Dev.setReg_spadGen (d : Dev) (o : Nat) (v : Word) : (d.setReg o v).spadGen = d.spadGen := rfl
@[simp] theorem Dev.setReg_fab (d : Dev) (o : Nat) (v : Word) : (d.setReg o v).fab = d.fab := rfl
@[simp] theorem Dev.setReg_bars (d : Dev) (o : Nat) (v : Word) : (d.setReg o v).bars = d.bars := rfl
@[simp] theorem Dev.setReg_plan (d : Dev) (o : Nat) (v : Word) : (d.setReg o v).plan = d.plan := rfl
@[simp] theorem Dev.setReg_dram (d : Dev) (o : Nat) (v : Word) : (d.setReg o v).dram = d.dram := rfl
@[simp] theorem Dev.setReg_flash (d : Dev) (o : Nat) (v : Word) : (d.setReg o v).flash = d.flash := rfl
@[simp] theorem Dev.setReg_map (d : Dev) (o : Nat) (v : Word) : (d.setReg o v).map = d.map := rfl
@[simp] theorem Dev.setReg_pwr (d : Dev) (o : Nat) (v : Word) : (d.setReg o v).pwr = d.pwr := rfl
@[simp] theorem Dev.setReg_sec (d : Dev) (o : Nat) (v : Word) : (d.setReg o v).sec = d.sec := rfl
@[simp] theorem Dev.setReg_host (d : Dev) (o : Nat) (v : Word) : (d.setReg o v).host = d.host := rfl
@[simp] theorem Dev.setReg_boot (d : Dev) (o : Nat) (v : Word) : (d.setReg o v).boot = d.boot := rfl
@[simp] theorem Dev.setReg_lk (d : Dev) (o : Nat) (v : Word) : (d.setReg o v).lk = d.lk := rfl
@[simp] theorem Dev.setReg_pins (d : Dev) (o : Nat) (v : Word) : (d.setReg o v).pins = d.pins := rfl
@[simp] theorem Dev.setReg_test (d : Dev) (o : Nat) (v : Word) : (d.setReg o v).test = d.test := rfl

/-! ### Dev.orReg -/

@[simp] theorem Dev.orReg_nowNs (d : Dev) (o b : Nat) : (d.orReg o b).nowNs = d.nowNs := rfl
@[simp] theorem Dev.orReg_porstNs (d : Dev) (o b : Nat) : (d.orReg o b).porstNs = d.porstNs := rfl
@[simp] theorem Dev.orReg_freeCtr (d : Dev) (o b : Nat) : (d.orReg o b).freeCtr = d.freeCtr := rfl
@[simp] theorem Dev.orReg_log (d : Dev) (o b : Nat) : (d.orReg o b).log = d.log := rfl
@[simp] theorem Dev.orReg_dropPend (d : Dev) (o b : Nat) : (d.orReg o b).dropPend = d.dropPend := rfl
@[simp] theorem Dev.orReg_tick (d : Dev) (o b : Nat) : (d.orReg o b).tick = d.tick := rfl
@[simp] theorem Dev.orReg_tiles (d : Dev) (o b : Nat) : (d.orReg o b).tiles = d.tiles := rfl
@[simp] theorem Dev.orReg_mem (d : Dev) (o b : Nat) : (d.orReg o b).mem = d.mem := rfl
@[simp] theorem Dev.orReg_spadGen (d : Dev) (o b : Nat) : (d.orReg o b).spadGen = d.spadGen := rfl
@[simp] theorem Dev.orReg_fab (d : Dev) (o b : Nat) : (d.orReg o b).fab = d.fab := rfl
@[simp] theorem Dev.orReg_bars (d : Dev) (o b : Nat) : (d.orReg o b).bars = d.bars := rfl
@[simp] theorem Dev.orReg_plan (d : Dev) (o b : Nat) : (d.orReg o b).plan = d.plan := rfl
@[simp] theorem Dev.orReg_dram (d : Dev) (o b : Nat) : (d.orReg o b).dram = d.dram := rfl
@[simp] theorem Dev.orReg_flash (d : Dev) (o b : Nat) : (d.orReg o b).flash = d.flash := rfl
@[simp] theorem Dev.orReg_map (d : Dev) (o b : Nat) : (d.orReg o b).map = d.map := rfl
@[simp] theorem Dev.orReg_pwr (d : Dev) (o b : Nat) : (d.orReg o b).pwr = d.pwr := rfl
@[simp] theorem Dev.orReg_sec (d : Dev) (o b : Nat) : (d.orReg o b).sec = d.sec := rfl
@[simp] theorem Dev.orReg_host (d : Dev) (o b : Nat) : (d.orReg o b).host = d.host := rfl
@[simp] theorem Dev.orReg_boot (d : Dev) (o b : Nat) : (d.orReg o b).boot = d.boot := rfl
@[simp] theorem Dev.orReg_lk (d : Dev) (o b : Nat) : (d.orReg o b).lk = d.lk := rfl
@[simp] theorem Dev.orReg_pins (d : Dev) (o b : Nat) : (d.orReg o b).pins = d.pins := rfl
@[simp] theorem Dev.orReg_test (d : Dev) (o b : Nat) : (d.orReg o b).test = d.test := rfl

/-! ### Dev.clrReg -/

@[simp] theorem Dev.clrReg_nowNs (d : Dev) (o b : Nat) : (d.clrReg o b).nowNs = d.nowNs := rfl
@[simp] theorem Dev.clrReg_porstNs (d : Dev) (o b : Nat) : (d.clrReg o b).porstNs = d.porstNs := rfl
@[simp] theorem Dev.clrReg_freeCtr (d : Dev) (o b : Nat) : (d.clrReg o b).freeCtr = d.freeCtr := rfl
@[simp] theorem Dev.clrReg_log (d : Dev) (o b : Nat) : (d.clrReg o b).log = d.log := rfl
@[simp] theorem Dev.clrReg_dropPend (d : Dev) (o b : Nat) : (d.clrReg o b).dropPend = d.dropPend := rfl
@[simp] theorem Dev.clrReg_tick (d : Dev) (o b : Nat) : (d.clrReg o b).tick = d.tick := rfl
@[simp] theorem Dev.clrReg_tiles (d : Dev) (o b : Nat) : (d.clrReg o b).tiles = d.tiles := rfl
@[simp] theorem Dev.clrReg_mem (d : Dev) (o b : Nat) : (d.clrReg o b).mem = d.mem := rfl
@[simp] theorem Dev.clrReg_spadGen (d : Dev) (o b : Nat) : (d.clrReg o b).spadGen = d.spadGen := rfl
@[simp] theorem Dev.clrReg_fab (d : Dev) (o b : Nat) : (d.clrReg o b).fab = d.fab := rfl
@[simp] theorem Dev.clrReg_bars (d : Dev) (o b : Nat) : (d.clrReg o b).bars = d.bars := rfl
@[simp] theorem Dev.clrReg_plan (d : Dev) (o b : Nat) : (d.clrReg o b).plan = d.plan := rfl
@[simp] theorem Dev.clrReg_dram (d : Dev) (o b : Nat) : (d.clrReg o b).dram = d.dram := rfl
@[simp] theorem Dev.clrReg_flash (d : Dev) (o b : Nat) : (d.clrReg o b).flash = d.flash := rfl
@[simp] theorem Dev.clrReg_map (d : Dev) (o b : Nat) : (d.clrReg o b).map = d.map := rfl
@[simp] theorem Dev.clrReg_pwr (d : Dev) (o b : Nat) : (d.clrReg o b).pwr = d.pwr := rfl
@[simp] theorem Dev.clrReg_sec (d : Dev) (o b : Nat) : (d.clrReg o b).sec = d.sec := rfl
@[simp] theorem Dev.clrReg_host (d : Dev) (o b : Nat) : (d.clrReg o b).host = d.host := rfl
@[simp] theorem Dev.clrReg_boot (d : Dev) (o b : Nat) : (d.clrReg o b).boot = d.boot := rfl
@[simp] theorem Dev.clrReg_lk (d : Dev) (o b : Nat) : (d.clrReg o b).lk = d.lk := rfl
@[simp] theorem Dev.clrReg_pins (d : Dev) (o b : Nat) : (d.clrReg o b).pins = d.pins := rfl
@[simp] theorem Dev.clrReg_test (d : Dev) (o b : Nat) : (d.clrReg o b).test = d.test := rfl

/-! ### Dev.incReg -/

@[simp] theorem Dev.incReg_nowNs (d : Dev) (o n : Nat) : (d.incReg o n).nowNs = d.nowNs := rfl
@[simp] theorem Dev.incReg_porstNs (d : Dev) (o n : Nat) : (d.incReg o n).porstNs = d.porstNs := rfl
@[simp] theorem Dev.incReg_freeCtr (d : Dev) (o n : Nat) : (d.incReg o n).freeCtr = d.freeCtr := rfl
@[simp] theorem Dev.incReg_log (d : Dev) (o n : Nat) : (d.incReg o n).log = d.log := rfl
@[simp] theorem Dev.incReg_dropPend (d : Dev) (o n : Nat) : (d.incReg o n).dropPend = d.dropPend := rfl
@[simp] theorem Dev.incReg_tick (d : Dev) (o n : Nat) : (d.incReg o n).tick = d.tick := rfl
@[simp] theorem Dev.incReg_tiles (d : Dev) (o n : Nat) : (d.incReg o n).tiles = d.tiles := rfl
@[simp] theorem Dev.incReg_mem (d : Dev) (o n : Nat) : (d.incReg o n).mem = d.mem := rfl
@[simp] theorem Dev.incReg_spadGen (d : Dev) (o n : Nat) : (d.incReg o n).spadGen = d.spadGen := rfl
@[simp] theorem Dev.incReg_fab (d : Dev) (o n : Nat) : (d.incReg o n).fab = d.fab := rfl
@[simp] theorem Dev.incReg_bars (d : Dev) (o n : Nat) : (d.incReg o n).bars = d.bars := rfl
@[simp] theorem Dev.incReg_plan (d : Dev) (o n : Nat) : (d.incReg o n).plan = d.plan := rfl
@[simp] theorem Dev.incReg_dram (d : Dev) (o n : Nat) : (d.incReg o n).dram = d.dram := rfl
@[simp] theorem Dev.incReg_flash (d : Dev) (o n : Nat) : (d.incReg o n).flash = d.flash := rfl
@[simp] theorem Dev.incReg_map (d : Dev) (o n : Nat) : (d.incReg o n).map = d.map := rfl
@[simp] theorem Dev.incReg_pwr (d : Dev) (o n : Nat) : (d.incReg o n).pwr = d.pwr := rfl
@[simp] theorem Dev.incReg_sec (d : Dev) (o n : Nat) : (d.incReg o n).sec = d.sec := rfl
@[simp] theorem Dev.incReg_host (d : Dev) (o n : Nat) : (d.incReg o n).host = d.host := rfl
@[simp] theorem Dev.incReg_boot (d : Dev) (o n : Nat) : (d.incReg o n).boot = d.boot := rfl
@[simp] theorem Dev.incReg_lk (d : Dev) (o n : Nat) : (d.incReg o n).lk = d.lk := rfl
@[simp] theorem Dev.incReg_pins (d : Dev) (o n : Nat) : (d.incReg o n).pins = d.pins := rfl
@[simp] theorem Dev.incReg_test (d : Dev) (o n : Nat) : (d.incReg o n).test = d.test := rfl

/-! ### Dev.fldReg -/

@[simp] theorem Dev.fldReg_nowNs (d : Dev) (o lo len x : Nat) : (d.fldReg o lo len x).nowNs = d.nowNs := rfl
@[simp] theorem Dev.fldReg_porstNs (d : Dev) (o lo len x : Nat) : (d.fldReg o lo len x).porstNs = d.porstNs := rfl
@[simp] theorem Dev.fldReg_freeCtr (d : Dev) (o lo len x : Nat) : (d.fldReg o lo len x).freeCtr = d.freeCtr := rfl
@[simp] theorem Dev.fldReg_log (d : Dev) (o lo len x : Nat) : (d.fldReg o lo len x).log = d.log := rfl
@[simp] theorem Dev.fldReg_dropPend (d : Dev) (o lo len x : Nat) : (d.fldReg o lo len x).dropPend = d.dropPend := rfl
@[simp] theorem Dev.fldReg_tick (d : Dev) (o lo len x : Nat) : (d.fldReg o lo len x).tick = d.tick := rfl
@[simp] theorem Dev.fldReg_tiles (d : Dev) (o lo len x : Nat) : (d.fldReg o lo len x).tiles = d.tiles := rfl
@[simp] theorem Dev.fldReg_mem (d : Dev) (o lo len x : Nat) : (d.fldReg o lo len x).mem = d.mem := rfl
@[simp] theorem Dev.fldReg_spadGen (d : Dev) (o lo len x : Nat) : (d.fldReg o lo len x).spadGen = d.spadGen := rfl
@[simp] theorem Dev.fldReg_fab (d : Dev) (o lo len x : Nat) : (d.fldReg o lo len x).fab = d.fab := rfl
@[simp] theorem Dev.fldReg_bars (d : Dev) (o lo len x : Nat) : (d.fldReg o lo len x).bars = d.bars := rfl
@[simp] theorem Dev.fldReg_plan (d : Dev) (o lo len x : Nat) : (d.fldReg o lo len x).plan = d.plan := rfl
@[simp] theorem Dev.fldReg_dram (d : Dev) (o lo len x : Nat) : (d.fldReg o lo len x).dram = d.dram := rfl
@[simp] theorem Dev.fldReg_flash (d : Dev) (o lo len x : Nat) : (d.fldReg o lo len x).flash = d.flash := rfl
@[simp] theorem Dev.fldReg_map (d : Dev) (o lo len x : Nat) : (d.fldReg o lo len x).map = d.map := rfl
@[simp] theorem Dev.fldReg_pwr (d : Dev) (o lo len x : Nat) : (d.fldReg o lo len x).pwr = d.pwr := rfl
@[simp] theorem Dev.fldReg_sec (d : Dev) (o lo len x : Nat) : (d.fldReg o lo len x).sec = d.sec := rfl
@[simp] theorem Dev.fldReg_host (d : Dev) (o lo len x : Nat) : (d.fldReg o lo len x).host = d.host := rfl
@[simp] theorem Dev.fldReg_boot (d : Dev) (o lo len x : Nat) : (d.fldReg o lo len x).boot = d.boot := rfl
@[simp] theorem Dev.fldReg_lk (d : Dev) (o lo len x : Nat) : (d.fldReg o lo len x).lk = d.lk := rfl
@[simp] theorem Dev.fldReg_pins (d : Dev) (o lo len x : Nat) : (d.fldReg o lo len x).pins = d.pins := rfl
@[simp] theorem Dev.fldReg_test (d : Dev) (o lo len x : Nat) : (d.fldReg o lo len x).test = d.test := rfl

/-! ### Dev.bitReg -/

@[simp] theorem Dev.bitReg_nowNs (d : Dev) (o i : Nat) (b : Bool) : (d.bitReg o i b).nowNs = d.nowNs := rfl
@[simp] theorem Dev.bitReg_porstNs (d : Dev) (o i : Nat) (b : Bool) : (d.bitReg o i b).porstNs = d.porstNs := rfl
@[simp] theorem Dev.bitReg_freeCtr (d : Dev) (o i : Nat) (b : Bool) : (d.bitReg o i b).freeCtr = d.freeCtr := rfl
@[simp] theorem Dev.bitReg_log (d : Dev) (o i : Nat) (b : Bool) : (d.bitReg o i b).log = d.log := rfl
@[simp] theorem Dev.bitReg_dropPend (d : Dev) (o i : Nat) (b : Bool) : (d.bitReg o i b).dropPend = d.dropPend := rfl
@[simp] theorem Dev.bitReg_tick (d : Dev) (o i : Nat) (b : Bool) : (d.bitReg o i b).tick = d.tick := rfl
@[simp] theorem Dev.bitReg_tiles (d : Dev) (o i : Nat) (b : Bool) : (d.bitReg o i b).tiles = d.tiles := rfl
@[simp] theorem Dev.bitReg_mem (d : Dev) (o i : Nat) (b : Bool) : (d.bitReg o i b).mem = d.mem := rfl
@[simp] theorem Dev.bitReg_spadGen (d : Dev) (o i : Nat) (b : Bool) : (d.bitReg o i b).spadGen = d.spadGen := rfl
@[simp] theorem Dev.bitReg_fab (d : Dev) (o i : Nat) (b : Bool) : (d.bitReg o i b).fab = d.fab := rfl
@[simp] theorem Dev.bitReg_bars (d : Dev) (o i : Nat) (b : Bool) : (d.bitReg o i b).bars = d.bars := rfl
@[simp] theorem Dev.bitReg_plan (d : Dev) (o i : Nat) (b : Bool) : (d.bitReg o i b).plan = d.plan := rfl
@[simp] theorem Dev.bitReg_dram (d : Dev) (o i : Nat) (b : Bool) : (d.bitReg o i b).dram = d.dram := rfl
@[simp] theorem Dev.bitReg_flash (d : Dev) (o i : Nat) (b : Bool) : (d.bitReg o i b).flash = d.flash := rfl
@[simp] theorem Dev.bitReg_map (d : Dev) (o i : Nat) (b : Bool) : (d.bitReg o i b).map = d.map := rfl
@[simp] theorem Dev.bitReg_pwr (d : Dev) (o i : Nat) (b : Bool) : (d.bitReg o i b).pwr = d.pwr := rfl
@[simp] theorem Dev.bitReg_sec (d : Dev) (o i : Nat) (b : Bool) : (d.bitReg o i b).sec = d.sec := rfl
@[simp] theorem Dev.bitReg_host (d : Dev) (o i : Nat) (b : Bool) : (d.bitReg o i b).host = d.host := rfl
@[simp] theorem Dev.bitReg_boot (d : Dev) (o i : Nat) (b : Bool) : (d.bitReg o i b).boot = d.boot := rfl
@[simp] theorem Dev.bitReg_lk (d : Dev) (o i : Nat) (b : Bool) : (d.bitReg o i b).lk = d.lk := rfl
@[simp] theorem Dev.bitReg_pins (d : Dev) (o i : Nat) (b : Bool) : (d.bitReg o i b).pins = d.pins := rfl
@[simp] theorem Dev.bitReg_test (d : Dev) (o i : Nat) (b : Bool) : (d.bitReg o i b).test = d.test := rfl

/-! ### Dev.setTile -/

@[simp] theorem Dev.setTile_regs (d : Dev) (t : Nat) (ts : TileSt) : (d.setTile t ts).regs = d.regs := rfl
@[simp] theorem Dev.setTile_nowNs (d : Dev) (t : Nat) (ts : TileSt) : (d.setTile t ts).nowNs = d.nowNs := rfl
@[simp] theorem Dev.setTile_porstNs (d : Dev) (t : Nat) (ts : TileSt) : (d.setTile t ts).porstNs = d.porstNs := rfl
@[simp] theorem Dev.setTile_freeCtr (d : Dev) (t : Nat) (ts : TileSt) : (d.setTile t ts).freeCtr = d.freeCtr := rfl
@[simp] theorem Dev.setTile_log (d : Dev) (t : Nat) (ts : TileSt) : (d.setTile t ts).log = d.log := rfl
@[simp] theorem Dev.setTile_dropPend (d : Dev) (t : Nat) (ts : TileSt) : (d.setTile t ts).dropPend = d.dropPend := rfl
@[simp] theorem Dev.setTile_tick (d : Dev) (t : Nat) (ts : TileSt) : (d.setTile t ts).tick = d.tick := rfl
@[simp] theorem Dev.setTile_mem (d : Dev) (t : Nat) (ts : TileSt) : (d.setTile t ts).mem = d.mem := rfl
@[simp] theorem Dev.setTile_spadGen (d : Dev) (t : Nat) (ts : TileSt) : (d.setTile t ts).spadGen = d.spadGen := rfl
@[simp] theorem Dev.setTile_fab (d : Dev) (t : Nat) (ts : TileSt) : (d.setTile t ts).fab = d.fab := rfl
@[simp] theorem Dev.setTile_bars (d : Dev) (t : Nat) (ts : TileSt) : (d.setTile t ts).bars = d.bars := rfl
@[simp] theorem Dev.setTile_plan (d : Dev) (t : Nat) (ts : TileSt) : (d.setTile t ts).plan = d.plan := rfl
@[simp] theorem Dev.setTile_dram (d : Dev) (t : Nat) (ts : TileSt) : (d.setTile t ts).dram = d.dram := rfl
@[simp] theorem Dev.setTile_flash (d : Dev) (t : Nat) (ts : TileSt) : (d.setTile t ts).flash = d.flash := rfl
@[simp] theorem Dev.setTile_map (d : Dev) (t : Nat) (ts : TileSt) : (d.setTile t ts).map = d.map := rfl
@[simp] theorem Dev.setTile_pwr (d : Dev) (t : Nat) (ts : TileSt) : (d.setTile t ts).pwr = d.pwr := rfl
@[simp] theorem Dev.setTile_sec (d : Dev) (t : Nat) (ts : TileSt) : (d.setTile t ts).sec = d.sec := rfl
@[simp] theorem Dev.setTile_host (d : Dev) (t : Nat) (ts : TileSt) : (d.setTile t ts).host = d.host := rfl
@[simp] theorem Dev.setTile_boot (d : Dev) (t : Nat) (ts : TileSt) : (d.setTile t ts).boot = d.boot := rfl
@[simp] theorem Dev.setTile_lk (d : Dev) (t : Nat) (ts : TileSt) : (d.setTile t ts).lk = d.lk := rfl
@[simp] theorem Dev.setTile_pins (d : Dev) (t : Nat) (ts : TileSt) : (d.setTile t ts).pins = d.pins := rfl
@[simp] theorem Dev.setTile_test (d : Dev) (t : Nat) (ts : TileSt) : (d.setTile t ts).test = d.test := rfl

/-! ### Dev.updTile -/

@[simp] theorem Dev.updTile_regs (d : Dev) (t : Nat) (f : TileSt → TileSt) : (d.updTile t f).regs = d.regs := rfl
@[simp] theorem Dev.updTile_nowNs (d : Dev) (t : Nat) (f : TileSt → TileSt) : (d.updTile t f).nowNs = d.nowNs := rfl
@[simp] theorem Dev.updTile_porstNs (d : Dev) (t : Nat) (f : TileSt → TileSt) : (d.updTile t f).porstNs = d.porstNs := rfl
@[simp] theorem Dev.updTile_freeCtr (d : Dev) (t : Nat) (f : TileSt → TileSt) : (d.updTile t f).freeCtr = d.freeCtr := rfl
@[simp] theorem Dev.updTile_log (d : Dev) (t : Nat) (f : TileSt → TileSt) : (d.updTile t f).log = d.log := rfl
@[simp] theorem Dev.updTile_dropPend (d : Dev) (t : Nat) (f : TileSt → TileSt) : (d.updTile t f).dropPend = d.dropPend := rfl
@[simp] theorem Dev.updTile_tick (d : Dev) (t : Nat) (f : TileSt → TileSt) : (d.updTile t f).tick = d.tick := rfl
@[simp] theorem Dev.updTile_mem (d : Dev) (t : Nat) (f : TileSt → TileSt) : (d.updTile t f).mem = d.mem := rfl
@[simp] theorem Dev.updTile_spadGen (d : Dev) (t : Nat) (f : TileSt → TileSt) : (d.updTile t f).spadGen = d.spadGen := rfl
@[simp] theorem Dev.updTile_fab (d : Dev) (t : Nat) (f : TileSt → TileSt) : (d.updTile t f).fab = d.fab := rfl
@[simp] theorem Dev.updTile_bars (d : Dev) (t : Nat) (f : TileSt → TileSt) : (d.updTile t f).bars = d.bars := rfl
@[simp] theorem Dev.updTile_plan (d : Dev) (t : Nat) (f : TileSt → TileSt) : (d.updTile t f).plan = d.plan := rfl
@[simp] theorem Dev.updTile_dram (d : Dev) (t : Nat) (f : TileSt → TileSt) : (d.updTile t f).dram = d.dram := rfl
@[simp] theorem Dev.updTile_flash (d : Dev) (t : Nat) (f : TileSt → TileSt) : (d.updTile t f).flash = d.flash := rfl
@[simp] theorem Dev.updTile_map (d : Dev) (t : Nat) (f : TileSt → TileSt) : (d.updTile t f).map = d.map := rfl
@[simp] theorem Dev.updTile_pwr (d : Dev) (t : Nat) (f : TileSt → TileSt) : (d.updTile t f).pwr = d.pwr := rfl
@[simp] theorem Dev.updTile_sec (d : Dev) (t : Nat) (f : TileSt → TileSt) : (d.updTile t f).sec = d.sec := rfl
@[simp] theorem Dev.updTile_host (d : Dev) (t : Nat) (f : TileSt → TileSt) : (d.updTile t f).host = d.host := rfl
@[simp] theorem Dev.updTile_boot (d : Dev) (t : Nat) (f : TileSt → TileSt) : (d.updTile t f).boot = d.boot := rfl
@[simp] theorem Dev.updTile_lk (d : Dev) (t : Nat) (f : TileSt → TileSt) : (d.updTile t f).lk = d.lk := rfl
@[simp] theorem Dev.updTile_pins (d : Dev) (t : Nat) (f : TileSt → TileSt) : (d.updTile t f).pins = d.pins := rfl
@[simp] theorem Dev.updTile_test (d : Dev) (t : Nat) (f : TileSt → TileSt) : (d.updTile t f).test = d.test := rfl

/-! ### Dev.setSpad -/

@[simp] theorem Dev.setSpad_regs (d : Dev) (t a : Nat) (bs : List Byte) : (d.setSpad t a bs).regs = d.regs := rfl
@[simp] theorem Dev.setSpad_nowNs (d : Dev) (t a : Nat) (bs : List Byte) : (d.setSpad t a bs).nowNs = d.nowNs := rfl
@[simp] theorem Dev.setSpad_porstNs (d : Dev) (t a : Nat) (bs : List Byte) : (d.setSpad t a bs).porstNs = d.porstNs := rfl
@[simp] theorem Dev.setSpad_freeCtr (d : Dev) (t a : Nat) (bs : List Byte) : (d.setSpad t a bs).freeCtr = d.freeCtr := rfl
@[simp] theorem Dev.setSpad_log (d : Dev) (t a : Nat) (bs : List Byte) : (d.setSpad t a bs).log = d.log := rfl
@[simp] theorem Dev.setSpad_dropPend (d : Dev) (t a : Nat) (bs : List Byte) : (d.setSpad t a bs).dropPend = d.dropPend := rfl
@[simp] theorem Dev.setSpad_tick (d : Dev) (t a : Nat) (bs : List Byte) : (d.setSpad t a bs).tick = d.tick := rfl
@[simp] theorem Dev.setSpad_tiles (d : Dev) (t a : Nat) (bs : List Byte) : (d.setSpad t a bs).tiles = d.tiles := rfl
@[simp] theorem Dev.setSpad_spadGen (d : Dev) (t a : Nat) (bs : List Byte) : (d.setSpad t a bs).spadGen = d.spadGen := rfl
@[simp] theorem Dev.setSpad_fab (d : Dev) (t a : Nat) (bs : List Byte) : (d.setSpad t a bs).fab = d.fab := rfl
@[simp] theorem Dev.setSpad_bars (d : Dev) (t a : Nat) (bs : List Byte) : (d.setSpad t a bs).bars = d.bars := rfl
@[simp] theorem Dev.setSpad_plan (d : Dev) (t a : Nat) (bs : List Byte) : (d.setSpad t a bs).plan = d.plan := rfl
@[simp] theorem Dev.setSpad_dram (d : Dev) (t a : Nat) (bs : List Byte) : (d.setSpad t a bs).dram = d.dram := rfl
@[simp] theorem Dev.setSpad_flash (d : Dev) (t a : Nat) (bs : List Byte) : (d.setSpad t a bs).flash = d.flash := rfl
@[simp] theorem Dev.setSpad_map (d : Dev) (t a : Nat) (bs : List Byte) : (d.setSpad t a bs).map = d.map := rfl
@[simp] theorem Dev.setSpad_pwr (d : Dev) (t a : Nat) (bs : List Byte) : (d.setSpad t a bs).pwr = d.pwr := rfl
@[simp] theorem Dev.setSpad_sec (d : Dev) (t a : Nat) (bs : List Byte) : (d.setSpad t a bs).sec = d.sec := rfl
@[simp] theorem Dev.setSpad_host (d : Dev) (t a : Nat) (bs : List Byte) : (d.setSpad t a bs).host = d.host := rfl
@[simp] theorem Dev.setSpad_boot (d : Dev) (t a : Nat) (bs : List Byte) : (d.setSpad t a bs).boot = d.boot := rfl
@[simp] theorem Dev.setSpad_lk (d : Dev) (t a : Nat) (bs : List Byte) : (d.setSpad t a bs).lk = d.lk := rfl
@[simp] theorem Dev.setSpad_pins (d : Dev) (t a : Nat) (bs : List Byte) : (d.setSpad t a bs).pins = d.pins := rfl
@[simp] theorem Dev.setSpad_test (d : Dev) (t a : Nat) (bs : List Byte) : (d.setSpad t a bs).test = d.test := rfl

/-! ### Dev.setImem -/

@[simp] theorem Dev.setImem_regs (d : Dev) (t a : Nat) (bs : List Byte) : (d.setImem t a bs).regs = d.regs := rfl
@[simp] theorem Dev.setImem_nowNs (d : Dev) (t a : Nat) (bs : List Byte) : (d.setImem t a bs).nowNs = d.nowNs := rfl
@[simp] theorem Dev.setImem_porstNs (d : Dev) (t a : Nat) (bs : List Byte) : (d.setImem t a bs).porstNs = d.porstNs := rfl
@[simp] theorem Dev.setImem_freeCtr (d : Dev) (t a : Nat) (bs : List Byte) : (d.setImem t a bs).freeCtr = d.freeCtr := rfl
@[simp] theorem Dev.setImem_log (d : Dev) (t a : Nat) (bs : List Byte) : (d.setImem t a bs).log = d.log := rfl
@[simp] theorem Dev.setImem_dropPend (d : Dev) (t a : Nat) (bs : List Byte) : (d.setImem t a bs).dropPend = d.dropPend := rfl
@[simp] theorem Dev.setImem_tick (d : Dev) (t a : Nat) (bs : List Byte) : (d.setImem t a bs).tick = d.tick := rfl
@[simp] theorem Dev.setImem_tiles (d : Dev) (t a : Nat) (bs : List Byte) : (d.setImem t a bs).tiles = d.tiles := rfl
@[simp] theorem Dev.setImem_spadGen (d : Dev) (t a : Nat) (bs : List Byte) : (d.setImem t a bs).spadGen = d.spadGen := rfl
@[simp] theorem Dev.setImem_fab (d : Dev) (t a : Nat) (bs : List Byte) : (d.setImem t a bs).fab = d.fab := rfl
@[simp] theorem Dev.setImem_bars (d : Dev) (t a : Nat) (bs : List Byte) : (d.setImem t a bs).bars = d.bars := rfl
@[simp] theorem Dev.setImem_plan (d : Dev) (t a : Nat) (bs : List Byte) : (d.setImem t a bs).plan = d.plan := rfl
@[simp] theorem Dev.setImem_dram (d : Dev) (t a : Nat) (bs : List Byte) : (d.setImem t a bs).dram = d.dram := rfl
@[simp] theorem Dev.setImem_flash (d : Dev) (t a : Nat) (bs : List Byte) : (d.setImem t a bs).flash = d.flash := rfl
@[simp] theorem Dev.setImem_map (d : Dev) (t a : Nat) (bs : List Byte) : (d.setImem t a bs).map = d.map := rfl
@[simp] theorem Dev.setImem_pwr (d : Dev) (t a : Nat) (bs : List Byte) : (d.setImem t a bs).pwr = d.pwr := rfl
@[simp] theorem Dev.setImem_sec (d : Dev) (t a : Nat) (bs : List Byte) : (d.setImem t a bs).sec = d.sec := rfl
@[simp] theorem Dev.setImem_host (d : Dev) (t a : Nat) (bs : List Byte) : (d.setImem t a bs).host = d.host := rfl
@[simp] theorem Dev.setImem_boot (d : Dev) (t a : Nat) (bs : List Byte) : (d.setImem t a bs).boot = d.boot := rfl
@[simp] theorem Dev.setImem_lk (d : Dev) (t a : Nat) (bs : List Byte) : (d.setImem t a bs).lk = d.lk := rfl
@[simp] theorem Dev.setImem_pins (d : Dev) (t a : Nat) (bs : List Byte) : (d.setImem t a bs).pins = d.pins := rfl
@[simp] theorem Dev.setImem_test (d : Dev) (t a : Nat) (bs : List Byte) : (d.setImem t a bs).test = d.test := rfl

/-! ### Dev.setCtr -/

@[simp] theorem Dev.setCtr_regs (d : Dev) (t i : Nat) (v : Word) : (d.setCtr t i v).regs = d.regs := rfl
@[simp] theorem Dev.setCtr_nowNs (d : Dev) (t i : Nat) (v : Word) : (d.setCtr t i v).nowNs = d.nowNs := rfl
@[simp] theorem Dev.setCtr_porstNs (d : Dev) (t i : Nat) (v : Word) : (d.setCtr t i v).porstNs = d.porstNs := rfl
@[simp] theorem Dev.setCtr_freeCtr (d : Dev) (t i : Nat) (v : Word) : (d.setCtr t i v).freeCtr = d.freeCtr := rfl
@[simp] theorem Dev.setCtr_log (d : Dev) (t i : Nat) (v : Word) : (d.setCtr t i v).log = d.log := rfl
@[simp] theorem Dev.setCtr_dropPend (d : Dev) (t i : Nat) (v : Word) : (d.setCtr t i v).dropPend = d.dropPend := rfl
@[simp] theorem Dev.setCtr_tick (d : Dev) (t i : Nat) (v : Word) : (d.setCtr t i v).tick = d.tick := rfl
@[simp] theorem Dev.setCtr_tiles (d : Dev) (t i : Nat) (v : Word) : (d.setCtr t i v).tiles = d.tiles := rfl
@[simp] theorem Dev.setCtr_spadGen (d : Dev) (t i : Nat) (v : Word) : (d.setCtr t i v).spadGen = d.spadGen := rfl
@[simp] theorem Dev.setCtr_fab (d : Dev) (t i : Nat) (v : Word) : (d.setCtr t i v).fab = d.fab := rfl
@[simp] theorem Dev.setCtr_bars (d : Dev) (t i : Nat) (v : Word) : (d.setCtr t i v).bars = d.bars := rfl
@[simp] theorem Dev.setCtr_plan (d : Dev) (t i : Nat) (v : Word) : (d.setCtr t i v).plan = d.plan := rfl
@[simp] theorem Dev.setCtr_dram (d : Dev) (t i : Nat) (v : Word) : (d.setCtr t i v).dram = d.dram := rfl
@[simp] theorem Dev.setCtr_flash (d : Dev) (t i : Nat) (v : Word) : (d.setCtr t i v).flash = d.flash := rfl
@[simp] theorem Dev.setCtr_map (d : Dev) (t i : Nat) (v : Word) : (d.setCtr t i v).map = d.map := rfl
@[simp] theorem Dev.setCtr_pwr (d : Dev) (t i : Nat) (v : Word) : (d.setCtr t i v).pwr = d.pwr := rfl
@[simp] theorem Dev.setCtr_sec (d : Dev) (t i : Nat) (v : Word) : (d.setCtr t i v).sec = d.sec := rfl
@[simp] theorem Dev.setCtr_host (d : Dev) (t i : Nat) (v : Word) : (d.setCtr t i v).host = d.host := rfl
@[simp] theorem Dev.setCtr_boot (d : Dev) (t i : Nat) (v : Word) : (d.setCtr t i v).boot = d.boot := rfl
@[simp] theorem Dev.setCtr_lk (d : Dev) (t i : Nat) (v : Word) : (d.setCtr t i v).lk = d.lk := rfl
@[simp] theorem Dev.setCtr_pins (d : Dev) (t i : Nat) (v : Word) : (d.setCtr t i v).pins = d.pins := rfl
@[simp] theorem Dev.setCtr_test (d : Dev) (t i : Nat) (v : Word) : (d.setCtr t i v).test = d.test := rfl

/-! ### Dev.addCtr -/

@[simp] theorem Dev.addCtr_regs (d : Dev) (t i : Nat) (v : Word) : (d.addCtr t i v).regs = d.regs := rfl
@[simp] theorem Dev.addCtr_nowNs (d : Dev) (t i : Nat) (v : Word) : (d.addCtr t i v).nowNs = d.nowNs := rfl
@[simp] theorem Dev.addCtr_porstNs (d : Dev) (t i : Nat) (v : Word) : (d.addCtr t i v).porstNs = d.porstNs := rfl
@[simp] theorem Dev.addCtr_freeCtr (d : Dev) (t i : Nat) (v : Word) : (d.addCtr t i v).freeCtr = d.freeCtr := rfl
@[simp] theorem Dev.addCtr_log (d : Dev) (t i : Nat) (v : Word) : (d.addCtr t i v).log = d.log := rfl
@[simp] theorem Dev.addCtr_dropPend (d : Dev) (t i : Nat) (v : Word) : (d.addCtr t i v).dropPend = d.dropPend := rfl
@[simp] theorem Dev.addCtr_tick (d : Dev) (t i : Nat) (v : Word) : (d.addCtr t i v).tick = d.tick := rfl
@[simp] theorem Dev.addCtr_tiles (d : Dev) (t i : Nat) (v : Word) : (d.addCtr t i v).tiles = d.tiles := rfl
@[simp] theorem Dev.addCtr_spadGen (d : Dev) (t i : Nat) (v : Word) : (d.addCtr t i v).spadGen = d.spadGen := rfl
@[simp] theorem Dev.addCtr_fab (d : Dev) (t i : Nat) (v : Word) : (d.addCtr t i v).fab = d.fab := rfl
@[simp] theorem Dev.addCtr_bars (d : Dev) (t i : Nat) (v : Word) : (d.addCtr t i v).bars = d.bars := rfl
@[simp] theorem Dev.addCtr_plan (d : Dev) (t i : Nat) (v : Word) : (d.addCtr t i v).plan = d.plan := rfl
@[simp] theorem Dev.addCtr_dram (d : Dev) (t i : Nat) (v : Word) : (d.addCtr t i v).dram = d.dram := rfl
@[simp] theorem Dev.addCtr_flash (d : Dev) (t i : Nat) (v : Word) : (d.addCtr t i v).flash = d.flash := rfl
@[simp] theorem Dev.addCtr_map (d : Dev) (t i : Nat) (v : Word) : (d.addCtr t i v).map = d.map := rfl
@[simp] theorem Dev.addCtr_pwr (d : Dev) (t i : Nat) (v : Word) : (d.addCtr t i v).pwr = d.pwr := rfl
@[simp] theorem Dev.addCtr_sec (d : Dev) (t i : Nat) (v : Word) : (d.addCtr t i v).sec = d.sec := rfl
@[simp] theorem Dev.addCtr_host (d : Dev) (t i : Nat) (v : Word) : (d.addCtr t i v).host = d.host := rfl
@[simp] theorem Dev.addCtr_boot (d : Dev) (t i : Nat) (v : Word) : (d.addCtr t i v).boot = d.boot := rfl
@[simp] theorem Dev.addCtr_lk (d : Dev) (t i : Nat) (v : Word) : (d.addCtr t i v).lk = d.lk := rfl
@[simp] theorem Dev.addCtr_pins (d : Dev) (t i : Nat) (v : Word) : (d.addCtr t i v).pins = d.pins := rfl
@[simp] theorem Dev.addCtr_test (d : Dev) (t i : Nat) (v : Word) : (d.addCtr t i v).test = d.test := rfl

/-! ### Dev.setDram -/

@[simp] theorem Dev.setDram_regs (d : Dev) (a : Nat) (bs : List Byte) : (d.setDram a bs).regs = d.regs := rfl
@[simp] theorem Dev.setDram_nowNs (d : Dev) (a : Nat) (bs : List Byte) : (d.setDram a bs).nowNs = d.nowNs := rfl
@[simp] theorem Dev.setDram_porstNs (d : Dev) (a : Nat) (bs : List Byte) : (d.setDram a bs).porstNs = d.porstNs := rfl
@[simp] theorem Dev.setDram_freeCtr (d : Dev) (a : Nat) (bs : List Byte) : (d.setDram a bs).freeCtr = d.freeCtr := rfl
@[simp] theorem Dev.setDram_log (d : Dev) (a : Nat) (bs : List Byte) : (d.setDram a bs).log = d.log := rfl
@[simp] theorem Dev.setDram_dropPend (d : Dev) (a : Nat) (bs : List Byte) : (d.setDram a bs).dropPend = d.dropPend := rfl
@[simp] theorem Dev.setDram_tick (d : Dev) (a : Nat) (bs : List Byte) : (d.setDram a bs).tick = d.tick := rfl
@[simp] theorem Dev.setDram_tiles (d : Dev) (a : Nat) (bs : List Byte) : (d.setDram a bs).tiles = d.tiles := rfl
@[simp] theorem Dev.setDram_mem (d : Dev) (a : Nat) (bs : List Byte) : (d.setDram a bs).mem = d.mem := rfl
@[simp] theorem Dev.setDram_spadGen (d : Dev) (a : Nat) (bs : List Byte) : (d.setDram a bs).spadGen = d.spadGen := rfl
@[simp] theorem Dev.setDram_fab (d : Dev) (a : Nat) (bs : List Byte) : (d.setDram a bs).fab = d.fab := rfl
@[simp] theorem Dev.setDram_bars (d : Dev) (a : Nat) (bs : List Byte) : (d.setDram a bs).bars = d.bars := rfl
@[simp] theorem Dev.setDram_plan (d : Dev) (a : Nat) (bs : List Byte) : (d.setDram a bs).plan = d.plan := rfl
@[simp] theorem Dev.setDram_flash (d : Dev) (a : Nat) (bs : List Byte) : (d.setDram a bs).flash = d.flash := rfl
@[simp] theorem Dev.setDram_map (d : Dev) (a : Nat) (bs : List Byte) : (d.setDram a bs).map = d.map := rfl
@[simp] theorem Dev.setDram_pwr (d : Dev) (a : Nat) (bs : List Byte) : (d.setDram a bs).pwr = d.pwr := rfl
@[simp] theorem Dev.setDram_sec (d : Dev) (a : Nat) (bs : List Byte) : (d.setDram a bs).sec = d.sec := rfl
@[simp] theorem Dev.setDram_host (d : Dev) (a : Nat) (bs : List Byte) : (d.setDram a bs).host = d.host := rfl
@[simp] theorem Dev.setDram_boot (d : Dev) (a : Nat) (bs : List Byte) : (d.setDram a bs).boot = d.boot := rfl
@[simp] theorem Dev.setDram_lk (d : Dev) (a : Nat) (bs : List Byte) : (d.setDram a bs).lk = d.lk := rfl
@[simp] theorem Dev.setDram_pins (d : Dev) (a : Nat) (bs : List Byte) : (d.setDram a bs).pins = d.pins := rfl
@[simp] theorem Dev.setDram_test (d : Dev) (a : Nat) (bs : List Byte) : (d.setDram a bs).test = d.test := rfl

/-! ### Dev.setRing -/

@[simp] theorem Dev.setRing_regs (d : Dev) (r : Nat) (x : Ring) : (d.setRing r x).regs = d.regs := rfl
@[simp] theorem Dev.setRing_nowNs (d : Dev) (r : Nat) (x : Ring) : (d.setRing r x).nowNs = d.nowNs := rfl
@[simp] theorem Dev.setRing_porstNs (d : Dev) (r : Nat) (x : Ring) : (d.setRing r x).porstNs = d.porstNs := rfl
@[simp] theorem Dev.setRing_freeCtr (d : Dev) (r : Nat) (x : Ring) : (d.setRing r x).freeCtr = d.freeCtr := rfl
@[simp] theorem Dev.setRing_log (d : Dev) (r : Nat) (x : Ring) : (d.setRing r x).log = d.log := rfl
@[simp] theorem Dev.setRing_dropPend (d : Dev) (r : Nat) (x : Ring) : (d.setRing r x).dropPend = d.dropPend := rfl
@[simp] theorem Dev.setRing_tick (d : Dev) (r : Nat) (x : Ring) : (d.setRing r x).tick = d.tick := rfl
@[simp] theorem Dev.setRing_tiles (d : Dev) (r : Nat) (x : Ring) : (d.setRing r x).tiles = d.tiles := rfl
@[simp] theorem Dev.setRing_mem (d : Dev) (r : Nat) (x : Ring) : (d.setRing r x).mem = d.mem := rfl
@[simp] theorem Dev.setRing_spadGen (d : Dev) (r : Nat) (x : Ring) : (d.setRing r x).spadGen = d.spadGen := rfl
@[simp] theorem Dev.setRing_fab (d : Dev) (r : Nat) (x : Ring) : (d.setRing r x).fab = d.fab := rfl
@[simp] theorem Dev.setRing_bars (d : Dev) (r : Nat) (x : Ring) : (d.setRing r x).bars = d.bars := rfl
@[simp] theorem Dev.setRing_plan (d : Dev) (r : Nat) (x : Ring) : (d.setRing r x).plan = d.plan := rfl
@[simp] theorem Dev.setRing_dram (d : Dev) (r : Nat) (x : Ring) : (d.setRing r x).dram = d.dram := rfl
@[simp] theorem Dev.setRing_flash (d : Dev) (r : Nat) (x : Ring) : (d.setRing r x).flash = d.flash := rfl
@[simp] theorem Dev.setRing_map (d : Dev) (r : Nat) (x : Ring) : (d.setRing r x).map = d.map := rfl
@[simp] theorem Dev.setRing_pwr (d : Dev) (r : Nat) (x : Ring) : (d.setRing r x).pwr = d.pwr := rfl
@[simp] theorem Dev.setRing_sec (d : Dev) (r : Nat) (x : Ring) : (d.setRing r x).sec = d.sec := rfl
@[simp] theorem Dev.setRing_boot (d : Dev) (r : Nat) (x : Ring) : (d.setRing r x).boot = d.boot := rfl
@[simp] theorem Dev.setRing_lk (d : Dev) (r : Nat) (x : Ring) : (d.setRing r x).lk = d.lk := rfl
@[simp] theorem Dev.setRing_pins (d : Dev) (r : Nat) (x : Ring) : (d.setRing r x).pins = d.pins := rfl
@[simp] theorem Dev.setRing_test (d : Dev) (r : Nat) (x : Ring) : (d.setRing r x).test = d.test := rfl

/-! ### Dev.setInst -/

@[simp] theorem Dev.setInst_regs (d : Dev) (i : Nat) (x : Inst) : (d.setInst i x).regs = d.regs := rfl
@[simp] theorem Dev.setInst_nowNs (d : Dev) (i : Nat) (x : Inst) : (d.setInst i x).nowNs = d.nowNs := rfl
@[simp] theorem Dev.setInst_porstNs (d : Dev) (i : Nat) (x : Inst) : (d.setInst i x).porstNs = d.porstNs := rfl
@[simp] theorem Dev.setInst_freeCtr (d : Dev) (i : Nat) (x : Inst) : (d.setInst i x).freeCtr = d.freeCtr := rfl
@[simp] theorem Dev.setInst_log (d : Dev) (i : Nat) (x : Inst) : (d.setInst i x).log = d.log := rfl
@[simp] theorem Dev.setInst_dropPend (d : Dev) (i : Nat) (x : Inst) : (d.setInst i x).dropPend = d.dropPend := rfl
@[simp] theorem Dev.setInst_tiles (d : Dev) (i : Nat) (x : Inst) : (d.setInst i x).tiles = d.tiles := rfl
@[simp] theorem Dev.setInst_mem (d : Dev) (i : Nat) (x : Inst) : (d.setInst i x).mem = d.mem := rfl
@[simp] theorem Dev.setInst_spadGen (d : Dev) (i : Nat) (x : Inst) : (d.setInst i x).spadGen = d.spadGen := rfl
@[simp] theorem Dev.setInst_fab (d : Dev) (i : Nat) (x : Inst) : (d.setInst i x).fab = d.fab := rfl
@[simp] theorem Dev.setInst_bars (d : Dev) (i : Nat) (x : Inst) : (d.setInst i x).bars = d.bars := rfl
@[simp] theorem Dev.setInst_plan (d : Dev) (i : Nat) (x : Inst) : (d.setInst i x).plan = d.plan := rfl
@[simp] theorem Dev.setInst_dram (d : Dev) (i : Nat) (x : Inst) : (d.setInst i x).dram = d.dram := rfl
@[simp] theorem Dev.setInst_flash (d : Dev) (i : Nat) (x : Inst) : (d.setInst i x).flash = d.flash := rfl
@[simp] theorem Dev.setInst_map (d : Dev) (i : Nat) (x : Inst) : (d.setInst i x).map = d.map := rfl
@[simp] theorem Dev.setInst_pwr (d : Dev) (i : Nat) (x : Inst) : (d.setInst i x).pwr = d.pwr := rfl
@[simp] theorem Dev.setInst_sec (d : Dev) (i : Nat) (x : Inst) : (d.setInst i x).sec = d.sec := rfl
@[simp] theorem Dev.setInst_host (d : Dev) (i : Nat) (x : Inst) : (d.setInst i x).host = d.host := rfl
@[simp] theorem Dev.setInst_boot (d : Dev) (i : Nat) (x : Inst) : (d.setInst i x).boot = d.boot := rfl
@[simp] theorem Dev.setInst_lk (d : Dev) (i : Nat) (x : Inst) : (d.setInst i x).lk = d.lk := rfl
@[simp] theorem Dev.setInst_pins (d : Dev) (i : Nat) (x : Inst) : (d.setInst i x).pins = d.pins := rfl
@[simp] theorem Dev.setInst_test (d : Dev) (i : Nat) (x : Inst) : (d.setInst i x).test = d.test := rfl

/-! ### Registers and tiles read back -/

@[simp] theorem Dev.reg_setReg (d : Dev) (o p : Nat) (v : Word) : (d.setReg o v).reg p = if p = o then v else d.reg p :=
  tabGet_tabSet _ _ _ _ _

theorem Dev.reg_setReg_same (d : Dev) (o : Nat) (v : Word) : (d.setReg o v).reg o = v := by simp

@[simp] theorem Dev.reg_orReg (d : Dev) (o b p : Nat) :
    (d.orReg o b).reg p = if p = o then d.reg o ||| w32 b else d.reg p := Dev.reg_setReg _ _ _ _

@[simp] theorem Dev.reg_clrReg (d : Dev) (o b p : Nat) :
    (d.clrReg o b).reg p = if p = o then d.reg o &&& ~~~ w32 b else d.reg p := Dev.reg_setReg _ _ _ _

@[simp] theorem Dev.reg_incReg (d : Dev) (o n p : Nat) :
    (d.incReg o n).reg p = if p = o then satAdd (d.reg o) n else d.reg p := Dev.reg_setReg _ _ _ _

@[simp] theorem Dev.reg_fldReg (d : Dev) (o lo len x p : Nat) :
    (d.fldReg o lo len x).reg p = if p = o then setFld (d.reg o) lo len x else d.reg p := Dev.reg_setReg _ _ _ _

@[simp] theorem Dev.tile_setTile (d : Dev) (t u : Nat) (ts : TileSt) :
    (d.setTile t ts).tile u = if u = t then ts else d.tile u := tabGet_tabSet _ _ _ _ _

@[simp] theorem Dev.tile_updTile (d : Dev) (t u : Nat) (f : TileSt → TileSt) :
    (d.updTile t f).tile u = if u = t then f (d.tile t) else d.tile u := tabGet_tabSet _ _ _ _ _

@[simp] theorem Dev.ring_setRing (d : Dev) (r q : Nat) (x : Ring) :
    (d.setRing r x).ring q = if q = r then x else d.ring q := tabGet_tabSet _ _ _ _ _

@[simp] theorem Dev.ctr_setCtr (d : Dev) (t i u j : Nat) (v : Word) :
    (d.setCtr t i v).ctr u j = if u * 2048 + j = t * 2048 + i then v else d.ctr u j := tabGet_tabSet _ _ _ _ _

/-! ### The gate -/

/-- A command's effect happens in a core that runs. -/
theorem State.run_live {s : State} (f : State → State) (h : s.live = true) : s.run f = .next (f s) := by simp [State.run, h]

/-- Nothing happens in one that does not. -/
theorem State.run_dead {s : State} (f : State → State) (h : s.live = false) : s.run f = .next s := by simp [State.run, h]

theorem State.runDev_live {s : State} (f : Dev → Dev) (h : s.live = true) : s.runDev f = .next (s.onDev f) :=
  State.run_live _ h

theorem State.runDev_dead {s : State} (f : Dev → Dev) (h : s.live = false) : s.runDev f = .next s := State.run_dead _ h

/-- What a gated command can answer: one next state. -/
theorem State.run_cases {s t : State} {f : State → State} (h : s.run f = .next t) : (s.live = true ∧ t = f s) ∨ (s.live = false ∧ t = s) := by
  unfold State.run at h
  cases hl : s.live <;> simp_all

end Sys2Proof.Machine
end

