-- ==== Sys2Proof/Laws/Tap.lean ====
section
/-! SUPPORT. What the cells of the boundary register capture (R494, Table 22-3). -/

namespace Sys2Proof.Machine

theorem getLsbD_ones_or_zero (n i : Nat) (on : Bool) : (if on then BitVec.allOnes n else 0#n).getLsbD i = (on && decide (i < n)) := by
  cases on <;> simp

/-- A cell takes part when its group's supply is in range; the last 34 always do. -/
theorem cellMask_getLsbD (sup : BitVec 3) (i : Nat) (h : i < 1212) :
    (cellMask sup).getLsbD i =
      if i < 529 then sup.getLsbD 0 else if i < 1058 then sup.getLsbD 1 else if i < 1178 then sup.getLsbD 2 else true := by
  simp only [cellMask, BitVec.getLsbD_append, getLsbD_ones_or_zero, if_true, BitVec.getLsbD_allOnes]
  grind

/-- With every supply in range all cells take part. -/
theorem cellMask_all : cellMask 7 = BitVec.allOnes 1212 := by
  apply BitVec.eq_of_getLsbD_eq
  intro i hi
  rw [cellMask_getLsbD 7 i hi, BitVec.getLsbD_allOnes]
  have h : ∀ k, k < 3 → (7 : BitVec 3).getLsbD k = true := by decide
  simp only [h 0 (by omega), h 1 (by omega), h 2 (by omega), ite_self, hi, decide_true]

end Sys2Proof.Machine
end

