-- ==== Sys2Proof/Tests/Slice0.lean ====
section
/-! SUPPORT. Small tests of one step each against the spec's own figures, the ill-formed commands that WellFormed refuses, and for each statement
with hypotheses a state and operands that meet them. -/

namespace Sys2Proof.Tests

open Sys2Proof Sys2Proof.Machine

/- One declaration after the other: a kernel evaluation waits for every declaration before it, and many waiting at once are many threads. -/
set_option Elab.async false

/-! ## Small states -/

/-- The core changed, the rest as after reset. -/
def at' (f : Dev → Dev) : State := State.reset.onDev f

/-- A part whose boot has ended, 20 ms after reset and 1 ms after its last edge. -/
def up (f : Dev → Dev) : State :=
  at' fun d =>
    f { d.setReg Reg.RB_STAT 4 with nowNs := 20000000, tick := { d.tick with started := true, edgeNs := 19000000, timerNs := 19000000 } }

/-- An edge that reports nothing. -/
def quiet : EdgeEnv := { rails := List.replicate 8 0, gated := none, sram := .clean }

/-- An access that meets nothing. -/
def free : RegEnv := { RegEnv.ok with edge := quiet }

/-- A DRAM access that meets nothing. -/
def calm : DramEv := { link := .clean, array := .clean, late := false }

/-- Change the DRAM, and the flash. -/
def onDram (f : DramSt → DramSt) (d : Dev) : Dev := { d with dram := f d.dram }
def onFlash (f : FlashSt → FlashSt) (d : Dev) : Dev := { d with flash := f d.flash }

/-- Change the tick unit. -/
def onTick (f : TickSt → TickSt) (d : Dev) : Dev := { d with tick := f d.tick }

/-- The next state of a command (every command has one). -/
def after (c : Instr) (s : State) : State := match exec c s with | .next t => t | _ => s

/-! ## WellFormed refuses what no sender can give -/

theorem test_wf_access_of_no_byte : Instr.wf (.bar0IrregularAccess 0 0 (.read 0) free free) = false := by decide
theorem test_wf_access_too_long : Instr.wf (.bar0IrregularAccess 0 0 (.read 4097) free free) = false := by decide
theorem test_wf_access : Instr.wf (.bar0IrregularAccess 0 1 (.read 2) free free) = true := by decide
theorem test_wf_bar2_resize : Instr.wf (.bar2Read 0 0 (.resize 27) calm .clean) = false := by decide
theorem test_wf_misaligned_register : Instr.wf (.registerWrite 0 2 0 free) = false := by decide
theorem test_wf_edge_needs_eight_rails : Instr.wf (.tickEdge { quiet with rails := [] }) = false := by decide
theorem test_wf_access_edge_needs_eight_rails : Instr.wf (.readClear 0 0 RegEnv.ok) = false := by decide
theorem test_wf_node_outside :
    Instr.wf (.wack { tag := 0, pay := 0, x := 10, y := 0, ecc := .clean, dram := calm, looks := [], same := false }) = false := by decide
theorem test_wf_link_flit :
    Instr.wf (.dataFlit 0 (List.replicate 127 0) .clean) = false ∧ Instr.wf (.idleFlit 0 0 (List.replicate 128 0)) = false := by decide +kernel
theorem test_wf_bring_up : Instr.wf (.dramTrainingDone { chans := [], slot := .fails 0, store := false }) = false := by decide
theorem test_wf_flash_geometry : Instr.wf (.flashStartDone { targets := List.replicate 16 [none], tries := List.replicate 16 0, evs := [] }) = false := by decide
theorem test_wf_sensors : Instr.wf (.samplingInstant [] 0) = false := by decide
theorem test_wf_no_sample : Instr.wf (.characterReceive 0 false []) = false := by decide

/-! ## The queue and the bounds -/

theorem witness_StepRunsTheFrontCommand : (State.reset.withPending [.tkCountRead]).pending = .tkCountRead :: [] := by decide
theorem witness_StepOnAnEmptyQueueLetsTimePass : State.reset.pending = [] := by decide
theorem witness_PortAndThermalBoundsAreKeptByEveryStep : State.reset.bounded = true ∧ step State.reset = .next State.reset.idle := ⟨by decide, rfl⟩
theorem witness_NoCommandTouchesTheQueue : exec .tkCountRead (up id) = .next (after .tkCountRead (up id)) := rfl
theorem witness_StoppedCoreIgnoresCommands :
    ({ State.reset with th := { ThSt.reset with tripped := true } } : State).th.tripped = true ∧ Instr.offCore .tkCountRead = false := by decide
theorem witness_StoppedCoreIgnoresCommands_held :
    ({ State.reset with tap := { TapSt.reset with held := true } } : State).tap.held = true ∧ Instr.offCore .pllLock = false := by decide

/-! ## Registers -/

theorem witness_RegisterWriteStores :
    (up id).hostReady = true ∧ free.whole = true ∧ ((up id).dev.spot 0 false 0xC).isSome = true ∧
    ((up id).dev.hostFlits 0xC true).plainWrite 0 0xC 5 free = true := by decide
theorem witness_PoisonedWriteIsDiscarded : (up id).hostReady = true ∧ { free with poison := true }.poison = true ∧ free.port = .clean := by decide
theorem witness_PlainReadReturns :
    (up id).hostReady = true ∧ ((up id).dev.spot 0 false 0).isSome = true ∧ (regAt 0).map (·.rc) = some 0 ∧ 0 ≠ Reg.TK_COUNT_LO ∧
    0 ≠ Reg.PW_AON_TIME_LO := by decide
theorem witness_UnmappedWriteIsLogged : (up id).hostReady = true ∧ 0x3C % 4 = 0 ∧ (up id).dev.spot 0 false 0x3C = none := by decide
theorem witness_TickCountReadLatches : (up id).hostReady = true ∧ (up id).dev.booting = false := by decide
theorem witness_NarrowWriteIsDropped :
    (up id).hostReady = true ∧ ¬ ([0, 0].length = 4 ∧ (0 : BitVec 26).toNat % 4 = 0) ∧ ¬ (([0, 0] : List Byte).length = 8 ∧ (0 : BitVec 26).toNat % 8 = 0) := by
  decide
theorem witness_NarrowReadHasNoSideEffect :
    (up id).hostReady = true ∧ 1 ≤ 3 ∧ (1 : BitVec 26).toNat % 4 + 3 ≤ 4 ∧ 3 ≠ 4 ∧ ((up id).dev.spot 0 false 0).isSome = true := by decide
theorem witness_ReadClearReturnsAndClears :
    (up id).hostReady = true ∧ ((up id).dev.spot 0 false Reg.CAP_EXCEED).isSome = true ∧ Reg.CAP_EXCEED ≠ Reg.TK_COUNT_LO ∧
    Reg.CAP_EXCEED ≠ Reg.PW_AON_TIME_LO ∧ (regAt Reg.CAP_EXCEED).map (·.rc) = some 0xFFFFFFFF ∧ free.ecc = .clean := by decide
theorem witness_WriteActsByAccessCode :
    31 < 32 ∧ (regAt Reg.TK_CTRL).map (fun r => (w32 r.rw).getLsbD 31 && (w32 r.w1c).getLsbD 31) = some false := by decide
/-- GL_IDENT is 0x7260_B001: its upper half, read in place. -/
theorem test_ident_reads :
    (after (.bar0IrregularAccess 0 2 (.read 2) free free) (up id)).dev.host.rdData = [0x60, 0x72] := by decide
/-- A 64-bit read of TK_CTRL and TK_PERIOD: their reset values, the lower address first (R7, Table 3-11). -/
theorem test_wide_read :
    (after (.bar0IrregularAccess 0 0x10000 (.read 8) free free) (up id)).dev.host.rdData = [4, 0, 0, 0, 0x10, 0x27, 0x5C, 0] := by decide
/-- The bad access of a misaligned write sets HI_STAT bit 0 (R7). -/
theorem test_misaligned_write_is_bad :
    bit ((after (.bar0IrregularAccess 0 0xE (.write [1, 2, 3, 4]) free free) (up id)).dev.reg Reg.HI_STAT) 0 = true := by decide
theorem witness_AlwaysOnTimeReadLatches : (up id).hostReady = true ∧ (up id).dev.booting = false := by decide
theorem witness_WideReadIsTwoReads : (up id).hostReady = true ∧ (0x10000 : BitVec 26).toNat % 8 = 0 := by decide
theorem witness_WideWriteIsTwoWrites : (up id).hostReady = true ∧ (0x3FFFFF8 : BitVec 26).toNat % 8 = 0 := by decide
theorem witness_ReadClearsExactlyTheReadClearBits : 31 < 32 ∧ (regAt Reg.CAP_EXCEED).map (fun r => (w32 r.rc).getLsbD 31) = some true := by decide

/-! ## The tick and the composer -/

theorem witness_DueEdgeIsMade :
    (up fun d => { d with nowNs := 29000000 }).live = true ∧ (up fun d => { d with nowNs := 29000000 }).dev.edgeDue = true ∧
    (up fun d => { d with nowNs := 29000000 }).dev.edgeFree = true := by decide

/-- A part on TICK_IN or KICK. -/
def onSrc (src : Word) (now : Nat) (f : TickSt → TickSt) : State :=
  up fun d => { d with nowNs := now, tick := f { d.tick with ctrlUse := src } }

theorem witness_HeldRequestMakesItsEdge :
    (let s := onSrc 1 27500000 fun t => { t with held := true }
     s.live = true ∧ s.dev.edgeFree = true ∧ s.dev.tick.held = true ∧ s.dev.tick.slipDue = none ∧ s.dev.perNs * 17 ≤ s.dev.sinceEdge * 20) := by
  decide
theorem witness_TickInRequestByTime :
    bit ((onSrc 0x11 24000000 id).dev.tick.ctrlUse) 4 ≠ (onSrc 0x11 24000000 id).dev.pins.tickIn ∧
    (let s := (onSrc 1 24000000 id).onDev fun d => { d with pins := { d.pins with tickIn := true } }
     bit ((onSrc 1 24000000 id).dev.tick.ctrlUse) 4 = (onSrc 1 24000000 id).dev.pins.tickIn ∧ s.live = true ∧ s.dev.takesRequests 1 = true ∧ s.dev.tick.started = true ∧ ¬ s.dev.sinceEdge * 2 < s.dev.perNs ∧
     s.dev.sinceEdge * 20 < s.dev.perNs * 17) := by decide
theorem witness_KickByTime :
    (let s := onSrc 2 27500000 id
     s.live = true ∧ s.dev.takesRequests 2 = true ∧ s.dev.tick.started = true ∧ ¬ s.dev.sinceEdge * 20 < s.dev.perNs * 17) := by decide
theorem witness_FreeEdgeIsMade : (up id).dev.edgeFree = true := by decide
theorem witness_SourceLossFallsBack :
    (let s := onSrc 5 34000000 id
     s.live = true ∧ s.dev.source = 1 ∧ s.dev.tickOn = true ∧ s.dev.pstate = 0 ∧ s.dev.entering = false ∧ s.dev.tick.fallback = false ∧
     s.dev.tick.held = false ∧ s.dev.tick.slipDue = none ∧ s.dev.booting = false ∧
     s.dev.perNs * 3 ≤ (s.dev.nowNs - s.dev.tick.timerNs) * 2 ∧ s.dev.tick.srcLost = false ∧
     (s.dev.logC 0x0002 nodeTick).tick.ctrlUse.getLsbD 2 = true) := by decide
theorem witness_PeriodWriteTakesEffect :
    (up id).live = true ∧ 50 ≤ 98 ∧ (250 ≤ 40000 ∧ (up id).dev.tick.periodUse ≠ 0) ∧
    (up fun d => onTick (fun t => { t with periodUse := 0 }) d).dev.tick.periodUse = 0 ∧
    ((up id).dev.fromMaster (up id).dev.source && !(up id).dev.isMaster) = false ∧
    (let d := ((onSrc 3 20000000 id).onDev fun d => { d with lk := { d.lk with perRx := 10000 } }).dev
     (d.fromMaster d.source && !d.isMaster) = true) := by decide
theorem witness_EdgeAdvancesTheTickCounterByOne :
    (up fun d => onTick (fun t => { t with periodUse := 0 }) d).dev.tickOn = false := by decide
/-- An edge takes the tick counter from its greatest value to 0 (R53). -/
theorem test_count_wraps :
    (after (.tickEdge quiet) (up fun d => { onTick (fun t => { t with count := 2 ^ 64 - 1 }) d with nowNs := 29000000 })).dev.tick.count = 0 := by
  decide +kernel
/-- A request before 0.5 P is dropped and counted (R50). -/
theorem test_early_request_is_dropped :
    (after (.tickInRequest quiet) (onSrc 1 23000000 id)).dev.reg Reg.TK_DROPPED = 1 := by decide
/-- A PERIOD_US below 250 is used as 250 (R48). -/
theorem test_period_is_clamped :
    (after (.tkPeriodWrite 0x5C0010) (up id)).dev.reg Reg.TK_PERIOD = 0x5C00FA := by decide

/-- An edge that slips: its table has finished. -/
def slipping : State := onSrc 0 30000000 fun t => { t with slipDue := some 29000000, onced := [(0xF001, 0)] }
theorem witness_TableFinishMakesTheHeldEdge :
    slipping.live = true ∧ slipping.dev.tableRunning = false ∧ slipping.dev.tick.started = true ∧ (0xF001, 0) ∈ slipping.dev.tick.onced ∧
    slipping.dev.tick.slipDue.isSome = true ∧ slipping.dev.edgeFree = true := by decide
theorem witness_TableFinishGatesTheClocks :
    (up id).live = true ∧ (up id).dev.tableRunning = false ∧ (up id).dev.tick.started = true ∧ (0xF001, 0) ∉ (up id).dev.tick.onced ∧
    (up id).dev.tick.slipDue = none ∧ (up id).dev.source ≠ 3 := by decide

/-- An instance of fragment 0 of tenant 0 on tile 0. -/
def inst (st : InstSt) : Inst :=
  { frag := 0, tenant := 0, index := 0, hdrAddr := 0, flags := 0, phase := 0, eclass := 0, params := [], mask := 1, codeDir := 0, wc := 1000,
    dramB := 0, planOff := 0, planLen := 0, bound := [], status := st, done := 0, outside := false, price := 0 }

def overrun : State := onSrc 0 29000000 fun t => { t with cur := [inst .running], abort := true }
theorem witness_OverrunAbortsTheTable :
    overrun.live = true ∧ overrun.dev.edgeDue = true ∧ overrun.dev.tableRunning = true ∧ overrun.dev.tick.abort = true ∧
    overrun.dev.pwr.heldReq = none ∧ overrun.dev.entering = false ∧ overrun.dev.exiting = false ∧ overrun.dev.pstate = 0 ∧
    overrun.dev.tickOn = true ∧ overrun.dev.abortTable.pwr.req = none ∧ overrun.dev.abortTable.edgeWaits.isNone = true ∧
    overrun.dev.abortTable.isMaster = false := by decide +kernel

theorem witness_TableBecomesFinal :
    (let s := onSrc 0 27500000 id
     s.live = true ∧ s.dev.tick.started = true ∧ s.dev.tick.final = false ∧ s.dev.pstate = 0 ∧ s.dev.tickOn = true ∧
     s.dev.perNs * 17 ≤ s.dev.sinceEdge * 20 ∧ s.dev.tick.truncPend = false) := by decide
theorem witness_AllowanceSpentShowsTrunc :
    (let s := onSrc 0 27500000 fun t => { t with truncPend := true }
     s.live = true ∧ s.dev.tick.truncPend = true ∧ (0xF002, 0) ∉ s.dev.tick.onced) := by decide
theorem witness_ValidateDecides : (up id).live = true ∧ (up id).dev.tick.fsOp = 0 := by decide
theorem witness_InvalidateClearsOne : (up id).live = true ∧ (up id).dev.tick.fsOp = 0 := by decide
theorem witness_InvalidateAllClearsAll :
    (let s := up fun d => onTick (fun t => { t with valid := [(3, true)] }) d
     s.live = true ∧ s.dev.tick.fsOp = 0 ∧ (3, true) ∈ s.dev.tick.valid) := by decide
theorem witness_FragmentStoreBaseWrite : (up id).live = true := by decide
theorem witness_RuleCommitWaitsForTheEdge : (up id).live = true := by decide
theorem witness_CounterClearClears : (up id).live = true ∧ (1 : Word).getLsbD 0 = true := by decide
/-- After INVALIDATE the bit is clear at the next edge (R55). -/
theorem test_invalidate :
    tabGet noValid (after (.invalidate 7) (up id)).dev.tick.validPend 7 = some false := by decide

/-! ## The tiles -/

/-- Tile 0 runs an instance whose image holds the given words, in a state changed by `f`. -/
def runs (ws : List Word64) (f : TileSt → TileSt) : State :=
  up fun d =>
    { onTick (fun t => { t with cur := [{ inst .running with mask := 3 }] }) d with
      tiles := [(0, f { TileSt.reset with cur := some 0, ready := true, imgLen := 4 })]
      mem := { d.mem with imem := tabSetList (fun _ => 0) [] 0 (ws.flatMap (fun w => leBytes 8 w.toNat)) } }

/-- Words of the opcode table: NOP, IX.SET of IX3, LOOP twice, its ENDLOOP, RDCLK, TICKWAIT, END, an unassigned opcode and a bad encoding. -/
def wNop : Word64 := 0
def wSet : Word64 := 0x0500030000000007
def wLoop : Word64 := 0x0300020002000800
def wEndloop : Word64 := 0x0400020000000000
def wRdclk : Word64 := 0x0900010000000000

theorem witness_OtherOpcodeChangesNothing : opOf ((runs [wSet] id).dev.wordAt 0) ≠ 0x00 ∧ (ctRows 0 .clean).head? = some (.nopOp 0 .clean, 0x00) :=
  ⟨by decide, rfl⟩
theorem witness_FetchErrorHalts :
    (runs [wNop] id).live = true ∧ (ctRows 0 .uncorrectable).head? = some (.nopOp 0 .uncorrectable, 0x00) ∧
    (runs [wNop] id).dev.dispatches 0 0x00 = true ∧ ((runs [wNop] id).dev.queueOf 0 0x00).length < 16 := ⟨by decide, rfl, by decide, by decide⟩
theorem witness_IllegalEncodingHalts :
    (runs [1] id).live = true ∧ (runs [1] id).dev.canDispatch 0 = true ∧ opOf ((runs [1] id).dev.wordAt 0) = 0x00 ∧
    badEnc ((runs [1] id).dev.wordAt 0) 0 = true := by decide
theorem witness_UnassignedOpcodeHalts :
    (runs [0xFF00000000000000] id).dev.canDispatch 0 = true ∧ opAssigned (opOf ((runs [0xFF00000000000000] id).dev.wordAt 0)) = false := by decide
theorem witness_NopAdvances :
    (runs [wNop] id).dev.dispatches 0 0x00 = true ∧ (runs [wNop] id).dev.inImage 0 1 = true ∧ SramEv.clean ≠ .uncorrectable := by decide
theorem witness_IndexInstructionsWrite :
    (runs [wSet] id).dev.dispatches 0 0x05 = true ∧ (runs [wSet] id).dev.inImage 0 1 = true ∧ w32 (fld wSet 0 32) = 7 := by decide
theorem witness_RdclkWrites :
    (let s := runs [wRdclk] id
     s.dev.dispatches 0 0x09 = true ∧ s.dev.predAt 0 = true ∧ s.dev.inImage 0 1 = true ∧ (s.dev.tile 0).cur = some 0 ∧
     s.dev.tick.cur[0]?.isSome = true) := by decide
/-- LOOP with a count of 2 and a body of two instructions, ENDLOOP last (R92, R114). -/
theorem witness_LoopEntersOrSkips :
    (let s := runs [wLoop, wNop, wEndloop] id
     s.dev.dispatches 0 0x03 = true ∧ s.dev.inImage 0 1 = true ∧ fld (s.dev.wordAt 0) 24 16 = 2 ∧ fld (s.dev.wordAt 0) 11 13 = 1) := by decide
theorem witness_EndloopRepeatsOrLeaves :
    (let s := runs [wLoop, wNop, wEndloop] fun t =>
       { t with pc := 2, lc := setAt t.lc 1 1, loops := [{ lc := 1, top := 1, endAt := 2, count := 2 }] }
     s.dev.dispatches 0 0x04 = true ∧ s.dev.inImage 0 3 = true ∧ (s.dev.tile 0).lc.getD 1 0 - 1 = 0) := by decide
theorem witness_TickwaitWaits :
    (let s := runs [0x0200000000000000] id
     s.dev.dispatches 0 0x02 = true ∧ s.dev.inImage 0 1 = true ∧ (s.dev.instOf 0).map (fun x => popcountN 64 x.mask.toNat) = some 2) := by decide
theorem witness_TickwaitAlignReleases :
    (let s := up fun d =>
       { onTick (fun t => { t with cur := [inst .running] }) d with tiles := [(0, { TileSt.reset with cur := some 0, align := true, aligns := 1 })] }
     s.live = true ∧ s.dev.tick.cur[0]? = some (inst .running) ∧ s.dev.aligned 0 (inst .running) = true) := by decide
theorem witness_EndDrains : (runs [0x0100000000000000] id).dev.dispatches 0 0x01 = true := by decide

/-- DRAM ready, holding at address 0 the directory entry of an image of one instruction, loaded at 0. -/
def coded (d : Dev) : Dev := { d with dram := { d.dram with ready := true, cchMib := 4096, cells := [(4, 1)] } }
def img1 : Resident := { frag := 0, base := 0, len := 1 }
/-- An instance waits for tile 0. -/
def waits (f : TileSt → TileSt) : State :=
  up fun d => coded { onTick (fun t => { t with cur := [inst .waiting] }) d with tiles := [(0, f TileSt.reset)] }
theorem witness_InstanceStarts :
    (let s := waits id
     s.live = true ∧ nextInst s.dev.tick.cur 0 0 = some (0, inst .waiting) ∧ s.dev.inRun = true ∧ (s.dev.tile 0).cur = none ∧
     (s.dev.tile 0).inReset = false ∧ (s.dev.readEntry (inst .waiting) 0 (some 0)).1 = none ∧ (s.dev.codeEntry (inst .waiting) 0).2 = (1, 0) ∧
     (s.dev.tile 0).resident.contains img1 = false ∧ (s.dev.tile 0).pre ≠ some img1) := by decide +kernel
theorem witness_ResidentInstanceStarts :
    ((waits fun t => { t with resident := [img1] }).dev.tile 0).pre = none ∧
    ((waits fun t => { t with resident := [img1] }).dev.tile 0).resident.contains img1 = true ∧
    ((waits fun t => { t with pre := some img1 }).dev.tile 0).pre = some img1 ∧
    ((waits fun t => { t with pre := some img1 }).dev.readEntry (inst .waiting) 0 (some 0)).1 = none := by decide +kernel
theorem witness_CodeLoadCompletes :
    (let s := (runs [] fun t => { t with ready := false, loading := true }).onDev coded
     s.live = true ∧ (s.dev.instOf 0).isSome = true ∧ (s.dev.tile 0).loading = true ∧ s.dev.inRun = true ∧
     (s.dev.loadRead { inst .running with mask := 3 } 0 (s.dev.tile 0).cur calm).1.isNone = true) := by decide +kernel
/-- A second instance whose image lies past the running one. -/
theorem witness_CodeLoadPreloads :
    (let y := { inst .waiting with frag := 1 }
     let s := (runs [] fun t => { t with preload := true, imgBase := 8, imgLen := 4 }).onDev fun d =>
       coded (onTick (fun t => { t with cur := t.cur ++ [y] }) d)
     s.live = true ∧ (s.dev.tile 0).cur = some 0 ∧ s.dev.inRun = true ∧ (s.dev.tile 0).loading = false ∧ (s.dev.tile 0).ready = true ∧
     (s.dev.tile 0).preload = true ∧ (s.dev.tile 0).pre = none ∧ s.dev.nextAfter 0 0 = some (1, y) ∧ (s.dev.codeEntry y 0).2 = (1, 0) ∧
     (s.dev.tile 0).resident = [] ∧ { img1 with frag := 1 }.overlaps 8 4 = false ∧ (s.dev.loadRead y 0 none calm).1 = none) := by decide +kernel
theorem witness_WatchdogHalts :
    (let s := runs [] fun t => { t with cyc := 1000000000 }
     s.live = true ∧ (s.dev.instOf 0).map (·.wc) = some 1000 ∧ ((s.dev.tile 0).wdogMult + 1) * 1000 < s.dev.divCycles 0) := by decide
theorem witness_InstanceCommits :
    ({ inst .running with done := 1 }.mask &&& ~~~ { inst .running with done := 1 }.done) = 0 ∧ (inst .running).mask &&& ~~~ (inst .running).done ≠ 0 := by
  decide
theorem witness_CommittedInstanceIsNeverDiscarded :
    (onTick (fun t => { t with cur := [inst .committed] }) Dev.reset).tick.cur[0]? = some (inst .committed) ∧ (inst .committed).status = .committed := by
  decide

/-- VX.ALU of IADD: V2 := V0 + V1 (R119), at tile 0. -/
def wAlu : Word64 := 0x4200000000000000
theorem witness_QueuedInstructionEntersItsQueue :
    (let s := runs [wAlu] id
     s.live = true ∧ (queuedRows 0 (.dispatch .clean))[5]? = some (.vxAlu 0 (.dispatch .clean), 0x42) ∧ s.dev.dispatches 0 0x42 = true ∧
     s.dev.predAt 0 = true ∧ (s.dev.queueOf 0 0x42).length < 16 ∧ accOrder (s.dev.tile 0) (s.dev.wordAt 0) = false ∧
     s.dev.inImage 0 1 = true) := ⟨by decide, rfl, by decide, by decide, by decide, by decide, by decide⟩
/-- The same under a predicate on P0, which is 0. -/
theorem witness_FalsePredicateOnlyIncrements :
    (runs [0x4208000000000000] id).dev.dispatches 0 0x42 = true ∧ (runs [0x4208000000000000] id).dev.predAt 0 = false := by decide
/-- Something to queue. -/
def entry (w : Word64) : QEntry := { word := w, ix := List.replicate 16 0, first := false, need := [0, 0, 0, 0], pc := 0 }
theorem witness_FullQueueHoldsDispatch :
    (let s := runs [wAlu] fun t => { t with queues := [[], List.replicate 16 (entry wAlu), [], []] }
     s.dev.dispatches 0 0x42 = true ∧ s.dev.predAt 0 = true ∧ 16 ≤ (s.dev.queueOf 0 0x42).length) := by decide
/-- SC.READ to IX3, and WAIT.ANY. -/
theorem witness_CounterReadersEnterTheirQueue :
    (let s := runs [0x8400030000000000] id
     s.live = true ∧ s.dev.dispatches 0 0x84 = true ∧ s.dev.predAt 0 = true ∧ (s.dev.queueOf 0 0x84).length < 16 ∧ s.dev.inImage 0 1 = true) ∧
    (runs [0x8500030000000000] id).dev.dispatches 0 0x85 = true := by decide
/-- VX.ACC of the store that an MX instruction still writes, without WAIT on it (R120). -/
theorem witness_AccumulatorOrderHalts :
    (let s := runs [0x4800000000000000] fun t => { t with mxw := [true, false] }
     s.dev.dispatches 0 0x48 = true ∧ accOrder (s.dev.tile 0) (s.dev.wordAt 0) = true) := by decide

/-- An instruction at the head of its stream in tile 0. -/
def heads (w : Word64) (f : TileSt → TileSt) : State :=
  runs [] fun t => f { t with queues := setAt t.queues (streamOf (opOf w)) [entry w] }

theorem witness_MxLdwLoads :
    (let s := heads 0x2000000000000000 id
     s.live = true ∧ s.dev.startsWith 0 0x20 (entry 0x2000000000000000) = true ∧ (s.dev.tile 0).rampUntil = 0 ∧
     spCheck 64 [(saAddr 0x2000000000000000 25 (entry 0).ix, wfmtBytes 0)] = none) := by decide
/-- A block of 64 × 64 INT8 weights of 0. -/
def blk0 : Block := { fmt := 0, bytes := List.replicate 4096 0 }
theorem witness_MxMacAccumulates :
    (let s := heads 0x2100000000008000 fun t => { t with block := some blk0 }
     s.dev.startsWith 0 0x21 (entry 0x2100000000008000) = true ∧ (s.dev.tile 0).block.isSome = true ∧
     spCheck 64 [(saAddr 0x2100000000008000 22 (entry 0).ix, fld (0x2100000000008000 : Word64) 15 7 * actBytes 0 0)] = none ∧
     macCheck s.dev 0 (some blk0) 0 0 0 1 false = none) := by decide +kernel
theorem witness_MxMacNeedsABlock :
    (let s := heads 0x2100000000008000 id
     s.dev.startsWith 0 0x21 (entry 0x2100000000008000) = true ∧ (s.dev.tile 0).block = none ∧
     spCheck 64 [(saAddr 0x2100000000008000 22 (entry 0).ix, fld (0x2100000000008000 : Word64) 15 7 * actBytes 0 0)] = none) := by decide
theorem witness_MxClrClears : (heads 0x2200000000000000 id).dev.startsWith 0 0x22 (entry 0x2200000000000000) = true := by decide
theorem witness_VxLdLoads :
    (heads 0x4000000000000000 id).dev.startsWith 0 0x40 (entry 0x4000000000000000) = true ∧ spCheck 64 [(0, vfmtBytes 0)] = none := by decide
theorem witness_VxStStores : (heads 0x4100000000000000 id).dev.startsWith 0 0x41 (entry 0x4100000000000000) = true := by decide
theorem witness_VectorResultsAreWritten : (heads wAlu id).dev.startsWith 0 0x42 (entry wAlu) = true := by decide
theorem witness_SortsAreWritten :
    (heads 0x4600000000000000 id).dev.startsWith 0 0x46 (entry 0x4600000000000000) = true ∧
    (heads 0x4700000000000000 id).dev.startsWith 0 0x47 (entry 0x4700000000000000) = true := by decide
theorem witness_VxDeqStores :
    (heads 0x4900000000000000 id).dev.startsWith 0 0x49 (entry 0x4900000000000000) = true ∧ spCheck 64 [(0, 0 * deqRowBytes 0), (0, 0)] = none ∧
    selfHits (deqUse 0 0 (deqRowBytes 0) 0) = [] := by decide
/-- One row whose scales lie in its own bank. -/
theorem witness_VxDeqIsDelayed :
    (let w : Word64 := 0x4900000000000010
     let s := heads w fun t => { t with confHalt := false, confSeen := true }
     s.live = true ∧ s.dev.startsWith 0 0x49 (entry w) = true ∧ (s.dev.tile 0).cur = some 0 ∧ (s.dev.tile 0).confHalt = false ∧
     (s.dev.tile 0).confSeen = true ∧ fld w 4 7 = 1 ∧ spCheck 64 [(0, 1 * deqRowBytes 0), (0, 256)] = none ∧
     selfHits (deqUse 0 0 (deqRowBytes 0) 1) ≠ []) := by decide
/-- The last byte of the scratchpad is 0x7FFFF (R110): a line at 0x80000 lies outside. -/
theorem witness_ScratchpadCheckHalts :
    (let w : Word64 := 0x4000000000000000
     let e := { entry w with ix := 0x80000 :: List.replicate 15 0 }
     let s := runs [] fun t => { t with queues := [[], [e], [], []] }
     s.dev.startsWith 0 0x40 e = true ∧ spCheck 64 [(saAddr e.word 23 e.ix, vfmtBytes 0)] = some 0x1005) := by decide
theorem witness_TileMemoriesKeepWhatIsWritten :
    (List.replicate 64 (0 : Word)).length = 64 ∧ 31 < 32 ∧ 0x7FFFF + [(0 : Byte)].length ≤ 0x80000 := by decide
theorem witness_RampHoldsTheMatrixStream :
    (let s := heads 0x2200000000000000 fun t => { t with rampUntil := 20000000 }
     s.live = true ∧ (s.dev.tile 0).rampUntil ≠ 0 ∧ (s.dev.tile 0).rampUntil ≤ s.dev.nowNs) := by decide
/-- IX.SET writes 7 to IX3 and the PC moves to 1 (R115). -/
theorem test_ix_set :
    ((after (.ixSet 0 .clean) (runs [wSet, wNop] id)).dev.tile 0).ix.getD 3 0 = 7 ∧ ((after (.ixSet 0 .clean) (runs [wSet, wNop] id)).dev.tile 0).pc = 1 := by
  decide
/-- A LOOP of count 0 goes to the instruction after its ENDLOOP (R92). -/
theorem test_loop_of_none :
    ((after (.loopOp 0 .clean) (runs [0x0300020000000800, wNop, wEndloop, wNop] id)).dev.tile 0).pc = 3 := by decide
/-- The PC past the image halts the instance with TILE_RUNAWAY (R99). -/
theorem test_runaway :
    ((after (.nopOp 0 .clean) (runs [] fun t => { t with pc := 3 })).dev.tile 0).faultCode = 0x1002 := by decide +kernel
theorem witness_AccumulatorRowsAreStored :
    (List.replicate 64 (1 : Word)).length = 64 ∧ 1 < 2 ∧ 63 < 64 ∧ ((3 : Nat), (1 : Nat), (63 : Nat)) ≠ (3, 1, 62) := by decide

/-! ## Data movement and synchronisation -/

/-- Tile 0 with an instruction at the head of its stream, captured index registers, 4 GiB of DRAM a channel ready, and the other rows another
tenant's. -/
def starts (w : Word64) (ix : List Word) (f : Dev → Dev) : State :=
  (heads w fun t => { t with queues := setAt t.queues (streamOf (opOf w)) [{ entry w with ix := ix }] }).onDev fun d =>
    f { d with dram := { d.dram with ready := true, cchMib := 4096 }, fab := { d.fab with stand := [0, 1, 1, 1, 1, 1, 1, 1] } }
/-- The entry of it. -/
def ent (w : Word64) (ix : List Word) : QEntry := { entry w with ix := ix }

def z16 : List Word := List.replicate 16 0
/-- Index registers for a group at IX4: 0, 1, 1, 0, 1. -/
def g4 : List Word := [0, 1, 0, 0, 0, 1, 1, 0, 1, 0, 0, 0, 0, 0, 0, 0]

theorem witness_DmMoveCopiesLocally :
    (let w : Word64 := 0x6000000002000001
     let ix := z16.set 1 0x8000
     let s := starts w ix id
     s.live = true ∧ s.dev.startsWith 0 0x60 (ent w ix) = true ∧ fld w 38 6 = (0 : Fin 64).val ∧ saAddr w 22 ix = 0x8000 ∧
     s.dev.dmFree 0 [linesOf 0 64] [linesOf 0x8000 64] 0 = true ∧ spCheck 64 [(0, 64), (0x8000, 64)] = none ∧
     selfHits (copyUse true (lineRows 0 0x8000 64)) = []) := by decide
theorem witness_DmMoveSendsALocalCopy :
    (let w : Word64 := 0x6000004000000001
     let s := starts w z16 id
     s.dev.startsWith 0 0x60 (ent w z16) = true ∧ fld w 38 6 = 1 ∧ s.dev.sameStand 0 1 = true ∧ s.dev.dmFree 0 [linesOf 0 64] [] 1 = true) := by
  decide
theorem witness_DmMoveHonoursTheStand :
    (let w : Word64 := 0x6000020000000001
     let s := starts w z16 id
     s.dev.startsWith 0 0x60 (ent w z16) = true ∧ fld w 38 6 = 8 ∧ s.dev.sameStand 0 8 = false ∧ s.dev.dmFree 0 [linesOf 0 64] [] 1 = true) := by
  decide
theorem witness_DmMoveRdRequests :
    (let w : Word64 := 0x6100004000000001
     let s := starts w z16 id
     s.dev.startsWith 0 0x61 (ent w z16) = true ∧ s.dev.sameStand 0 1 = true ∧ s.dev.dmFree 0 [] [linesOf 0 64] 0 = true) := by decide
theorem witness_DmMoveDsRequests :
    (let w : Word64 := 0x6200000000000200
     let s := starts w z16 id
     s.dev.startsWith 0 0x62 (ent w z16) = true ∧ s.dev.dmFree 0 [] [linesOf 0 64] 0 = true ∧ spCheck 64 [(0, 64)] = none ∧
     s.dev.dramCheck 0 0 64 true = none) := by decide
theorem witness_DmMoveSdSends :
    (let w : Word64 := 0x6300000000000200
     let s := starts w z16 id
     s.dev.startsWith 0 0x63 (ent w z16) = true ∧ s.dev.dmFree 0 [linesOf 0 64] [] (sdTx 0 64) = true ∧
     s.dev.dramCheck 0 0 64 false = none) := by decide
/-- The stand of tenant 1 begins at 4 GiB, unit address 0x400_0000. -/
theorem witness_DramChecksHalt :
    (let w : Word64 := 0x6200030000000200
     let ix : List Word := z16.set 3 0x4000000
     let s := starts w ix id
     s.dev.startsWith 0 0x62 (ent w ix) = true ∧ spCheck 64 [(saAddr w 21 ix, 64)] = none ∧ s.dev.dmFree 0 [] [linesOf (saAddr w 21 (ent w ix).ix) 64] 0 = true ∧
     s.dev.dramCheck 0 (ixAt (ent w ix).ix (fld w 40 4)) 64 true = some 0x8001) := by decide
theorem witness_DmMoveGGathers :
    (let w : Word64 := 0x6400040000000008
     let s := starts w g4 id
     s.dev.startsWith 0 0x64 (ent w g4) = true ∧ fld w 3 5 < 16 ∧ s.dev.dmFree 0 [linesOf 0 64] [linesOf 0 64] 0 = true ∧
     spCheck 64 [(0, listLen 1), (0, 64)] = none ∧ (∀ i ∈ s.dev.listEntries 0 0 1, i < ixAt g4 5) ∧ s.dev.listEntries 0 0 1 = [0] ∧
     s.dev.dramCheck 0 0 64 true = none) := by decide
theorem witness_GatherRangeHalts :
    (let w : Word64 := 0x6400040000000008
     let ix : List Word := 0 :: 1 :: z16.drop 2
     let s := starts w ix id
     s.dev.startsWith 0 0x64 (ent w ix) = true ∧ ixAt ix 6 = 0 ∧ s.dev.dmFree 0 [linesOf 0 64] [linesOf 0 0] 0 = true ∧
     (∃ i ∈ s.dev.listEntries 0 0 1, ixAt ix 5 ≤ i)) := by decide
theorem witness_DmStrideCopies :
    (let w : Word64 := 0x6500000000000010
     let s := starts w (z16.set 4 1) id
     s.dev.startsWith 0 0x65 (ent w (z16.set 4 1)) = true ∧ s.dev.dmFree 0 [allLines] [allLines] (copyTx 0 0) = true ∧
     s.dev.sameStand 0 0 = true ∧ spCheck 64 [] = none ∧ selfHits (copyUse true []) = []) := by decide
theorem witness_DmStrideGGathers :
    (let w : Word64 := 0x6600000002000010
     let ix := g4.set 1 0x8000
     let s := starts w ix id
     s.dev.startsWith 0 0x66 (ent w ix) = true ∧ grpAt w ix 2 = 1 ∧ grpAt w ix 4 = 1 ∧ saAddr w 22 ix = 0x8000 ∧
     s.dev.dmFree 0 [allLines] [allLines] (copyTx 0 0) = true ∧ spCheck 64 [(0, listLen 1), (0 % 64, 64), (0x8000, 64)] = none ∧
     (∀ i ∈ s.dev.listEntries 0 0 1, i < grpAt w ix 1) ∧ s.dev.listEntries 0 0 1 = [0] ∧
     selfHits (lineUse 3 0 (listLen 1) ++ copyUse true [{ src := 0, dst := 0x8000, n := 64 }]) = []) := by decide
theorem witness_DmXposeTransposes :
    (let w : Word64 := 0x6800000002000000
     let ix := z16.set 1 0x8000
     let s := starts w ix id
     s.dev.startsWith 0 0x68 (ent w ix) = true ∧ saAddr w 22 ix = 0x8000 ∧ s.dev.dmFree 0 [linesOf 0 4096] [linesOf 0x8000 4096] 0 = true ∧
     spCheck 4096 [(0, 4096), (0x8000, 4096)] = none ∧ selfHits (xposeUse true 0 0x8000 1) = []) := by decide +kernel
theorem witness_DmXposeSends :
    (let w : Word64 := 0x6800004000000000
     let s := starts w z16 id
     s.dev.startsWith 0 0x68 (ent w z16) = true ∧ fld w 38 6 = 1 ∧ s.dev.sameStand 0 1 = true ∧ s.dev.dmFree 0 [linesOf 0 4096] [] 1 = true ∧
     spCheck 4096 [(0, 4096), (0, 4096)] = none) := by decide
/-- A row multicast to tiles 2 and 3 of the sender's row, of one line: index registers 2 and 3 are the group. -/
theorem witness_DmMcastSends :
    (let w : Word64 := 0x6900022200000000
     let ix : List Word := z16.set 3 64
     let s := starts w ix id
     s.dev.startsWith 0 0x69 (ent w ix) = true ∧ (mcOps (ent w ix)).count ≠ 0 ∧ (mcOps (ent w ix)).n = 64 ∧
     s.dev.dmFree 0 [linesOf 0 64] (ownLand 0 (w.getLsbD 43) (mcOps (ent w ix))).1 1 = true ∧
     s.dev.mcCheck 0 (w.getLsbD 43) (mcOps (ent w ix)) = none) := by decide
theorem witness_DmFwdForwards :
    (let w : Word64 := 0x6A00001200000000
     let ix : List Word := z16.set 3 64
     let s := starts w ix id
     s.dev.startsWith 0 0x6A (ent w ix) = true ∧ (mcOps (ent w ix)).count ≠ 0 ∧ (mcOps (ent w ix)).n ≠ 0 ∧
     s.dev.dmFree 0 [linesOf 0 64] (ownLand 0 true (mcOps (ent w ix))).1 1 = true ∧
     s.dev.mcCheck 0 true (mcOps (ent w ix)) = none) := by decide
theorem witness_DmCodecCommands :
    (let w : Word64 := 0x6C00000000080000
     let ix : List Word := z16.set 6 1
     let s := starts w ix id
     s.dev.startsWith 0 0x6C (ent w ix) = true ∧ w.getLsbD 43 = false ∧ s.dev.dmFree 0 [] [] 1 = true ∧ s.dev.sameStand 0 (fld w 37 6) = true ∧
     saAddr w 21 ix % 64 = 0 ∧ saAddr w 21 ix < 524288 ∧ grpAt w ix 2 = 1 ∧
     (∀ a ∈ codecAddrs false (grpAt w ix 0) 1 (grpAt w ix 3), s.dev.codecAt 0 false a = none)) ∧
    (let w : Word64 := 0x6C00080000080000
     let ix : List Word := z16.set 6 64
     let s := starts w ix id
     s.dev.startsWith 0 0x6C (ent w ix) = true ∧ w.getLsbD 43 = true ∧ s.dev.dmFree 0 [linesOf 0 64] [] 1 = true ∧ grpAt w ix 2 = 64 ∧
     spCheck 64 [(saAddr w 21 ix, 64)] = none ∧
     (∀ a ∈ codecAddrs true (grpAt w ix 0) 64 (grpAt w ix 3), s.dev.codecAt 0 true a = none)) := by decide
theorem witness_DmPrefCommands :
    (let w : Word64 := 0x6D00000000010000
     let s := starts w z16 id
     s.dev.startsWith 0 0x6D (ent w z16) = true ∧ (s.dev.instOf 0).isSome = true ∧ s.dev.dmFree 0 [] [] 1 = true ∧ fld w 16 12 ≠ 0) := by decide
theorem witness_EmptyDmInstructionsComplete :
    (let w : Word64 := 0x6D00000000000000
     (starts w z16 id).dev.startsWith 0 0x6D (ent w z16) = true ∧ fld w 16 12 = 0 ∧ (starts w z16 id).dev.dmFree 0 [] [] 0 = true) ∧
    (let w : Word64 := 0x6900000200000000
     (starts w z16 id).dev.startsWith 0 0x69 (ent w z16) = true ∧ (mcOps (ent w z16)).count = 0 ∧
     (starts w z16 id).dev.dmFree 0 [linesOf (mcOps (ent w z16)).sa (mcOps (ent w z16)).n] [] 0 = true ∧
     (starts w z16 id).dev.mcCheck 0 (w.getLsbD 43) (mcOps (ent w z16)) = none) ∧
    (let w : Word64 := 0x6A00000200000000
     (starts w z16 id).dev.startsWith 0 0x6A (ent w z16) = true ∧ (mcOps (ent w z16)).count = 0 ∧
     (starts w z16 id).dev.mcCheck 0 true (mcOps (ent w z16)) = none) := by decide

theorem witness_CounterUpdatesAreHeld :
    (let w : Word64 := 0x8000080000000000
     let s := starts w z16 id
     s.live = true ∧ s.dev.startsWith 0 0x80 (ent w z16) = true ∧ (s.dev.tile 0).syOps = [] ∧ w.getLsbD 43 = true ∧
     s.dev.sameStand 0 (fld w 33 6) = true) := by decide
theorem witness_CounterUpdateHonoursTheStand :
    (let w : Word64 := 0x8000081000000000
     let s := starts w z16 id
     s.dev.startsWith 0 0x80 (ent w z16) = true ∧ s.dev.sameStand 0 (fld w 33 6) = false) := by decide
/-- A counter of chip 3, from chip 0. -/
theorem witness_CounterUpdatesOfAnotherChipAreHeld :
    (let w : Word64 := 0x8000018000000000
     let s := starts w z16 fun d => { d with fab := { d.fab with stand := List.replicate 8 0 } }
     s.dev.startsWith 0 0x80 (ent w z16) = true ∧ fld w 39 4 = 3 ∧ w.getLsbD 43 = false ∧ s.dev.multi = false ∧ 3 ≠ s.dev.chipId ∧
     bit (s.dev.reg Reg.HT_ROLES) 3 = false) := by decide
theorem witness_CounterReadersWaitForAcks :
    ((starts 0x8400030000000000 z16 fun d => d.updTile 0 fun t => { t with txns :=
      [{ id := 0, write := true, sync := true, left := 1, op := none }] }).dev.tile 0).unacked ≠ 0 := by decide
theorem witness_ScWaitWaits :
    (let w : Word64 := 0x8300000000000001
     let s := starts w z16 id
     s.dev.startsWith 0 0x83 (ent w z16) = true ∧ s.dev.ctrBad 0 0 = false ∧ s.dev.plan.steps = []) := by decide
theorem witness_ScReadReads :
    (let w : Word64 := 0x8400030000000000
     let s := starts w z16 id
     s.dev.startsWith 0 0x84 (ent w z16) = true ∧ (s.dev.tile 0).unacked = 0 ∧ s.dev.ctrBad 0 (fld w 29 11) = false) := by decide
theorem witness_PoisonedCounterHalts :
    (let w : Word64 := 0x8300000000000001
     let s := starts w z16 fun d => { d with mem := { d.mem with ctrBad := [(0, true)] } }
     s.dev.startsWith 0 0x83 (ent w z16) = true ∧ s.dev.ctrBad 0 (fld w 33 11) = true) := by decide
theorem witness_WaitAnyWaits :
    (let w : Word64 := 0x8500000000000000
     let s := starts w z16 id
     s.dev.startsWith 0 0x85 (ent w z16) = true ∧ spCheck 64 [(saAddr w 21 z16, 64)] = none ∧ fld w 37 3 + 1 = 1 ∧
     leNat (s.dev.spadBytes 0 0 8) = 0 ∧ fldN 0 12 20 = 0 ∧ s.dev.ctrBad 0 (waitCond 0).1 = false) := by decide
theorem witness_MetWaitsComplete :
    (runs [] fun t => { t with syOps := [.wait 0 none 7 true 0 true] }).dev.ctrBad 0 7 = false ∧
    ((runs [] fun t => { t with syOps := [.any 0 none 2 [(7, true, 0)] (some 0)] }).dev.tile 0).syOps =
      [.any 0 none 2 [(7, true, 0)] (some 0)] := by decide
theorem witness_FenceWaits : (starts 0x8600000000000000 z16 id).dev.startsWith 0 0x86 (ent 0x8600000000000000 z16) = true := by decide

/-- A mapping of tenant 0 whose slot 0 joins tiles 0 and 1. -/
def joined (d : Dev) : Dev :=
  { d with map := { d.map with active := setAt d.map.active 0 (some
      { bars := [{ tileMask := 3, chipMask := 0, flags := 1, rest := 0 }], id := 0, lcrc := 0, crc := 0 }) } }
theorem witness_BarriersArriveAndWait :
    (let s := starts 0x8700000000000000 z16 joined
     s.dev.startsWith 0 0x87 (ent 0x8700000000000000 z16) = true ∧ s.dev.barCheck 0 0 = none ∧
     tabGet (fun _ => 0) (s.dev.bar (barKey (s.dev.tileTenant 0) 0)).sent 0 < 65536) := by decide
/-- BAR.WAIT before any arrival (R139), and a 65,537th arrival (R204). -/
theorem witness_BarrierOrderHalts :
    (let s := starts 0x8800000000000000 z16 joined
     s.dev.startsWith 0 0x88 (ent 0x8800000000000000 z16) = true ∧ tabGet (fun _ => 0) (s.dev.bar (barKey 0 0)).sent 0 = 0) ∧
    (let s := starts 0x8700000000000000 z16 fun d => (joined d).setBar (barKey 0 0) { BarSlot.empty with sent := [(0, 65536)] }
     s.dev.startsWith 0 0x87 (ent 0x8700000000000000 z16) = true ∧ 65536 ≤ tabGet (fun _ => 0) (s.dev.bar (barKey 0 0)).sent 0) := by decide
theorem witness_DroopStretchesTheTile :
    (up id).live = true ∧ (up id).dev.pstate ≤ 2 ∧ droops (up id).dev (up id).th 0 100 = true ∧ droops (up id).dev (up id).th 0 900 = false := by
  decide
/-- The local copy moves the line: its first byte arrives at the second line. -/
theorem test_dm_move :
    (let w : Word64 := 0x6000000000000001
     let ix : List Word := z16.set 1 64
     let w' : Word64 := w + 0x2000000
     let s := starts w' ix fun d => { d with mem := { d.mem with spad := [(0, 0xAB)] } }
     (after (.dmMove 0 (.start .clean) none) s).dev.spad 0 64) = 0xAB := by decide +kernel

/-! ## Flits -/

/-- A flit from tile 1 at (2, 1) to a node, without error. -/
def flit (x y : Fin 16) (ty addr : Nat) (last : Bool) (pay : Line) : FlitEv :=
  { tag := mkTag ⟨2, 1⟩ ⟨x.val, y.val⟩ ty 0 last 5 false 0 addr, pay := pay, x := x, y := y, ecc := .clean, dram := calm, looks := [], same := false }
/-- The same, poisoned. -/
def bad (f : FlitEv) : FlitEv := { f with tag := tagSetPoison f.tag }
/-- Tile 0 at (1, 1) with a transaction 5 open, and DRAM ready. -/
def open5 (w : Bool) : State :=
  (runs [] fun t => { t with txns := [{ id := 5, write := w, sync := false, left := 1, op := none }] }).onDev fun d =>
    { d with dram := { d.dram with ready := true, cchMib := 4096 } }

theorem witness_WriteFlitLandsAtATile :
    (let f := flit 1 1 tyWR 8191 true 7
     (open5 true).live = true ∧ (open5 true).dev.accepts tyWR f = true ∧ (open5 true).dev.wholesome f = true ∧ isTile f.x f.y = true ∧
     tagAddr f.tag < 8192 ∧ tagMc f.tag = 0) := by decide +kernel
theorem witness_WriteFlitLandsInDram :
    (let f := flit 0 1 tyWR 0 true 7
     let s := open5 true
     s.dev.accepts tyWR f = true ∧ s.dev.wholesome f = true ∧ f.x.val = 0 ∧ f.y.val ≠ 9 ∧ f.y.val ≠ 0 ∧
     (s.dev.landed f).westRefusal (s.dev.copyOf f) 1 = none) := by decide +kernel
theorem witness_PoisonedWriteIsRefused :
    (let f := bad (flit 1 1 tyWR 0 true 7)
     (open5 true).dev.accepts tyWR f = true ∧ tagPoison f.tag = true ∧ tagLast f.tag = true ∧ (open5 true).dev.fab.tainted = []) := by decide +kernel
theorem witness_ZeroWriteSignals :
    (open5 true).dev.accepts tyWRZ (flit 1 1 tyWRZ 0 true 0) = true ∧ (open5 true).dev.wholesome (flit 1 1 tyWRZ 0 true 0) = true := by decide +kernel
theorem witness_ReadFlitReturnsLines :
    (let f := flit 1 1 tyRD 8191 true 2
     (open5 true).dev.accepts tyRD f = true ∧ tagPoison f.tag = false ∧ f.dram.array = .clean ∧ rdCount f.pay = 2) := by decide +kernel
theorem witness_ReadFlitReadsDram :
    (let f := flit 0 1 tyRD 0 true 1
     let s := open5 true
     s.dev.accepts tyRD f = true ∧ rdCount f.pay = 1 ∧ (s.dev.landed f).westRefusal (s.dev.copyOf f) 1 = none ∧
     ((s.dev.landed f).readUnit (tagAddr f.tag * 64) 3 ((s.dev.landed f).askedBy f.tag) f.dram).1 = none) := by decide +kernel
theorem witness_DescriptorIsTaken :
    (let f := flit 9 1 tyCMD 0 true 0
     let x := Desc.pref 1 5 none 0 0 0 1
     let s := (open5 true).onDev fun d => { d with plan := { d.plan with descs := [x] } }
     s.dev.accepts tyCMD f = true ∧ tagPoison f.tag = false ∧ f.x.val = 9 ∧ f.y.val ≠ 0 ∧
     (s.dev.landed f).plan.descs.find? (descOf f.tag) = some x) := by decide +kernel
theorem witness_ReadDataLands :
    (let f := flit 1 1 tyRDATA 3 true 9
     (open5 false).dev.arrives tyRDATA f = true ∧ tagPoison f.tag = false ∧ isTile f.x f.y = true ∧ tagAddr f.tag < 8192 ∧
     ((open5 false).dev.landed f).txn (tileAt f.x f.y) (tagTxid f.tag) = some { id := 5, write := false, sync := false, left := 1, op := none }) := by
  decide +kernel
theorem witness_PoisonedReadDataHalts :
    (let f := bad (flit 1 1 tyRDATA 3 true 9)
     (open5 false).dev.arrives tyRDATA f = true ∧ tagPoison f.tag = true ∧ ((open5 false).dev.copyOf f).why = 0 ∧
     (((open5 false).dev.landed f).txn (tileAt f.x f.y) (tagTxid f.tag)).isSome = true) := by decide +kernel
theorem witness_WriteAckEndsTheTransfer :
    (let f := flit 1 1 tyWACK 0 true 0
     (open5 true).dev.arrives tyWACK f = true ∧ f.src ≠ nTick ∧ tagPoison f.tag = false ∧ bit f.pay 0 = false ∧
     (((open5 true).dev.landed f).txn (tileAt f.x f.y) (tagTxid f.tag)).isSome = true) := by decide +kernel
theorem witness_ErrorFlitHalts :
    (let f := flit 1 1 tyERR 0 true 0x20020000
     (open5 false).dev.arrives tyERR f = true ∧ tagTy (BitVec.ofNat 96 (fld f.pay 32 96)) ≠ tyBARR ∧ (((open5 false).dev.landed f).txn (tileAt f.x f.y) (tagTxid f.tag)).isSome = true) := by decide +kernel
theorem witness_WriteAckReachesTheEastNode :
    (let f := flit 9 1 tyWACK 0 true 0
     (open5 true).dev.arrives tyWACK f = true ∧ f.x.val = 9 ∧ f.src ≠ nTick ∧ tagPoison f.tag = false) := by decide +kernel
theorem witness_ErrorFlitHaltsAnArrival :
    (let f := flit 1 1 tyERR 0 true (BitVec.ofNat 512 (0x20020000 + 2 ^ 32 * (mkTag ⟨1, 1⟩ nTick tyBARR 0 true 0 false 0 0).toNat))
     (open5 true).dev.arrives tyERR f = true ∧ tagPoison f.tag = false ∧ tagTy (BitVec.ofNat 96 (fld f.pay 32 96)) = tyBARR) := by
  decide +kernel
theorem witness_CounterAddApplies :
    (let f := flit 1 1 tyCADD 7 true 1
     (open5 true).dev.accepts tyCADD f = true ∧ tagPoison f.tag = false ∧ f.dram.array = .clean) := by decide +kernel
theorem witness_CounterSetApplies : (open5 true).dev.accepts tyCSET (flit 1 1 tyCSET 7 true 1) = true := by decide +kernel
theorem witness_PoisonedCounterUpdateIsRefused :
    (open5 true).dev.accepts tyCADD (bad (flit 1 1 tyCADD 7 true 1)) = true ∧
    (open5 true).dev.accepts tyCSET (bad (flit 1 1 tyCSET 7 true 1)) = true := by decide +kernel
theorem witness_ArrivalReachesTheTickUnit :
    (let f := flit 3 9 tyBARR 0 true 0
     (open5 true).dev.accepts tyBARR f = true ∧ f.dst = nTick) := by decide +kernel
theorem witness_ReleaseReachesTheRow :
    (let f : FlitEv := { flit 0 1 tyBREL 0 true 0 with tag := mkTag nTick ⟨0, 1⟩ tyBREL 0 true 0 false 0 0 }
     (open5 true).dev.accepts tyBREL f = true ∧ f.x.val = 0 ∧ tagPoison f.tag = false) := by decide +kernel
theorem witness_WaitingRequestIsGranted :
    nodeExists 3 4 = true ∧ (3, 4, 0) ∉ (up id).dev.fab.reqNext ∧ fld ((up id).dev.reg Reg.CN_CTRL) 0 4 + 1 ≤ 16 := by decide
theorem witness_PerfSelectRestartsTheCount : (0x7701 : Word) &&& 0x77FF = 0x7701 ∧ 0x7701 ≠ (up id).dev.reg Reg.CN_PERF_SEL := by decide
theorem witness_CounterWindowSets : (up id).hostReady = true ∧ (up id).dev.booting = false := by decide
theorem witness_ForeignCounterWindowIsRefused : (2 : Fin 9) ≠ 0 ∧ (up id).dev.tileTenant 0 ≠ (2 : Fin 9).val - 1 := by decide
/-- Type code 7 is assigned to no flit (Table 7-4). -/
theorem witness_BadFlitIsDiscarded : tagBad (mkTag ⟨2, 1⟩ ⟨1, 1⟩ 7 0 true 0 false 0 0) = true := by decide
/-- With tenant 1 in row 2, a flit of tenant 0 to tile 8 is refused (R183). -/
theorem witness_RefusedFlitChangesNoMemory :
    (let f := flit 1 2 tyWR 0 true 0
     let s := (open5 true).onDev fun d => { d with fab := { d.fab with stand := [0, 1, 1, 1, 1, 1, 1, 1] } }
     ((s.dev.leave (s.dev.copyOf f)).refusedAt f.tag f.dst).isSome = true) := by decide +kernel
theorem witness_RouteTagFieldsReadBack : 15 < 16 ∧ 7 < 8 ∧ 255 < 256 ∧ 2047 < 2048 ∧ 2 ^ 32 - 1 < 2 ^ 32 := by decide
theorem witness_TileRoutesGoRowFirst : isTile 8 8 = true ∧ isTile 1 1 = true := by decide
/-- From tile 0 to tile 9: one step along the row, then one along the column (R176). -/
theorem test_route : route ⟨1, 1⟩ ⟨2, 2⟩ = [⟨1, 1⟩, ⟨2, 1⟩, ⟨2, 2⟩] := by decide
/-- Counter 100 of tile 34 lies at BAR0 offset 0x054_4190 (chapter 08), and takes the word written there. -/
theorem test_counter_window :
    ((after (.registerWrite 0 0x0544190 9 free) (up id)).dev.ctr 34 100) = 9 := by decide +kernel

/-! ## The prefetcher and the codec -/

/-- A step of SRC 0 that has unit 0 of row 0 still to read, over a flash of one chip. -/
def step0 : PStep :=
  { id := 0, tenant := 0, src := 0, dst := 0, ordered := false, dtile := 0, cidx := 0, first := 0, count := 2, dest := 0, ostride := 0,
    ubase := 0, row0 := 0, nrows := 8, nextOff := List.replicate 8 0, doneUnits := 0, ordOff := 0, ordBlk := 0, results := [],
    totals := [], failed := false, ack := none }
def unit0 : UnitSt :=
  { step := 0, unit := 0, row := 0, ch := 0, page := 0x100, landed := false, data := [], pos := 0, num := 0, out := 0, scanned := false,
    held := false, left := 0, bad := false, outs := [], writing := false }
def chip (d : Dev) : Dev :=
  { d.setReg (Reg.FL_CH_WREG 0) 0x100008 with
    flash := { d.flash with ready := true, pages := 1024, blocks := 512, ces := 1, luns := 1, bbtLoaded := true }
    dram := { d.dram with ready := true, cchMib := 4096 } }
def plan (f : PlanSt → PlanSt) : State := up fun d => chip { d with plan := f { d.plan with steps := [step0] } }
theorem witness_UnitReadIsIssued :
    (let s := plan id
     s.live = true ∧ s.dev.rowStep 0 = some step0 ∧ step0.src ≠ 1 ∧ s.dev.readUsed 0 + 16384 ≤ s.dev.readArea ∧
     step0.nextFor 0 0 = some 0 ∧ s.dev.flash.ready = true ∧ (s.dev.unitPage (step0.unitCh 0) 0 0).isSome = true) := by decide +kernel
theorem witness_PageReadLandsTheUnit :
    (let s := plan fun p => { p with units := [unit0] }
     s.dev.plan.units.find? (fun u => !u.landed && decide (u.ch = 0) && !(s.dev.lunHeld (s.dev.lunOf u.page))) = some unit0) := by decide +kernel
/-- A host command that reads page 0 of block 5. -/
def rdCmd : FlCmd := { op := 1, addr := 5 * 8192, slc := false, buf := 0, since := 0, aged := false, begun := true, stage := 0, data := [] }
/-- A core whose page of that command is erased, and the core with a page programmed there. -/
def blank (d : Dev) : Dev := let d := chip d; { d with flash := { d.flash with cmd := some rdCmd } }
def BufferIsRead (data : List Byte) : Prop :=
    (let s := at' fun d => (blank d).programPage rdCmd.addr data
     s.live = true ∧ s.dev.flash.cmd = some rdCmd ∧ pgCh rdCmd.addr = 0 ∧ rdCmd.op = 1 ∧ rdCmd.begun = true ∧ (blank Dev.reset).pstate < 3 ∧
     (s.dev.readPage rdCmd.addr (rdCmd.slc || inBoot rdCmd.addr) (.decodes 0 0)).1 = some data)
theorem bufferIsRead_of (data : List Byte) (hl : data.length = 16384) : BufferIsRead data := by
  refine ⟨rfl, ?_, by decide, rfl, rfl, by decide +kernel, readPage_programPage _ _ _ _ _ (by decide +kernel) hl⟩
  have h : ∀ d pg, (Dev.programPage d pg data).flash.cmd = d.flash.cmd := by
    intro d pg; simp only [Dev.programPage]; split <;> rfl
  exact h _ _
theorem witness_PageReadFillsTheBuffer : BufferIsRead (List.replicate 16384 5) := bufferIsRead_of _ (List.length_replicate ..)
/-- A stored block of 64 zeros, and a unit that holds it. -/
def stored : List Byte := mbfEncode 0 none (List.replicate 64 0)
def unitIn : UnitSt := { unit0 with landed := true, data := stored ++ List.replicate 64 0 }
def nothing : BlkEv := { dram := calm, page := .decodes 0 0, glade := .clean, flip := none, parity := false }
theorem witness_BlockOfAUnitIsJudged :
    (let s := plan fun p => { p with units := [unitIn] }
     s.dev.plan.units.find? (fun u => decide (u.row = 0) && !(u.data.isEmpty && u.landed) && !u.scanned) = some unitIn ∧
     unitIn.landed = true ∧ unitIn.held = false ∧ s.dev.step? 0 = some step0 ∧
     (let raw := flipBytes (unitIn.data.drop 0) none
      mbfValid raw = true ∧ 0 + (mbfHdr raw).extent ≤ 16384)) := by decide +kernel
/-- A block of that unit in a phase. -/
def blkIn (ph : BlkPhase) (own : BlkOwner) : Blk :=
  { owner := own, num := 0, row := 0, tenant := 0, page := some 0x100, addr := 0, out := 0, bytes := stored, phase := ph, table := [],
    seq := 0, res := some 64 }
/-- A page whose first bytes are that block. -/
def pageIn : List Byte := stored ++ List.replicate (16384 - stored.length) 0
theorem length_pageIn : pageIn.length = 16384 := by
  have h : stored.length ≤ 16384 := by decide +kernel
  simp only [pageIn, List.length_append, List.length_replicate]; omega
theorem reread_holds (data : List Byte) (hl : data.length = 16384) :
    (let b := blkIn .reread (.step 0 0)
     let s := (plan fun p => { p with blks := [b] }).onDev (·.programPage 0x100 data)
     s.live = true ∧ s.dev.plan.blks.find? (fun b => decide (b.row = 0) && decide (b.phase = .reread)) = some b ∧
     (s.dev.readPage 0x100 false (.decodes 0 0)).1 = some data) := by
  refine ⟨rfl, ?_, readPage_programPage _ _ _ _ _ (by decide +kernel) hl⟩
  have h : ∀ d, (Dev.programPage d 0x100 data).plan = d.plan := by
    intro d; simp only [Dev.programPage]; split <;> rfl
  have := h (plan fun p => { p with blks := [blkIn .reread (.step 0 0)] }).dev
  simp only [State.onDev, this]
  rfl
theorem witness_SecondReadRepairs :
    (let b := blkIn .reread (.step 0 0)
     let s := (plan fun p => { p with blks := [b] }).onDev (·.programPage 0x100 pageIn)
     s.live = true ∧ s.dev.plan.blks.find? (fun b => decide (b.row = 0) && decide (b.phase = .reread)) = some b ∧
     (s.dev.readPage 0x100 false (.decodes 0 0)).1 = some pageIn) ∧ nothing.glade = .clean ∧
    (let raw := flipBytes (pageIn.drop 0) none
     0 + (mbfHdr raw).extent ≤ 16384 ∧ mbfValid raw = true ∧ mbfOk (raw.take (mbfHdr raw).extent) = true) :=
  ⟨reread_holds pageIn length_pageIn, rfl, by decide +kernel⟩
theorem witness_DecodedBlockIsPlaced :
    (let b := blkIn .checked (.step 0 0)
     let s := plan fun p => { p with blks := [b], units := [{ unitIn with scanned := true }] }
     (s.dev.rowBlks 0).head? = some b ∧ s.dev.mayDecode b = true ∧ (s.dev.rowEnc 0).any (fun o => decide (o.seq < b.seq)) = false ∧
     mbfDecode b.table b.bytes = some (List.replicate 64 0) ∧ s.dev.step? 0 = some step0 ∧ 0 + 64 ≤ 524288) := by decide +kernel
/-- A DM.CODEC of tile 0. -/
def op0 (enc : Bool) : CodecOp :=
  { id := 0, tile := 0, ord := 0, txid := 5, inst := none, tenant := 0, enc := enc, dtile := 1, sa := 0, addr := 0, count := 1, stride := 0,
    ctrD := 0, ctrS := 0, num := 0, nextA := 0, nextO := 0, prof := 0, cand := 0, data := List.replicate 64 0, open_ := 1, held := false,
    failed := false, seq := 0, sent := 0 }
theorem witness_DecodedCodecBlockIsPlaced :
    (let b := { blkIn .checked (.codec 0) with page := none }
     let s := plan fun p => { p with blks := [b], ops := [op0 false] }
     (s.dev.rowBlks 0).head? = some b ∧ s.dev.mayDecode b = true ∧ (s.dev.rowEnc 0).any (fun o => decide (o.seq < b.seq)) = false ∧
     mbfDecode b.table b.bytes = some (List.replicate 64 0) ∧ s.dev.op? 0 = some (op0 false) ∧ 0 + 64 ≤ 524288) := by decide +kernel
/-- With DRAM of zeros the table at its base never decreases. -/
theorem witness_TableFetchGivesTheTable :
    (let b := blkIn .needTable (.step 0 0)
     let s := plan fun p => { p with blks := [b], tblCount := setAt p.tblCount 0 1 }
     s.dev.plan.blks.find? (fun b => decide (b.row = 0) && decide (b.phase = .needTable)) = some b ∧
     s.dev.cached 0 0 0 = none ∧ (s.dev.fetchTable 0 0 0 none calm).1.1 = none) := by decide +kernel
/-- The chain of a SRC 1 step at DRAM address 0, which holds zeros: its first block has no valid header. -/
def dchain : UnitSt := { unit0 with landed := true }
theorem witness_BlockOfAStepIsJudged :
    (let s := plan fun p => { p with steps := [{ step0 with src := 1 }], units := [dchain] }
     s.live = true ∧ s.dev.plan.units.find? (fun u => u.landed && u.data.isEmpty && !u.scanned && !u.held && s.dev.stepTurn u.step 0
       && (if s.dev.codecCheck (s.dev.rowTenant 0) u.pos 64 = none then decide ((s.dev.dramPlace u.pos).1 = 0) else decide (u.row = 0)))
       = some dchain ∧ (s.dev.step? 0).isSome = true ∧ s.dev.readUsed 0 + up64 (s.dev.extentAt 0) ≤ s.dev.readArea ∧
     ((s.dev.updUnit 0 0 (fun u => { u with left := u.left + 1 })).readBlk 0 0 none 1 true calm).1.1 = none) := by decide +kernel
theorem witness_BlockOfACodecIsJudged :
    (let s := plan fun p => { p with ops := [op0 false] }
     s.dev.plan.ops.find? (fun o => !o.enc && !o.failed && !o.held && decide (o.num < o.count) && decide (s.dev.opRow o = 0)) =
       some (op0 false) ∧
     ((s.dev.updOp 0 (fun o => { o with open_ := o.open_ + 1 })).readBlk 0 (op0 false).at_ none 2 false calm).1.1 = none) := by
  decide +kernel
theorem witness_EncodedBlockIsWritten :
    (let s := plan fun p => { p with ops := [op0 true] }
     s.dev.rowEnc 0 = some (op0 true) ∧ (s.dev.rowBlks 0).any (fun b => decide (b.seq < (op0 true).seq)) = false ∧
     s.dev.codecUsed 0 + (2 * 64 + 64) ≤ s.dev.codecArea ∧
     (s.dev.candidates 0 0 none [] ((List.range (min (fld (op0 true).prof 2 3) 4)).map (fun j => fld (op0 true).cand (8 * j) 8))).1 = (none, []) ∧
     s.dev.codecCheck 0 (op0 true).at_ (mbfEncode 0 none (List.replicate 64 0)).length = none ∧
     oneGranule (op0 true).at_ (mbfEncode 0 none (List.replicate 64 0)).length = true ∧ (s.dev.dramPlace (op0 true).at_).1 = 0) := by
  decide +kernel
theorem witness_TableCommitIsPending : (up id).live = true := by decide
theorem witness_BlockTransformsInvert : (0 = 0 ∨ ([1, 2, 3] : List Byte).length % 2 = 0) ∧ ([1, 2] : List Byte).length % 2 = 0 := by decide
theorem witness_StoredBlocksDecodeToTheirData : 3 < 4 ∧ ([1, 2] : List Byte).length ≤ 16384 ∧ ([1, 2] : List Byte).length % 2 = 0 := by decide
/-- A table all of whose slots are symbol 0 codes a sequence of that symbol. -/
theorem witness_RansDecodesWhatItEncodes :
    (List.replicate 4096 (0 : Byte)).length = 4096 ∧ mbfRises (List.replicate 4096 0) = true ∧ ransEligible (List.replicate 4096 0) [0, 0] = true := by
  decide +kernel

/-! ## DRAM and flash -/

/-- Change channel 0. -/
def onCh0 (f : DramCh → DramCh) (d : Dev) : Dev := onDram (fun m => { m with ready := true, chans := setAt m.chans 0 (f DramCh.reset) }) d
/-- A channel of 16 Gb devices that trains at the first attempt, and a bring-up of eight of them. -/
def good : TrainCh := { tries := [0, 0, 0, 0, 0, 0], gb := 16, fits := true, mr8 := 0, mr5 := 0, mr4 := 8, phy := [] }
def upAll : DramUp := { chans := List.replicate 8 good, slot := .decodes 0 0, store := true }
/-- The same, but for a third failed attempt at step 4 of channel 7. -/
def lost7 : TrainCh := { good with tries := [0, 2, 0, 3, 0, 0] }

theorem witness_DramStartBeginsBringUp :
    (up id).live = true ∧ bit (1 : Word) 0 = true ∧ (up id).dev.dram.started = false ∧ fld ((up id).dev.reg Reg.DR_GCFG) 0 3 ≠ 7 := by decide
theorem witness_ReservedRateFailsEveryChannel :
    (let s := up fun d => d.setReg Reg.DR_GCFG 7
     s.live = true ∧ bit (1 : Word) 0 = true ∧ s.dev.dram.started = false ∧ fld (s.dev.reg Reg.DR_GCFG) 0 3 = 7) := by decide
theorem witness_SecondDramStartIsIgnored : (up (onDram fun m => { m with started := true })).dev.dram.started = true := by decide
theorem witness_TrainingMakesTheDramReady :
    (let s := up (onDram fun m => { m with training := true })
     s.dev.dram.training = true ∧ s.dev.sec.unkeyed.any (fun k => decide (k < 8)) = false) ∧ upAll.chans.length = 8 ∧
    upAll.chans.all (·.ok) = true := by decide
theorem witness_FailedChannelKeepsTheDramDown :
    (setAt upAll.chans 7 lost7).length = 8 ∧ (setAt upAll.chans 7 lost7)[7]? = some lost7 ∧ lost7.ok = false ∧
    { good with fits := false }.ok = false ∧ (up id).dev.dram.ready = false := by decide
theorem witness_DramConfigIsWrittenBeforeStart : (up id).dev.dram.started = false := by decide
theorem witness_LockedDramFieldsKeep :
    (let s := up (onDram fun m => { m with started := true })
     s.dev.dram.started = true ∧ (3 : Word) &&& 3 ≠ s.dev.reg (Reg.DR_CH_CFG 7) &&& 3) := by decide
theorem witness_TempRefreshClosesOneBank :
    (let s := up (onCh0 id)
     s.live = true ∧ s.dev.dram.ready = true ∧ s.dev.pstate ≤ 2 ∧ (s.dev.ch 0).fixed = false ∧ (s.dev.ch 0).bankDue 15 ≤ s.dev.nowNs) := by
  decide
theorem witness_FixedRefreshFollowsTheGrid :
    (let s := up (onCh0 fun c => { c with fixed := true, nextRef := 19000000, trackNs := 15000000 })
     s.live = true ∧ s.dev.dram.ready = true ∧ s.dev.pstate ≤ 3 ∧ (s.dev.ch 0).fixed = true ∧ (s.dev.ch 0).nextRef ≤ s.dev.nowNs) := by decide
theorem witness_PollReadsTheTemperature :
    (let s := up (onCh0 id)
     (s.dev.ch 0).mr4Ns + 250000 ≤ s.dev.nowNs ∧ 0 < s.dev.dram.chans.length) := by decide
theorem witness_TrackingIsDone : ((up (onCh0 id)).dev.ch 0).trackNs + 8000000 ≤ (up (onCh0 id)).dev.nowNs := by decide
theorem witness_IdlePageCloses :
    (let s := up (onCh0 fun c => { c with open_ := [(3, some (9, 0, true))], pageUse := 0x00400001 })
     tabGet noPage (s.dev.ch 0).open_ 3 = some (9, 0, true) ∧ (s.dev.ch 0).pageUse.toNat % 64 ≠ 0 ∧
     fld (s.dev.ch 0).pageUse 16 10 * 10000 ≤ (s.dev.nowNs - 0) * s.dev.ckTenths) := by decide +kernel
/-- A channel whose device reports 16 Gb holds 2 GiB, and 15/16 of it with inline ECC (R244). -/
theorem test_capacity : good.mib false = 2048 ∧ good.mib true = 1920 := by decide

theorem witness_FlashStartBeginsBringUp : (up id).live = true ∧ (up id).dev.flash.started = false := by decide
theorem witness_SecondFlashStartIsIgnored : (up (onFlash fun f => { f with started := true })).dev.flash.started = true := by decide
/-- A parameter page, and a bring-up of sixteen channels of one CE each that show it. -/
def onePage : FlParam := { data := 16384, spare := 1606, pages := 1024, blocks := 1024, luns := 1, rates := 31 }
def flashAll : FlashUp := { targets := List.replicate 16 [some onePage, none, none, none], tries := List.replicate 16 0, evs := [] }
theorem witness_FlashBecomesReady :
    (let s := up (onFlash fun f => { f with busy := true })
     s.dev.flash.busy = true ∧ flashAll.failMask (s.dev.regN Reg.FL_GCFG) = 0 ∧ flashAll.target 0 0 = some onePage ∧
     cesOf (flashAll.ceSet 0) = some 1) := by decide +kernel
/-- A third failed training of channel 15 fails it. -/
theorem witness_FlashChannelFails :
    (let s := up (onFlash fun f => { f with busy := true })
     s.dev.flash.busy = true ∧ { flashAll with tries := setAt flashAll.tries 15 3 }.failMask (s.dev.regN Reg.FL_GCFG) = 0x8000) := by decide +kernel
theorem witness_FlashRateIsLockedByStart : (up id).live = true ∧ (up (onFlash fun f => { f with started := true })).dev.flash.started = true := by decide
theorem witness_RegionRegistersAreWritten : (up chip).live = true ∧ (up chip).dev.flash.ready = true := by decide
/-- A page outside the boot region: channel 0, CE 0, block 9. -/
def idle9 : State := up fun d => chip (d.setReg Reg.FL_CMD_ADDR (9 * 8192))
theorem witness_FlashCommandsAreIssued :
    idle9.live = true ∧ idle9.dev.flash.cmd = none ∧ idle9.dev.flRefusal 1 (9 * 8192) = none ∧ idle9.dev.flRefusal 3 (9 * 8192) = none ∧
    idle9.dev.flRefusal 5 (9 * 8192) = none ∧ idle9.dev.bufRefusal = none ∧ idle9.dev.regN Reg.FL_CMD_ADDR = 9 * 8192 := by decide +kernel
theorem witness_ProgramPageIsIssued :
    idle9.dev.flRefusal 2 (9 * 8192) = none ∧ idle9.dev.bufRefusal = none ∧ (idle9.dev.readDram idle9.dev.flBuf 16384 0 none calm).1 = none := by
  decide +kernel
theorem witness_MarkBadMarks : idle9.dev.flRefusal 4 (9 * 8192) = none ∧ inBoot (9 * 8192) = false := by decide +kernel
theorem witness_ScanBuildsTheTable : idle9.dev.flRefusal 6 (idle9.dev.regN Reg.FL_CMD_ADDR) = none := by decide +kernel
/-- A block outside the geometry is refused (R279). -/
theorem witness_FlashCommandsAreRefused :
    (idle9.onDev (onFlash fun f => { f with cmd := some rdCmd })).dev.flash.cmd.isSome = true ∧
    (idle9.onDev (onFlash fun f => { f with blocks := 8 })).dev.flRefusal 3 (9 * 8192) = some 0x400B := by decide +kernel
theorem witness_ProgramAndEraseEnd :
    (let c := { rdCmd with op := 2, data := List.replicate 16384 0 }
     c.op = 2 ∧ c.begun = true ∧ (up chip).dev.pstate < 3 ∧ (up chip).dev.pageErased c.addr = true ∧ c.data.length = 16384) ∧
    ({ rdCmd with op := 3 } : FlCmd).op = 3 :=
  ⟨⟨rfl, rfl, by decide, by decide +kernel, List.length_replicate ..⟩, rfl⟩
/-- The two parts of a store of the table, and a command that can fail. -/
def withCmd (c : FlCmd) : State := up fun d => onFlash (fun f => { f with cmd := some c }) (chip d)
theorem witness_TableStoreGoesOn :
    ({ rdCmd with op := 5 } : FlCmd).stage = 0 ∧ ({ rdCmd with op := 5, stage := 1 } : FlCmd).stage ≠ 0 ∧
    (withCmd { rdCmd with op := 5 }).live = true ∧ (withCmd { rdCmd with op := 5 }).dev.pstate < 3 ∧
    (withCmd { rdCmd with op := 5 }).dev.flash.cmd = some { rdCmd with op := 5 } := by decide
theorem witness_FailedBlockIsMarked :
    (withCmd { rdCmd with op := 3 }).dev.flash.cmd = some { rdCmd with op := 3 } ∧
    (withCmd { rdCmd with op := 2 }).dev.flash.cmd = some { rdCmd with op := 2 } ∧ (withCmd { rdCmd with op := 2 }).dev.pstate < 3 := by decide
theorem witness_OldCommandIsAged :
    (let s := idle9.onDev (onFlash fun f => { f with cmd := some rdCmd })
     s.dev.flash.cmd = some rdCmd ∧ rdCmd.since + 1000000 ≤ s.dev.nowNs) := by decide
/-- FL_CMD_ADDR 0xEC02_80C5 is channel 14, CE 3, block 20, page 197 (chapter 11). -/
theorem test_page_address :
    pgCh 0xEC0280C5 = 14 ∧ pgCe 0xEC0280C5 = 3 ∧ pgBlock 0xEC0280C5 = 20 ∧ pgPage 0xEC0280C5 = 197 ∧ pageAt 14 3 20 197 = 0xEC0280C5 := by decide

/-! ## Links -/

/-- Change port 0, enabled. -/
def onPort0 (f : LPort → LPort) : State :=
  up fun d => let d := d.setReg (Reg.HT_PORT_CFG 0) 1; { d with lk := { d.lk with ports := setAt d.lk.ports 0 (f LPort.reset) } }
/-- A flit of a type that the port expects, as the bytes that read so, and those after its header. -/
def lflit (ty : Nat) (pay : List Byte) : LFlit :=
  { ty := ty, vc := 0, start := 0, lseq := 0, ack := 4095, cvc := 0, cred := 0, pay := pay ++ List.replicate (116 - pay.length) 0, due := 0 }
def hdOf (f : LFlit) : BitVec 64 := BitVec.ofNat 64 (leNat (f.bytes.take 8))
def rest (f : LFlit) : List Byte := f.bytes.drop 8
/-- A port that is up to chip 3. -/
def linked : State := onPort0 fun x => { x with up := true, peer := 3, credits := [64, 64, 64, 64, 64, 64], goodNs := 19999900 }

theorem witness_TrainedPortIsUp : (onPort0 id).live = true ∧ (onPort0 id).dev.training 0 = true := by decide
/-- The third failure of one step, and a first failure of another step after two of the first. -/
theorem witness_ThirdFailureStopsTraining :
    (let s := onPort0 fun x => { x with fails := [0, 2, 0, 0, 0] }
     s.dev.training 0 = true ∧ 3 ≤ (s.dev.port 0).fails.getD 1 0 + 1 ∧ (s.dev.port 0).fails.getD 4 0 + 1 < 3) := by decide
theorem witness_TrainingIsRetried :
    (let s := (onPort0 fun x => { x with fails := [0, 3, 0, 0, 0] }).onDev fun d => { d with nowNs := 100000000 }
     s.dev.linkOk = true ∧ bit (s.dev.reg (Reg.HT_PORT_CFG 0)) 0 = true ∧ (s.dev.port 0).up = false ∧ (s.dev.port 0).trainWait = true ∧
     (s.dev.port 0).trainNs + 100000000 ≤ s.dev.nowNs) := by decide
theorem witness_SilentPortGoesDown :
    (let s := linked.onDev fun d => { d with nowNs := 20000100 }
     (s.dev.port 0).up = true ∧ (s.dev.port 0).goodNs + 200 ≤ s.dev.nowNs) := by decide
theorem witness_IdleFlitIsHeard :
    linked.live = true ∧ linked.dev.hears 0 0 (headed (hdOf (lflit 0 [])) (rest (lflit 0 []))) (lflit 0 []) = true := by decide +kernel
theorem witness_DataFlitIsTaken : linked.dev.hears 0 1 (lflit 1 []).bytes (lflit 1 []) = true ∧ (lflit 1 []).vc < 6 := by decide +kernel
theorem witness_TickFlitSchedulesTheEdge :
    (let s := linked.onDev (·.setReg Reg.HT_TICK 2)
     let f := lflit 2 [0, 0, 0, 0, 0xFF]
     let d1 := s.dev.heard 0 f
     s.dev.hears 0 2 (headed (hdOf f) (rest f)) f = true ∧ bit (d1.reg Reg.HT_TICK) 0 = false ∧ bit (d1.reg Reg.HT_TICK) 1 = true ∧
     fld (d1.reg Reg.HT_TICK) 2 2 = 0 ∧ (d1.tick.unsync && decide (d1.nowNs < d1.tick.edgeNs + d1.tick.periodUse * 500)) = false ∧
     (d1.port 0).lat < leNat ((f.pay.drop 4).take 3)) := by decide +kernel
theorem witness_NoticeSpreads :
    linked.dev.hears 0 3 (headed (hdOf (lflit 3 [5])) (rest (lflit 3 [5]))) (lflit 3 [5]) = true := by decide +kernel
/-- A port that has one unacknowledged flit. -/
def unacked : State := onPort0 fun x => { x with up := true, replay := [lflit 1 []], txSeq := 1, ackNs := 19998000, tries := 14 }
theorem witness_NakCausesReplay :
    unacked.dev.hears 0 4 (lflit 4 []).bytes (lflit 4 []) = true ∧ ((unacked.dev.heard 0 (lflit 4 [])).port 0).replay ≠ [] := by decide +kernel
/-- A bad CRC, and a good flit out of its sequence. -/
theorem witness_BadFlitDrawsANak :
    (linked.dev.port 0).up = true ∧ (linked.dev.port 0).nakOut = false ∧ flitOf (List.replicate 127 0 ++ [1]) = none ∧
    flitOf ({ lflit 1 [] with lseq := 9 } : LFlit).bytes = some { lflit 1 [] with lseq := 9 } ∧ 9 ≠ (linked.dev.port 0).rxSeq ∧
    0 < linked.dev.lk.ports.length := by decide +kernel
theorem witness_TimeoutReplays :
    (unacked.dev.port 0).up = true ∧ (unacked.dev.port 0).replay ≠ [] ∧ (unacked.dev.port 0).tries < 15 ∧
    (unacked.dev.port 0).ackNs + 2000 ≤ unacked.dev.nowNs := by decide
theorem witness_LinkBufferErrorsAct :
    unacked.live = true ∧ unacked.dev.hears 0 1 (lflit 1 []).bytes (lflit 1 []) = true ∧
    unacked.dev.hears 0 4 (lflit 4 []).bytes (lflit 4 []) = true ∧ ((unacked.dev.heard 0 (lflit 4 [])).port 0).replay ≠ [] ∧
    (unacked.dev.port 0).ackNs + 2000 ≤ unacked.dev.nowNs := by decide +kernel

/-- A packet from chip 3 of class 0; lines carry a WACK. -/
def pkt (kind : Nat) : Pkt :=
  { dchip := 0, schip := 3, kind := kind, cls := 0, mc := 0, epoch := if kind = 0 then 1 else 0, nlines := 0, seq := 0,
    body := if kind = 0 then leBytes 12 (tyWACK * 2 ^ 74) ++ List.replicate 16 0 else if kind = 2 then leBytes 12 0 else [] }
/-- A channel end open in epoch 1, at a key. -/
def chanWith (key : Nat) (f : Chan → Chan) : State := up (·.setChan key (f { Chan.closed with opened := true, epoch := 1 }))
/-- The packet waiting at the endpoint, from port 1. -/
def waiting (kind : Nat) (s : State) : State :=
  s.onDev fun d => { d with lk := { d.lk with inbox := [{ pkt := pkt kind, port := 1, vc := 0, free := 1 }] } }
/-- Both clauses of the taking of each kind of packet. -/
theorem witness_Taken :
    (∀ kind < 4, (up id).dev.direct (pkt kind) = true ∧
      (waiting kind (up id)).dev.waitsIn (pkt kind) { pkt := pkt kind, port := 1, vc := 0, free := 1 } = true) := by decide +kernel
theorem witness_NextLinesAreDelivered :
    (let s := chanWith (chanKey 0 1 0 3) id
     let c := s.dev.chan (chanKey 0 1 0 3)
     (pkt 0).kind = 0 ∧ s.dev.direct (pkt 0) = true ∧ (pkt 0).epoch = c.epoch ∧ c.opened = true ∧ c.fenced = false ∧
     (pkt 0).seq = c.seq ∧ s.dev.rtxNeed (pkt 0) ≠ some none) := by decide +kernel
theorem witness_OtherLinesAreDropped :
    (pkt 0).epoch ≠ ((up id).dev.chan (chanKey 0 1 0 3)).epoch ∧
    ((chanWith (chanKey 0 1 0 3) fun c => { c with fenced := true }).dev.chan (chanKey 0 1 0 3)).fenced = true ∧
    (pkt 0).seq ≠ ((chanWith (chanKey 0 1 0 3) fun c => { c with seq := 9 }).dev.chan (chanKey 0 1 0 3)).seq := by decide
theorem witness_EackRetires :
    (let s := chanWith (srcKey 0 0 3) fun c => { c with unack := [{ seq := 0, tag := 0, ns := 0, owed := [3] }] }
     s.dev.direct (pkt 1) = true ∧ ∃ u ∈ (s.dev.chan (srcKey 0 0 3)).unack, u.seq = (pkt 1).seq) := by decide
theorem witness_EackIsSent :
    (let s := chanWith (chanKey 0 1 0 3) fun c => { c with since := 1, oldest := 0 }
     let c := s.dev.chan (chanKey 0 1 0 3)
     c.opened = true ∧ c.fenced = false ∧ 0 < c.since ∧ c.oldest + 1000 ≤ s.dev.nowNs) := by decide
theorem witness_UndeliveredFences :
    (let s := chanWith (srcKey 0 0 3) fun c => { c with unack := [{ seq := 0, tag := 0, ns := 0, owed := [3] }] }
     s.dev.direct (pkt 2) = true ∧ s.dev.returned (pkt 2) = some (0, 0, 3)) := by decide +kernel
theorem witness_FinishIsNoted :
    (let s := up (·.setReg Reg.HT_TICK 1)
     bit (s.dev.reg Reg.HT_TICK) 0 = true ∧ s.dev.direct (pkt 3) = true ∧ (pkt 3).seq = s.dev.tick.count % 65536) := by decide
theorem witness_OldPacketFences :
    (let u : LUnack := { seq := 0, tag := 0, ns := 0, owed := [3] }
     let s := chanWith (srcKey 0 0 3) fun c => { c with unack := [u] }
     (s.dev.chan (srcKey 0 0 3)).unack.head? = some u ∧ (s.dev.chan (srcKey 0 0 3)).opened = true ∧
     (s.dev.chan (srcKey 0 0 3)).fenced = false ∧ u.ns + max (s.dev.regN Reg.HT_E2E_TO) 5 * 1000 < s.dev.nowNs) := by decide
theorem witness_LostMasterFreesTheTick :
    (let s := onSrc 3 34000000 id
     fld s.dev.tick.ctrlUse 0 2 = 3 ∧ bit (s.dev.reg Reg.HT_TICK) 0 = false ∧ s.dev.relay = false ∧ s.dev.tick.unsync = false ∧
     s.dev.pstate = 0 ∧ 0 < s.dev.tick.periodUse ∧ s.dev.tick.edgeNs + s.dev.tick.periodUse * 1500 ≤ s.dev.nowNs) := by decide
/-- An end of a unicast channel, and a source of a multicast one. -/
theorem witness_OpenOpensOneEnd :
    (fld (0x11003 : Word) 16 2 = 1 ∧ fld (0x11003 : Word) 6 2 = 0 ∧ fld (0x11003 : Word) 4 2 ≠ 3) ∧
    (fld (0x11083 : Word) 16 2 = 1 ∧ fld (0x11083 : Word) 6 2 = 2 ∧ fld (0x11083 : Word) 8 1 = 0) := by decide
theorem witness_CloseClosesOneEnd : fld (0x21003 : Word) 16 2 = 2 ∧ fld (0x21003 : Word) 6 2 = 0 ∧ fld (0x21003 : Word) 4 2 ≠ 3 := by decide
theorem witness_LinkRegistersAreWritten : (up id).live = true ∧ (up id).dev.anyUp = false ∧ linked.dev.anyUp = true := by decide
theorem witness_LinkResetSilences : linked.live = true := by decide
theorem witness_PacketsParseBack :
    (pkt 1).kind < 4 ∧ (pkt 1).cls < 3 ∧ (pkt 1).body.length = pktBodyLen 1 0 (fldN (leNat ((pkt 1).body.take 12)) 74 4) ∧
    (pkt 0).body.length = pktBodyLen 0 0 (fldN (leNat ((pkt 0).body.take 12)) 74 4) := by decide +kernel
theorem witness_ReplayBufferHolds256 : (linked.dev.port 0).replay.length ≤ 256 ∧ (linked.dev.port 0).ctl = [] := by decide
/-- A flit's image is 128 bytes, and reads as the flit (R307). -/
theorem test_flit_bytes : (lflit 1 [1, 2, 3]).bytes.length = 128 ∧ flitOf (lflit 1 [1, 2, 3]).bytes = some (lflit 1 [1, 2, 3]) := by decide +kernel
/-- CRC-32C of the nine digits (R520). -/
theorem test_crc32c : crc32c [0x31, 0x32, 0x33, 0x34, 0x35, 0x36, 0x37, 0x38, 0x39] = 0xE3069283 := by decide +kernel
/-- CRC-16 of the nine digits (R456). -/
theorem test_crc16 : crc16 [0x31, 0x32, 0x33, 0x34, 0x35, 0x36, 0x37, 0x38, 0x39] = 0x29B1 := by decide +kernel

/-! ## Power and temperature -/

/-- Change the power unit, and a part in a given state. -/
def onPwr (f : PwrSt → PwrSt) (d : Dev) : Dev := { d with pwr := f d.pwr }
def asleepIn (p : Nat) (f : Dev → Dev) : State := up fun d => f (d.setReg Reg.PW_STAT (w32 p))
/-- Change the thermal unit. -/
def warm (f : ThSt → ThSt) : State := let s := up id; { s with th := f s.th }

theorem witness_MappingCommitIsPending :
    (up id).live = true ∧ fld (8 : Word) 0 8 ≠ 0 := by decide
theorem witness_PowerRequestsAreTaken :
    (up id).live = true ∧ (up id).dev.reqHeld = false ∧ (up id).dev.pstate < 1 ∧ (asleepIn 3 id).dev.reqHeld = false ∧
    (asleepIn 3 id).dev.pstate < 4 := by decide
/-- A request for the present state, and for the deepest, while a test runs (R500). -/
theorem witness_PowerRequestsAreHeld :
    (let s := (asleepIn 1 id).onDev fun d => { d with test := { busy := true, ran := 1, priv := none, port := none } }
     s.live = true ∧ s.dev.reqHeld = true ∧ s.dev.pstate ≤ 1 ∧ s.dev.pstate ≤ 5) := by decide
theorem witness_ShallowerRequestsAreRefused : (asleepIn 2 id).live = true ∧ 1 < (asleepIn 2 id).dev.pstate := by decide
theorem witness_HostWakeWakes :
    ((asleepIn 3 id).live = true ∧ (asleepIn 3 id).dev.reqHeld = false ∧ 1 ≤ (asleepIn 3 id).dev.pstate ∧ (asleepIn 3 id).dev.pstate ≤ 3) ∧
    (asleepIn 0x100 id).dev.entering = true := by decide
/-- S0 with the tick disabled and a request waiting. -/
def asked (r : Nat) : State := up fun d => onPwr (fun p => { p with req := some r }) (onTick (fun t => { t with ctrlUse := 0, periodUse := 0 }) d)
theorem witness_PoiseIsEntered :
    (asked 1).live = true ∧ (asked 1).dev.pwr.heldReq = none ∧ (asked 1).dev.pwr.req = some 1 ∧ (asked 1).dev.entering = false ∧
    (asked 1).dev.exiting = false ∧ (asked 1).dev.mayEnter = true ∧ (asked 1).dev.pstate = 0 := by decide
theorem witness_RestIsEntered :
    (let s := asked 2
     s.live = true ∧ s.dev.pwr.heldReq = none ∧ s.dev.pwr.req = some 2 ∧ s.dev.entering = false ∧ s.dev.exiting = false ∧
     s.dev.mayEnter = true ∧ s.dev.pstate = 0 ∧ s.dev.quiet = true) := by decide
theorem witness_WakeSourcesWake :
    (let s := asleepIn 5 fun d => d.setReg Reg.PW_WAKE_EN 0x78
     s.live = true ∧ s.dev.asleep 5 = true ∧ bit (s.dev.reg Reg.PW_WAKE_EN) 3 = true ∧ bit (s.dev.reg Reg.PW_WAKE_EN) 4 = true ∧
     bit (s.dev.reg Reg.PW_WAKE_EN) 5 = true ∧ bit (s.dev.reg Reg.PW_WAKE_EN) 6 = true ∧ 1 ≤ s.dev.pstate ∧
     s.dev.regN Reg.PW_WAKE_TIMER * 1000000000 ≤ (s.dev.nowNs - s.dev.pwr.enterNs) * 32768) := by decide
theorem witness_ShallowStatesAreLeft :
    (let s := asleepIn 0x202 id
     s.live = true ∧ s.dev.exiting = true ∧ 1 ≤ s.dev.pstate ∧ s.dev.pstate ≤ 2 ∧ s.dev.pwr.heldReq = none ∧ s.dev.pwr.resetAfter = none) := by
  decide
theorem witness_DozeIsLeft :
    (let s := asleepIn 0x203 id
     s.live = true ∧ s.dev.exiting = true ∧ s.dev.pstate = 3 ∧ s.dev.pwr.heldReq = none ∧ s.dev.pwr.resetAfter = none ∧ s.dev.pwr.keep = [] ∧
     s.dev.host.bar2Wait = []) := by decide
theorem witness_MemoryIsRestoredAfterDeep :
    (let s := asleepIn 0 fun d => onDram (fun m => { m with ready := true }) (onPwr (fun p => { p with exitFrom := 4 }) d)
     s.live = true ∧ s.dev.pwr.exitFrom = 4 ∧ s.dev.pstate = 0 ∧ bit (s.dev.reg Reg.PW_STAT) 10 = false ∧ s.dev.dram.ready = true ∧
     s.dev.pwr.spilled = [] ∧ s.dev.pwr.keep = [] ∧ s.dev.pwr.resetAfter = none) := by decide
theorem witness_OperatingPointsWait : (up id).live = true ∧ bit (1 : Word) 0 = true := by decide
/-- A PLL that locks while FCLK uses the other, and one that FCLK waits for on the bypass. -/
theorem witness_IdlePllLocks :
    (let s := up (onPwr fun p => { p with pllLocked := false })
     s.live = true ∧ s.dev.pwr.pllLocked = false ∧ s.dev.pstate ≤ 2 ∧ s.dev.pwr.fclk = s.dev.pwr.pll) ∧
    (let s := up (onPwr fun p => { p with pllLocked := false, fclk := 200, pll := 1000 })
     s.dev.pstate ≠ 2 ∧ s.dev.pwr.fclk ≠ s.dev.pwr.pll ∧ s.dev.pwr.pll = (s.dev.opEntry s.dev.opNow).1 * 25) := by decide
/-- A raise to 750 mV that began at 18 ms. -/
def raising : State := up (onPwr fun p => { p with avsWait := some (750, 18000000) })
theorem witness_RailIsReadBack :
    raising.live = true ∧ raising.dev.pwr.avsWait = some (750, 18000000) ∧
    18000000 + fld (raising.dev.reg Reg.AVS_CFG) 0 8 * 1000 ≤ raising.dev.nowNs ∧ 750 ≤ (740 : BitVec 16).toNat + 10 := by decide
theorem witness_FailedRaiseRunsAtTheLowestPoint :
    raising.live = true ∧ raising.dev.pwr.avsWait = some (750, 18000000) ∧ 18000000 + 1000000 ≤ raising.dev.nowNs := by decide
/-- A PW_REQ of 4 in S1 is deeper, and waits for the entry (R350). -/
theorem test_request : ((after .requestS4Deep (asleepIn 1 id)).dev.pwr.req) = some 4 := by decide
/-- OP0 after reset is 48 steps of 25 MHz, 1,200 MHz, the top of the range (chapter 15). -/
theorem test_op0 : ((up id).dev.opEntry 0).1 * 25 = 1200 := by decide

theorem witness_SamplingTakesEverySensor :
    (up id).live = true ∧ (up id).dev.pstate ≤ 3 ∧ (up id).th.sampled < ((up id).dev.nowNs - (up id).dev.porstNs) / 100000 ∧
    (up id).th.hist.length = 16 := by decide
theorem witness_IdleInstantJudges :
    (up id).live = true ∧ (up id).dev.pstate ≤ 3 ∧ (up id).th.lastNs + 10000000 ≤ (up id).dev.nowNs ∧ (up id).th.pend = false := by decide
theorem witness_ThermalCommitWaits : (up id).live = true ∧ bit (1 : Word) 0 = true := by decide
theorem witness_TripSetsTheLatch :
    (up id).th.tripped = false ∧ (up id).dev.pstate ≤ 3 ∧ fld ((up id).dev.reg (Reg.CAL_SENS_B 15)) 16 16 ≤ (0xFFFE : BitVec 16).toNat := by decide
theorem witness_OneComparisonDoesNotTrip : (0 : BitVec 16).toNat < fld ((up id).dev.reg (Reg.CAL_SENS_B 0)) 16 16 := by decide
theorem witness_TachWindowShowsTheSpeed :
    (let s := (up id).onDev fun d => { d with nowNs := 1020000000 }
     s.live = true ∧ s.th.winNs + 1000000000 ≤ s.dev.nowNs ∧
     s.dev.regN Reg.FAN_MIN_RPM ≤ min (100 * 60 / (fld (s.dev.reg Reg.FAN_CFG) 11 2 + 1)) 65535) := by decide
theorem witness_DutyFallsByOne :
    (let s := (warm fun t => { t with duty := 100, target := 30 }).onDev fun d => { d with nowNs := 2000000000 }
     s.live = true ∧ s.th.target < s.th.duty ∧ s.th.fallNs + fld (s.dev.reg Reg.FAN_CFG) 16 16 * 1000000 ≤ s.dev.nowNs) := by decide
/-- A thermal unit at level `l`, with its dwell count and temperature. -/
def atLevel (l dw : Nat) (t : Int) : ThSt := { ThSt.reset with judged := l, dwell := dw, theta := t }
/-- Each clause: up to T4 at its entry whatever D is, held below the dwell, up by one at the dwell, down by one at the exit, and neither. -/
theorem witness_LevelsMoveAsJudged :
    ((atLevel 0 0 (thEntry (ThSt.reset.entry 4))).judge 0).judged = 4 ∧
    ((atLevel 1 0 (thExit (ThSt.reset.entry 1))).judge 0).judged = 1 ∧
    ((atLevel 0 (thDwell (ThSt.reset.entry 0) - 1) (thEntry (ThSt.reset.entry 1))).judge 0).judged = 1 ∧
    ((atLevel 1 (thDwell (ThSt.reset.entry 1) - 1) (thExit (ThSt.reset.entry 1))).judge 0).judged = 0 ∧
    ((atLevel 1 65535 (thExit (ThSt.reset.entry 1) + 1)).judge 0).judged = 1 := by decide
/-- One sample of 128 °C among samples of 88 °C is rejected by the median (chapter 16). -/
theorem witness_FilteredValueIsTheMedian : medianOf [some 352, some 512, none, some 352, some 352] = some 352 := by decide
/-- All sensors invalid: θ is 125 °C (R375). -/
theorem test_no_sensor : (thetaOf 0xFFFF (List.replicate 16 [])).1 = 500 := by decide

/-! ## Security and the host port -/

/-- Change the security unit, and the host port. -/
def onSec (f : SecSt → SecSt) : State := up fun d => { d with sec := f d.sec }
def onHost (f : HostSt → HostSt) : State := up fun d => { d with host := f d.host }
/-- A Clearing of tenant 7 in a state. -/
def clearing (c : ClearSt) : State := onSec fun s => { s with clear := setAt s.clear 7 c, clearFl := setAt s.clearFl 7 4 }

theorem witness_StandRequestWaits :
    (up id).live = true ∧ bit (1 : Word) 0 = true ∧ (up id).dev.sec.standPend = false ∧
    (onSec fun s => { s with standPend := true }).dev.sec.standPend = true := by decide
theorem witness_ClearingIsRequested :
    (up id).live = true ∧ bit (0x80000007 : Word) 31 = true ∧ (up id).dev.sec.clear.length = 8 ∧
    (up id).dev.sec.clear.getD (fld (0x80000007 : Word) 0 3) .idle = .idle ∧
    (clearing .busy).dev.sec.clear.getD (fld (0x80000007 : Word) 0 3) .idle ≠ .idle := by decide
theorem witness_ClearingIsAccepted :
    (let s := clearing .waiting
     s.live = true ∧ s.dev.sec.clear.length = 8 ∧ s.dev.sec.clear.getD 7 .idle = .waiting ∧ s.dev.tenantIdle 7 = true ∧ s.dev.entering = false ∧
     s.dev.exiting = false ∧ s.dev.pstate ≤ 2 ∧ (s.dev.sec.clearFl.getD 7 0).testBit 0 = false) := by decide
theorem witness_ClearingIsReleased :
    (let s := clearing .busy
     s.live = true ∧ s.dev.sec.clear.length = 8 ∧ s.dev.sec.clear.getD 7 .idle = .busy) := by decide
theorem witness_KeyIsGenerated :
    (up id).live = true ∧ (up id).dev.keyHeld 15 = false ∧ (up id).dev.sec.keys.length = 16 := by decide
theorem witness_EntropyMayFail : (up id).live = true ∧ (up id).dev.keyHeld 15 = false := by decide
theorem witness_KeyIsUnwrapped :
    (up id).live = true ∧ (up id).dev.keyHeld 0 = false ∧ (up id).dev.sec.keys.length = 16 := by decide
/-- Session 3 of tenant 2 is enabled: slots 2 and 10 are held. -/
theorem witness_HeldKeyIsKept :
    (let s := up fun d => d.setReg (Reg.ATTR 3) 0xA000
     s.live = true ∧ s.dev.keyHeld 2 = true ∧ s.dev.keyHeld 10 = true ∧ s.dev.keyHeld 3 = false) := by decide
theorem witness_KeyIsExported : (up id).live = true := by decide
theorem witness_FusesAreBlown :
    (up id).live = true ∧ (up id).dev.sec.rootHash = 0 ∧ (up id).dev.sec.lockUse = false ∧
    (onSec fun s => { s with rootHash := 1 }).dev.sec.rootHash ≠ 0 ∧
    (let s := (onSec fun s => { s with rollback := 63 }).onDev (·.setReg Reg.SEC_BOOT_STAT 128)
     s.dev.sec.rollback + 1 ≤ fld (s.dev.reg Reg.SEC_BOOT_STAT) 1 7 ∧ s.dev.sec.rollback < 64) := by decide +kernel
theorem witness_FusesAreRefused :
    (onSec fun s => { s with rootHash := 1 }).live = true ∧ (onSec fun s => { s with rootHash := 1 }).dev.sec.rootHash ≠ 0 ∧
    (up id).dev.sec.rootHash = 0 ∧ fld ((up id).dev.reg Reg.SEC_BOOT_STAT) 1 7 < (up id).dev.sec.rollback + 1 := by decide +kernel
theorem witness_SecurityCommandsNeverUnblowAFuse : exec .debugDis (up id) = .next (after .debugDis (up id)) := rfl

/-- The command ring of session 0, of 16 slots, with its consumer one before the wrap of the index. -/
def ringed (f : Ring → Ring) : State :=
  up fun d => d.setRing 0 (f { Ring.zero with cfg := 4, useCfg := 4, p := 0xFFFFFFFF, c := 0xFFFFFFFF })
/-- Fifteen slots past a consumer at 0xFFFFFFFF the index has wrapped, and the ring is not yet full. -/
theorem witness_DoorbellIsTaken :
    (let s := ringed id
     let x := s.dev.ring 0
     s.live = true ∧ s.dev.pstate = 0 ∧ s.dev.entering = false ∧ s.dev.booting = false ∧ s.dev.fnSees 0 0 = true ∧ s.dev.fnSees 1 0 = true ∧
     s.dev.fnSees 2 0 = false ∧ ringSize x = 16 ∧ x.bad = false ∧ x.ue = false ∧ s.dev.standing 0 = false ∧ ((15 : Word) - x.c).toNat = 16 ∧
     ((15 : Word) - x.p).toNat ≤ ringSize x) ∧
    (let s := up fun d => d.setRing 3 { Ring.zero with cfg := 4, useCfg := 4, p := 1, c := 0xFFFFFFFF }
     let x := s.dev.ring 3
     ringSize x = 16 ∧ x.bad = false ∧ x.ue = false ∧ 3 % 4 = 3 ∧ ((1 : Word) - x.c).toNat ≤ (x.p - x.c).toNat) := by decide
theorem witness_BadDoorbellIsDropped :
    (let s := ringed id
     let x := s.dev.ring 0
     ringSize x ≠ 0 ∧ x.bad = false ∧ x.ue = false ∧ ringSize x < ((16 : Word) - x.c).toNat) := by decide
theorem witness_DoorbellBecomesVisible : (ringed id).live = true := by decide
theorem witness_RingIsConfigured :
    (let s := ringed id
     s.live = true ∧ s.dev.pstate < 4 ∧ s.dev.booting = false ∧ s.dev.fnSees 0 0 = true ∧ s.dev.sessBusy 0 = false ∧
     (fld (16 : Word) 0 5 = 0 ∨ (4 ≤ fld (16 : Word) 0 5 ∧ fld (16 : Word) 0 5 ≤ 16)) ∧
     (s.onDev fun d => d.attrWrite 0 0x8000).dev.sessBusy 0 = true) := by decide
/-- A function may read 64 bytes at 4,096. -/
def readable : State := up fun d => onDram (fun m => { m with ready := true, cchMib := 1920 }) d
theorem witness_HostReadsDram :
    readable.live = true ∧ readable.dev.pstate < 3 ∧ 4096 + 64 ≤ 2 ^ (readable.dev.host.bar2Log.getD 0 0) ∧
    readable.dev.bar2Bad 0 4096 64 = false ∧ (readable.dev.readDram 4096 64 0 none calm).1 = none := by decide +kernel
theorem witness_ForeignHostReadIsRefused :
    (let s := readable
     s.live = true ∧ s.dev.pstate < 3 ∧ 4096 + 64 ≤ 2 ^ (s.dev.host.bar2Log.getD 2 0) ∧ s.dev.bar2Bad 2 4096 64 = true) := by decide +kernel
theorem witness_HostWritesDram :
    readable.dev.bar2Bad 0 4096 64 = false ∧ (List.replicate 64 (7 : Byte)).length = 64 ∧ 4096 % 64 = 0 := by decide +kernel
theorem witness_HostAccessWaitsInDoze :
    (asleepIn 3 id).live = true ∧ (asleepIn 3 id).dev.pstate = 3 ∧ 4096 + 64 ≤ 2 ^ ((asleepIn 3 id).dev.host.bar2Log.getD 0 0) := by decide +kernel
/-- A completion that waits for the host port. -/
def job0 : CplJob :=
  { bound := { sid := 0, step := 0, cmdIdx := 0, inIdx := 0, prov := 0, resv := true }, tenant := 0, status := 0, outside := false, tick := 1, frag := 1, sid0 := 0 }
theorem witness_CompletionIsWritten :
    (let s := onHost fun h => { h with jobs := [job0], bme := 0x1FF }
     s.live = true ∧ s.dev.host.jobs = job0 :: [] ∧ s.dev.host.queued job0.tenant = 0 ∧
     s.dev.host.bme.getLsbD (ringFn (s.dev.ring (ringId job0.bound.sid 3)) job0.tenant) = true) := by decide
theorem witness_CoalescedMessageIsSent :
    (let s := up fun d => d.setRing 3 { Ring.zero with useCfg := 0x204, since := 1, firstNs := 19000000 }
     let x := s.dev.ring 3
     s.live = true ∧ bit x.useCfg 9 = true ∧ 0 < x.since ∧
     x.firstNs + s.dev.regN (Reg.RC_COAL_US (s.dev.sidTenant 0)) * 1000 ≤ s.dev.nowNs) := by decide
theorem witness_MsixWordIsStored :
    (up id).live = true ∧ (up id).dev.pstate < 4 ∧ (up id).dev.booting = false ∧ ((8 : Fin 9).val = 0 ∨ (1021 : Fin 8192).val < 1024) ∧
    (1021 : Fin 8192).val % 4 = 1 ∧ (∀ e ∈ (up id).dev.host.pba, e.1 / 2048 ≠ (8 : Fin 9).val) := by decide
theorem witness_PendingMessageIsSent :
    (let s := onHost fun h => { h with pba := [(8 * 2048 + 255, true)], msixEn := 0x100, bme := 0x100 }
     s.live = true ∧ s.dev.pstate < 4 ∧ s.dev.booting = false ∧ (255 : Fin 2048).val < 256 ∧ s.dev.host.pba = [((8 : Fin 9).val * 2048 + 255, true)] ∧
     s.dev.host.msixEn.getLsbD 8 = true ∧ s.dev.host.fmask.getLsbD 8 = false ∧ s.dev.host.bme.getLsbD 8 = true ∧
     s.dev.host.upWait = []) := by decide
theorem witness_FunctionResetClearsTheTenant :
    (up id).live = true ∧ (up id).dev.pstate < 4 ∧ (up id).dev.sec.clear.length = 8 := by decide
theorem witness_PhysicalFunctionResetIsWarm :
    (up id).live = true ∧ (up id).dev.booting = false ∧ (up id).dev.asleep 5 = false ∧ (up id).dev.exiting = false ∧
    (up id).dev.pwr.spilled = [] := by decide
theorem witness_TurnOffIsNoted : (up id).live = true := by decide
theorem witness_DoorbellsTouchOneRing :
    exec (.doorbellWrite 0 0 15 .clean) (ringed id) = .next (after (.doorbellWrite 0 0 15 .clean) (ringed id)) := rfl
/-- A root hash is not blown a second time (R412). -/
theorem test_root_is_blown_once :
    (after .progRoot (onSec fun s => { s with rootHash := 1 })).dev.sec.rootHash = 1 := by decide +kernel

/-! ## The service ports -/

/-- Change port 0. -/
def onP0 (f : SpPort → SpPort) : State := let s := up id; { s with sp := s.sp.setPort 0 (f s.sp.p0) }
/-- A received byte, and the samples of a character that a transmitter drives with the settings of reset. -/
def rxB (b : Nat) : RxEntry := { data := BitVec.ofNat 9 b, pe := false, fe := false, brk := false }
def wire (v : Nat) : List RxSample :=
  (charBits 8 v ++ [true]).flatMap (fun b => List.replicate 16 { level := b, low2 := !b, high2 := b : RxSample })
/-- Port 0 without its engine. -/
def plain (p : SpPort) : SpPort := { p with ctrl := 4, rxCtrl := 4 }
/-- A frame in execution. -/
def fr (cmd : Nat) (pay : List Byte) : SvcFrame := { cmd := cmd, seq := 0x11, payload := pay, begun := false }
def asks (cmd : Nat) (pay : List Byte) : State := onP0 fun p => { p with exec := some (fr cmd pay) }

theorem witness_BaudIsWritten : (up id).live = true := by decide
theorem witness_DataReadPopsTheOldest :
    (let s := onP0 fun p => { plain p with rx := [rxB 0x41, rxB 0x42] }
     s.live = true ∧ bit (s.sp.port 0).ctrl 10 = false ∧ (s.sp.port 0).rx = rxB 0x41 :: [rxB 0x42]) := by decide
theorem witness_EmptyDataReadsZero : (up id).live = true ∧ ((up id).sp.port 1).rx = [] := by decide
theorem witness_StatReadShowsTheFlags : (up id).live = true := by decide
theorem witness_DataWriteQueues :
    (onP0 fun p => { p with tx := List.replicate 63 0 }).live = true ∧
    ((onP0 fun p => { p with tx := List.replicate 63 0 }).sp.port 0).tx.length < 64 ∧
    64 ≤ ((onP0 fun p => { p with tx := List.replicate 64 0 }).sp.port 0).tx.length := by decide
theorem witness_BreakIsAskedFor :
    fld (13 : Word) 0 16 ≠ 0 ∧ ((up id).sp.port 0).brkPend = 0 ∧ ((onP0 fun p => { p with brkPend := 13 }).sp.port 0).brkPend ≠ 0 := by decide
theorem witness_FlushEmptiesTheFifo : (up id).live = true := by decide
theorem witness_CharacterIsReceived :
    (let s := onP0 plain
     let p := s.sp.port 0
     s.live = true ∧ p.on s.dev = true ∧ p.rxBreak = false ∧ p.exec = none ∧ bit p.ctrl 10 = false ∧ p.rx.length < 64 ∧
     charOf p.baud p.fmt p.ctrl (wire 0x55) = some (rxB 0x55)) := by decide +kernel
theorem witness_FullFifoDiscards :
    (let s := onP0 fun p => { plain p with rx := List.replicate 64 (rxB 0) }
     let p := s.sp.port 0
     p.on s.dev = true ∧ p.rxBreak = false ∧ p.exec = none ∧ bit p.ctrl 10 = false ∧ p.rx.length = 64 ∧
     charOf p.baud p.fmt p.ctrl (wire 0x55) = some (rxB 0x55)) := by decide +kernel
theorem witness_StartBitIsAbandoned :
    (let p := (up id).sp.port 0
     p.on (up id).dev = true ∧ p.rxBreak = false ∧
     bitVal p.baud p.ctrl (List.replicate 16 { level := true, low2 := false, high2 := true }) 0 = true) := by decide
theorem witness_BreakLengthIsRecorded :
    (let s := onP0 fun p => { p with rxBreak := true }
     s.live = true ∧ (s.sp.port 0).on s.dev = true ∧ (s.sp.port 0).rxBreak = true) := by decide
theorem witness_CharacterIsSent :
    (let s := onP0 fun p => { p with tx := [0x55] }
     let p := s.sp.port 0
     s.live = true ∧ p.on s.dev = true ∧ bit p.stat 13 = false ∧ bit p.ctrl 1 = false ∧ bit p.ctrl 3 = false ∧ p.out = [] ∧ p.queue = [] ∧
     p.brkPend = 0 ∧ p.tx = 0x55 :: []) ∧ ((onP0 fun p => { p with brkPend := 13 }).sp.port 0).brkPend ≠ 0 := by decide
theorem witness_TelemetryLineIsQueued :
    (let s := (up id).onDev fun d => { d with nowNs := 1000000000 }
     let p := s.sp.port 0
     s.live = true ∧ bit p.ctrl 9 = true ∧ p.on s.dev = true ∧ p.engine = true ∧ p.telSec < s.dev.aonSec ∧ s.dev.pstate = 0 ∧ p.queue = []) := by
  decide
theorem witness_StaleFrameIsDiscarded :
    (let s := (onP0 fun p => { p with frame := [0x7E], frameNs := 0 }).onDev fun d => { d with nowNs := 20000001 }
     let p := s.sp.port 0
     s.live = true ∧ p.exec = none ∧ p.frame = [0x7E] ∧ p.frameNs + 20000000 < s.dev.nowNs ∧ p.rx = []) := by decide
theorem witness_ServiceReadAnswers :
    (asks 1 [0, 0, 0, 0]).live = true ∧ (asks 1 [0, 0, 0, 0]).svcReady 0 1 (fr 1 [0, 0, 0, 0]) = true ∧
    (asks 1 [0, 0, 0, 0]).dev.addrRefusal (leAt (fr 1 [0, 0, 0, 0]).payload 0 4) = none := by decide
theorem witness_ServiceWriteAnswers :
    (asks 2 [0, 0, 0, 0, 1, 0, 0, 0]).svcReady 0 2 (fr 2 [0, 0, 0, 0, 1, 0, 0, 0]) = true ∧
    (asks 2 [0, 0, 0, 0, 1, 0, 0, 0]).dev.addrRefusal (leAt (fr 2 [0, 0, 0, 0, 1, 0, 0, 0]).payload 0 4) = none := by decide
theorem witness_ServiceAddressIsRefused :
    (asks 1 [2, 0, 0, 0]).svcReady 0 1 (fr 1 [2, 0, 0, 0]) = true ∧ (asks 1 [2, 0, 0, 0]).dev.addrRefusal 2 = some 0xA003 ∧
    (asks 2 [2, 0, 0, 0, 1, 0, 0, 0]).svcReady 0 2 (fr 2 [2, 0, 0, 0, 1, 0, 0, 0]) = true := by decide
theorem witness_ServiceShowsTelemetry : (asks 6 []).live = true ∧ (asks 6 []).svcReady 0 6 (fr 6 []) = true := by decide
theorem witness_ServiceStartsATest :
    (asks 5 [0x80, 0]).svcReady 0 5 (fr 5 [0x80, 0]) = true ∧ leAt (fr 5 [0x80, 0]).payload 0 2 ≠ 0 ∧
    (asks 5 [0x80, 0]).dev.testOk (decide (0x80 % 8 ≠ 0)) = true := by decide
theorem witness_ServiceResets :
    ((asks 7 [1]).sp.port 0).exec = some (fr 7 [1]) ∧ (fr 7 [1]).cmd = 7 ∧ ((asks 7 [1]).sp.port 0).on (asks 7 [1]).dev = true ∧
    (fr 7 [1]).begun = false ∧ ((asks 7 [1]).sp.port 0).quiet = true ∧ leAt (fr 7 [1]).payload 0 1 = 1 ∧ leAt (fr 7 [0]).payload 0 1 ≠ 1 ∧
    ((onP0 fun p => { p with tx := [0] }).sp.port 0).quiet = false := by decide
theorem witness_ServiceProgramsFlash :
    (asks 4 [0, 0x40, 0, 0, 0, 0, 0, 7]).svcReady 0 4 (fr 4 [0, 0x40, 0, 0, 0, 0, 0, 7]) = true ∧
    (asks 4 [0, 0x40, 0, 0, 0, 0, 0, 7]).dev.sec.lockUse = false ∧
    (leAt (fr 4 [0, 0x40, 0, 0, 0, 0, 2, 7]).payload 6 1).testBit 1 = true ∧ (leAt (fr 4 [0, 0x40, 0, 0, 0, 0, 2, 7]).payload 6 1).testBit 2 = false ∧
    (leAt (fr 4 [0, 0x40, 0, 0, 0, 0, 6, 7]).payload 6 1).testBit 1 = true ∧ (leAt (fr 4 [0, 0x40, 0, 0, 0, 0, 6, 7]).payload 6 1).testBit 2 = true ∧
    ((asks 4 []).onDev chip).dev.svcRefusal 2 (9 * 8192) = none ∧ ((asks 4 []).onDev chip).dev.svcRefusal 3 (9 * 8192) = none := by decide +kernel
/-- The request and response of chapter 19: the error total, 325, read with sequence byte 0x11. -/
theorem witness_ServiceFramesScanBack : (5 : Nat) < 256 ∧ ([0xFF, 0x00] : List Byte).length ≤ 1031 := by decide
theorem witness_CharactersReadBack : bit (0x0604 : Word) 5 = false ∧ 255 < 2 ^ dbitsOf 8 := by decide
/-- The first bytes of the BIST_RUN request of chapter 22, and that a flipped bit is not accepted (R457). -/
theorem test_frame :
    (svcFrame 5 0x11 [0xFF, 0x00]).take 7 = [0x7E, 0x04, 0x00, 0x05, 0x11, 0xFF, 0x00] ∧
    (svcFrame 0x85 0x11 [0x00, 0x00, 0xF7, 0x20, 0x05, 0x05]).take 5 = [0x7E, 0x08, 0x00, 0x85, 0x11] := by decide
/-- A line that stays low gives one entry of 0xE000: VALID, BRK and FE (chapter 19). -/
theorem test_break_entry :
    (charOf 54 8 4 (List.replicate 160 { level := false, low2 := true, high2 := false })).map RxEntry.word = some 0xE000 := by decide +kernel
/-- A page of the flash is read by the service protocol. -/
def PageIsServed (data : List Byte) : Prop :=
    (let f := fr 3 [0, 0x20, 1, 0, 0, 0, 0x10, 0, 0]
     let s := (asks 3 [0, 0x20, 1, 0, 0, 0, 0x10, 0, 0]).onDev fun d => (chip d).programPage (9 * 8192) data
     s.live = true ∧ s.svcReady 0 3 f = true ∧ leAt f.payload 0 4 = 9 * 8192 ∧ leAt f.payload 6 2 ≠ 0 ∧
     s.dev.svcRefusal 1 (9 * 8192) = none ∧ (s.dev.readPage (9 * 8192) (bit (w32 (leAt f.payload 8 1)) 0 || inBoot (9 * 8192)) (.decodes 0 0)).1 = some data)
/-- What programming an erased page leaves: the bus of its LUN and the cells have changed, nothing else. -/
theorem programPage_form (d : Dev) (pg : Nat) (data : List Byte) (he : d.pageErased pg = true) :
    ∃ c, d.programPage pg data =
      { d.onfi pg (d.slcPre (false || inBoot pg) ++ [.program, .status]) with
        flash := { (d.onfi pg (d.slcPre (false || inBoot pg) ++ [.program, .status])).flash with cells := c } } := by
  have h : (d.onfi pg (d.slcPre (false || inBoot pg) ++ [.program, .status])).pageErased pg = true := he
  exact ⟨_, if_pos h⟩
theorem pageIsServed_of (data : List Byte) (hl : data.length = 16384) : PageIsServed data := by
  obtain ⟨c, hc⟩ := programPage_form (chip (asks 3 [0, 0x20, 1, 0, 0, 0, 0x10, 0, 0]).dev) (9 * 8192) data (by decide +kernel)
  have hs : ((asks 3 [0, 0x20, 1, 0, 0, 0, 0x10, 0, 0]).onDev fun d => (chip d).programPage (9 * 8192) data).dev =
    (chip (asks 3 [0, 0x20, 1, 0, 0, 0, 0x10, 0, 0]).dev).programPage (9 * 8192) data := rfl
  refine ⟨rfl, ?_, by decide, by decide, ?_, readPage_programPage _ _ _ _ _ (by decide +kernel) hl⟩
  · refine Eq.trans (b := State.svcReady (asks 3 [0, 0x20, 1, 0, 0, 0, 0x10, 0, 0]) 0 3 (fr 3 [0, 0x20, 1, 0, 0, 0, 0x10, 0, 0])) ?_ (by decide +kernel)
    show State.svcReady (State.onDev _ _) _ _ _ = _
    unfold State.onDev; dsimp only
    rw [hc]; rfl
  · refine Eq.trans (b := Dev.svcRefusal (chip (asks 3 [0, 0x20, 1, 0, 0, 0, 0x10, 0, 0]).dev) 1 (9 * 8192)) ?_ (by decide +kernel)
    show Dev.svcRefusal (State.dev _) _ _ = _
    rw [hs, hc]; rfl
theorem witness_ServiceReadsFlash : PageIsServed (List.replicate 16384 5) := pageIsServed_of _ (List.length_replicate ..)
/-! ## Resets and boot -/

/-- A boot that flash and DRAM are ready for, with one entry. -/
def booting (bs : List Byte) : State :=
  at' fun d => { chip { d.setReg Reg.RB_STAT 5 with nowNs := 20000000 } with boot := { d.boot with running := true, entries := [bs], next := 0 } }
/-- An entry of 16 bytes. -/
def entryOf (op a b c : Nat) : List Byte := [BitVec.ofNat 8 op, 0, 0, 0] ++ leBytes 4 a ++ leBytes 4 b ++ leBytes 4 c

theorem witness_BusResetRebootsTheCore :
    (up id).live = true ∧ (up id).dev.outranked 1 = false ∧ (up id).dev.pstate = 0 ∧ (up id).dev.entering = false ∧ (up id).dev.exiting = false ∧
    (up id).dev.pwr.exitFrom ≠ 4 := by decide
theorem witness_KeyedWriteIsAWarmReset :
    fld (0xA5C30101 : Word) 16 16 = 0xA5C3 ∧ bit (0xA5C30101 : Word) 0 = true ∧ (up id).dev.outranked 2 = false := by decide
theorem witness_WriteWithoutTheKeyIsDropped : (up id).live = true ∧ fld (0xA5C20001 : Word) 16 16 ≠ 0xA5C3 := by decide
theorem witness_TileResetResetsItsTile : (up id).dev.booting = false ∧ (booting []).live = true ∧ (booting []).dev.booting = true := by decide
theorem witness_LogPointerStaysInRange :
    ((up id).dev.reg Reg.ERR_LOG_WR - 0xFFFFFC00).toNat ≤ 1024 ∧ 1024 < ((up id).dev.reg Reg.ERR_LOG_WR - 0xFFFFFBFF).toNat := by decide
theorem witness_CommitWaitsForTheEdge : bit (1 : Word) 0 = true ∧ bit (2 : Word) 0 = false := by decide
theorem witness_EndEntryEndsTheBoot :
    (booting (entryOf 0 0 0 0)).live = true ∧ ((booting (entryOf 0 0 0 0)).dev.bootAt 0).isSome = true := by decide
theorem witness_WriteEntryWrites :
    (let s := booting (entryOf 1 0x10 5 0)
     (s.dev.bootAt 1).map (fun e => (e.a, w32 e.b)) = some (0x10, 5) ∧ 0x10 % 4 = 0 ∧ s.dev.reboots 0x10 (w32 5) = false) := by decide
/-- GL_IDENT read by a poll (Table 20-6): the mask selects the model number. -/
theorem witness_PollEntryWaits :
    (let s := booting (entryOf 2 0 0xFFFF0000 0x72600000)
     (s.dev.bootAt 2).map (fun e => (e.a, e.b, e.c)) = some (0, 0xFFFF0000, 0x72600000) ∧ 0 % 4 = 0 ∧
     (s.read32 0 true 0 free).1 &&& w32 0xFFFF0000 = w32 0x72600000 ∧ (s.read32 0 true 0 free).1 &&& w32 0xFFFF0000 ≠ w32 0x72610000 ∧
     s.dev.boot.waitNs.getD s.dev.nowNs + 0 * 1000000 ≤ (s.read32 0 true 0 free).2.dev.nowNs ∧
     (s.read32 0 true 0 free).2.dev.nowNs < s.dev.boot.waitNs.getD s.dev.nowNs + 1 * 1000000) := by decide +kernel
theorem witness_DelayEntryWaits :
    (let s := booting (entryOf 3 1000 0 0)
     (s.dev.bootAt 3).map (·.a) = some 1000 ∧ s.dev.boot.waitNs = none ∧
     (s.onDev fun d => { d with boot := { d.boot with waitNs := some 19000000 } }).dev.boot.waitNs = some 19000000 ∧
     19000000 + 1000 * 1000 ≤ s.dev.nowNs ∧ s.dev.nowNs < 19000001 + 1000 * 1000) := by decide
/-- The bytes of the LOAD entry that chapter 20 prints: 3,072 units from offset 10,500, to address 0x2000000 × 64, on cold boots only. -/
theorem test_load_entry :
    bootEntry [0x04, 0x02, 0x00, 0x00, 0x04, 0x29, 0x00, 0x00, 0x00, 0x0C, 0x00, 0x00, 0x00, 0x00, 0x20, 0x00] =
      { op := 4, flags := 2, tmo := 0, a := 10500, b := 3072, c := 0x200000 } := by decide
/-- A LOAD of one unit that has been stored. -/
def loading (data : List Byte) : State := (booting (entryOf 4 0 1 0)).onDev fun d => d.programPage 65536 data
theorem load_one (d : Dev) (e : BootEntry) (pg : Nat) (bs : List Byte) (hp : d.unitPage 0 0 e.a = some pg)
    (h : (d.readPage pg false (.decodes 0 0)).1 = some bs) : ∃ d', d.loadUnits e [] 1 0 = (true, d') := by
  simp only [Dev.loadUnits, Nat.zero_mod, Nat.zero_div, Nat.add_zero, hp, List.getD_nil]
  generalize d.readPage pg false (.decodes 0 0) = r at h ⊢
  obtain ⟨o, d⟩ := r
  cases h
  exact ⟨_, rfl⟩
def UnitIsLoaded (data : List Byte) : Prop :=
    (let s := loading data
     ∃ e d', s.live = true ∧ s.dev.bootAt 4 = some e ∧ e.b ≠ 0 ∧ s.dev.flash.ready = true ∧ s.dev.dramReady = true ∧
      s.dev.outOfDram (e.c * 64) (e.b * 16384) = false ∧ s.dev.loadUnits e [] e.b 0 = (true, d'))
theorem unitIsLoaded_of (data : List Byte) (hl : data.length = 16384) : UnitIsLoaded data := by
  obtain ⟨c, hc⟩ := programPage_form (booting (entryOf 4 0 1 0)).dev 65536 data (by decide +kernel)
  have hd : (loading data).dev = _ := hc
  have hb : (loading data).dev.bootAt 4 = some { op := 4, flags := 0, tmo := 0, a := 0, b := 1, c := 0 } := by
    rw [hd]; exact Eq.trans (b := (booting (entryOf 4 0 1 0)).dev.bootAt 4) rfl (by decide +kernel)
  obtain ⟨d', h⟩ := load_one (loading data).dev { op := 4, flags := 0, tmo := 0, a := 0, b := 1, c := 0 } 65536 data
    (by rw [hd]; exact Eq.trans (b := (booting (entryOf 4 0 1 0)).dev.unitPage 0 0 0) rfl (by decide +kernel))
    (readPage_programPage _ _ _ _ _ (by decide +kernel) hl)
  have hf : (loading data).dev.flash.ready = true ∧ (loading data).dev.dramReady = true ∧ (loading data).dev.outOfDram (0 * 64) (1 * 16384) = false := by
    rw [hd]; exact ⟨rfl, rfl, Eq.trans (b := (booting (entryOf 4 0 1 0)).dev.outOfDram (0 * 64) (1 * 16384)) rfl (by decide +kernel)⟩
  exact ⟨_, d', rfl, hb, by decide, hf.1, hf.2.1, hf.2.2, h⟩
theorem witness_LoadEntryLoads : UnitIsLoaded (List.replicate 16384 5) := unitIsLoaded_of _ (List.length_replicate ..)
theorem witness_LoadEntryFails :
    (let s := (booting (entryOf 4 0 1 0)).onDev (onFlash fun f => { f with ready := false })
     (s.dev.bootAt 4).map (·.b) = some 1 ∧ s.dev.flash.ready = false) ∧ ((booting (entryOf 4 0 0 0)).dev.bootAt 4).map (·.b) = some 0 := by decide
theorem witness_CopyEntryCopies :
    (let s := booting (entryOf 5 0 0x10 1)
     ∃ e, s.dev.bootAt 5 = some e ∧ e.c = 1 ∧ s.dev.dramReady = true ∧ s.dev.outOfDram (e.a * 64) (4 * e.c) = false ∧
       (s.dev.readDram (e.a * 64) (4 * e.c) 0 none calm).1 = none ∧ e.flags.testBit 0 = false) := ⟨_, rfl, by decide +kernel⟩
theorem witness_ValidateEntryValidates :
    (booting (entryOf 6 0 3 0)).live = true ∧ ((booting (entryOf 6 0 3 0)).dev.bootAt 6).isSome = true ∧
    (booting (entryOf 6 0 3 0)).dev.tick.fsOp = 0 := by decide
theorem witness_LongBootTimesOut :
    (let s := booting []
     s.live = true ∧ s.dev.booting = true ∧ s.dev.nowNs < s.dev.boot.startNs + max (s.dev.regN Reg.RB_BOOT_TO) 10 * 1000000 ∧
     (let t := s.onDev fun d => { d with nowNs := 100000000000 }
      t.dev.boot.startNs + max (t.dev.regN Reg.RB_BOOT_TO) 10 * 1000000 ≤ t.dev.nowNs)) := by decide
theorem witness_EntriesFollowInOrder :
    (let d := ((booting []).onDev fun d => { d with boot := { d.boot with entries := [entryOf 3 0 0 0, entryOf 0 0 0 0] } }).dev
     d.boot.running = true ∧ d.boot.entries[d.boot.next + 1]? = some (entryOf 0 0 0 0) ∧ (bootEntry (entryOf 0 0 0 0)).flags.testBit 1 = false ∧
     (bootEntry (entryOf 0 0 0 0)).ok = true) ∧ (booting []).dev.boot.entries.length = (booting []).dev.boot.next + 1 := by decide

/-- An unsigned image with an empty boot table, and the page that holds it. -/
def img0 : List Byte :=
  List.replicate 12 0 ++ leBytes 4 64 ++ List.replicate 240 0 ++ [0x42, 0x4F, 0x54, 0x42, 1, 0, 0, 0] ++ List.replicate 56 0
def page0 : List Byte := img0 ++ List.replicate 16064 0
theorem length_img0 : img0.length = 320 := by decide +kernel
theorem length_page0 : page0.length = 16384 := by
  rw [page0, List.length_append, List.length_replicate, length_img0]
theorem erased0 (blk : Nat) : State.reset.dev.pageErased (pageAt 0 0 blk 0) = true := rfl
/-- The part of reset with that page in a copy. -/
def holds (blk : Nat) : Dev := State.reset.dev.programPage (pageAt 0 0 blk 0) page0
theorem holds_copy (blk : Nat) : (holds blk).readCopy blk false = .ok (img0, false) := by
  obtain ⟨h1, h2⟩ := programPage_reads _ _ page0 (erased0 blk) length_page0
  have h3 : (holds blk).judgeImage img0 = (none, false) := by
    have hs : (holds blk).sec = State.reset.dev.sec := by simp only [holds, Dev.programPage]; split <;> rfl
    have hf : (holds blk).imageFault img0 = some 0x800A := by
      unfold Dev.imageFault; rw [if_pos (Or.inl (by decide))]
    simp only [Dev.judgeImage, hf, hs]; rfl
  unfold Dev.readCopy
  rw [← holds] at h1 h2
  have h4 : leAt page0 0xC 4 = 64 := by decide
  simp only [h1, h2, h4]
  have h5 : ((List.range 1).flatMap fun i => (holds blk).pageBytes (pageAt 0 0 blk i) 0 16384).take 320 = img0 := by
    have : (List.range 1) = [0] := rfl
    rw [this, List.flatMap_cons, List.flatMap_nil, List.append_nil, h1]
    exact List.take_left' length_img0
  have h6 : (List.range 1).all (fun i => (holds blk).pageMeta (pageAt 0 0 blk i)) = true := by
    have : (List.range 1) = [0] := rfl
    rw [this, List.all_cons, h2]; rfl
  simp only [Nat.reduceAdd, Nat.reduceDiv, Nat.reduceSub, Nat.reduceLT, h5, h6, h3]
  rfl
theorem holds_not_blank (blk : Nat) : (holds blk).copyBlank blk = false :=
  programPage_not_erased _ _ page0 (erased0 blk) length_page0 0 (by decide) 0 rfl (by decide)
/-- A part whose copy A no longer reads, its page left undefined, and that holds that page in copy B. -/
def failed0 : Dev := (State.reset.dev.undefPage (pageAt 0 0 0 0)).programPage (pageAt 0 0 1 0) page0
theorem failed0_copy : failed0.readCopy 1 false = .ok (img0, false) := by
  have he : (State.reset.dev.undefPage (pageAt 0 0 0 0)).pageErased (pageAt 0 0 1 0) = true := by decide +kernel
  obtain ⟨h1, h2⟩ := programPage_reads _ _ page0 he length_page0
  have h3 : failed0.judgeImage img0 = (none, false) := by
    have hs : failed0.sec = State.reset.dev.sec := by simp only [failed0, Dev.programPage]; split <;> rfl
    have hf : failed0.imageFault img0 = some 0x800A := by
      unfold Dev.imageFault; rw [if_pos (Or.inl (by decide))]
    simp only [Dev.judgeImage, hf, hs]; rfl
  unfold Dev.readCopy
  rw [← failed0] at h1 h2
  have h4 : leAt page0 0xC 4 = 64 := by decide
  simp only [h1, h2, h4]
  have h5 : ((List.range 1).flatMap fun i => failed0.pageBytes (pageAt 0 0 1 i) 0 16384).take 320 = img0 := by
    have : (List.range 1) = [0] := rfl
    rw [this, List.flatMap_cons, List.flatMap_nil, List.append_nil, h1]
    exact List.take_left' length_img0
  have h6 : (List.range 1).all (fun i => failed0.pageMeta (pageAt 0 0 1 i)) = true := by
    have : (List.range 1) = [0] := rfl
    rw [this, List.all_cons, h2]; rfl
  simp only [Nat.reduceAdd, Nat.reduceDiv, Nat.reduceSub, Nat.reduceLT, h5, h6, h3]
  rfl
/-- The search's reading of a copy looks at the flash and at the keys alone. -/
theorem readCopy_of (d e : Dev) (hf : d.flash = e.flash) (hs : d.sec = e.sec) (blk : Nat) (bad : Bool) :
    d.readCopy blk bad = e.readCopy blk bad ∧ d.copyBlank blk = e.copyBlank blk := by
  cases d; cases e; cases hf; cases hs; exact ⟨rfl, rfl⟩
theorem kept_msi (d : Dev) (q f v : Nat) : (d.msi q f v).flash = d.flash ∧ (d.msi q f v).sec = d.sec := by
  unfold Dev.msi Dev.upstream; dsimp only; repeat' split
  all_goals exact ⟨rfl, rfl⟩
theorem kept_withdraw (d : Dev) (t : Option Nat) : (d.withdraw t).flash = d.flash ∧ (d.withdraw t).sec = d.sec := by
  cases t <;> exact ⟨rfl, rfl⟩
theorem kept_countErr (d : Dev) (c v : Nat) : (d.countErr c v).flash = d.flash ∧ (d.countErr c v).sec = d.sec := by
  unfold Dev.countErr; dsimp only; split
  · exact ⟨rfl, rfl⟩
  · split <;> exact ⟨rfl, rfl⟩
theorem kept_writeLog (d : Dev) (c v : Nat) (e : ErrAt) : (d.writeLog c v e).flash = d.flash ∧ (d.writeLog c v e).sec = d.sec := by
  unfold Dev.writeLog; dsimp only
  repeat' split
  all_goals first
    | exact ⟨rfl, rfl⟩
    | exact ⟨(kept_msi _ _ _ _).1, (kept_msi _ _ _ _).2⟩
theorem copyFail_keeps (d : Dev) (blk : Nat) : (d.copyFail blk 0x4007).flash = d.flash ∧ (d.copyFail blk 0x4007).sec = d.sec := by
  have h : ∀ pg, (d.pageUe pg).flash = d.flash ∧ (d.pageUe pg).sec = d.sec := by
    intro pg; simp only [Dev.pageUe]; split <;> exact ⟨rfl, rfl⟩
  have hl : ∀ x : Dev, (x.bootLog 0x4007).flash = x.flash ∧ (x.bootLog 0x4007).sec = x.sec := by
    intro x
    have : x.bootLog 0x4007 = x.logS 0x4007 { atNode nodeBoot with detail := x.regN Reg.RB_ERR } := by
      unfold Dev.bootLog Dev.raise; rw [if_neg (by decide), if_pos (by decide)]
    rw [this]
    exact ⟨((kept_withdraw _ _).1.trans (kept_writeLog _ _ _ _).1).trans (kept_countErr _ _ _).1,
      ((kept_withdraw _ _).2.trans (kept_writeLog _ _ _ _).2).trans (kept_countErr _ _ _).2⟩
  unfold Dev.copyFail
  exact ⟨(hl _).1.trans (h _).1, (hl _).2.trans (h _).2⟩
theorem failed0_not_blank : failed0.copyBlank 0 = false ∧ failed0.copyBlank 1 = false := by
  have he : (State.reset.dev.undefPage (pageAt 0 0 0 0)).pageErased (pageAt 0 0 1 0) = true := by decide +kernel
  refine ⟨?_, programPage_not_erased _ _ page0 he length_page0 0 (by decide) 0 rfl (by decide)⟩
  have : failed0.flash.undef = [(pageAt 0 0 0 0, 1)] := by
    obtain ⟨c, hc⟩ := programPage_form _ _ page0 he
    unfold failed0; rw [hc]; rfl
  simp only [Dev.copyBlank, Dev.pageErased, this]; rfl
theorem witness_ImageSearchTakesTheFirstGoodCopy :
    (holds 0).copyBlank 0 = false ∧ (holds 0).readCopy 0 false = .ok (img0, false) ∧ State.reset.dev.copyBlank 0 = true ∧
    (holds 1).copyBlank 1 = false ∧ (holds 1).readCopy 1 false = .ok (img0, false) ∧ State.reset.dev.copyBlank 1 = true ∧
    failed0.copyBlank 0 = false ∧ failed0.readCopy 0 true = .error 0x4007 ∧ (failed0.copyFail 0 0x4007).copyBlank 1 = false ∧
    (failed0.copyFail 0 0x4007).readCopy 1 false = .ok (img0, false) := by
  have hk := copyFail_keeps failed0 0
  have hr := readCopy_of _ _ hk.1 hk.2 1 false
  exact ⟨holds_not_blank 0, holds_copy 0, rfl, holds_not_blank 1, holds_copy 1, rfl, failed0_not_blank.1, rfl,
    hr.2.trans failed0_not_blank.2, hr.1.trans failed0_copy⟩
theorem witness_LockedPartExecutesNoUnverifiedImage :
    (let d := { State.reset.dev with sec := { State.reset.dev.sec with lockUse := true } }
     d.sec.lockUse = true ∧ d.imageFault img0 ≠ none ∧ bootTableOk (img0.drop 256) = true) := by decide +kernel

/-! ## The test access port and the field tests -/

/-- A core held by EXTEST. -/
def heldS : State := let s := up id; { s with tap := { s.tap with held := true, ir := 0 } }
/-- A run that the test access port has asked for: MEM, LOGIC and CLOCK. -/
def testing (ran : Nat) : State := up fun d => { d with test := { busy := true, ran := ran, priv := none, port := none } }

theorem witness_PortResets : (up id).tap.held = false ∧ heldS.tap.held = true := by decide
theorem witness_ExtestDrivesAndCaptures :
    (Instr.extestTrain 5 9 7 .ok, 6, 2) ∈ [(Instr.tapExtest 5 9 7 .ok, 0, 0), (.extestPulse 5 9 7 .ok, 5, 1), (.extestTrain 5 9 7 .ok, 6, 2)] := by
  simp
theorem witness_SampleLeavesTheCore : (up id).tap.held = false := by decide
theorem witness_UnsuppliedCellsKeep : 1177 < 1212 ∧ ¬ 1178 ≤ 1177 := by decide
theorem witness_IdcodeIsRead : (up id).tap.held = false := by decide
theorem witness_LeavingExtestResetsTheCore : holdCode (2 : BitVec 8).toNat = false ∧ heldS.tap.held = true := by decide
theorem witness_UnlistedCodesBypass :
    (up id).tap.held = false ∧ drLength (0x43 : BitVec 8).toNat (up id).dev.sec.dbgUse = 1 ∧ holdCode (0x43 : BitVec 8).toNat = false := by decide
theorem witness_FieldTestStartsARun :
    (let v : BitVec 40 := 0x8000000080
     (up id).live = true ∧ bit v 39 = true ∧ fld v 16 23 = 0 ∧ fld v 0 8 ≠ 0 ∧ (up id).dev.testOk (decide (fld v 0 8 % 8 ≠ 0)) = true ∧
     (asleepIn 2 id).dev.testOk (decide (fld v 0 8 % 8 ≠ 0)) = false) := by decide
theorem witness_FieldTestShowsTheResult : (up id).tap.held = false ∧ bit (0 : BitVec 40) 39 = false := by decide
theorem witness_PrivateTestsStart :
    (let v : BitVec 64 := 0x0A3F01
     (up id).live = true ∧ (up id).dev.sec.dbgUse = false ∧ bit v 0 = true ∧ privUnit 0x40 (fld v 8 8) = true ∧
     (up id).dev.testOk (decide (0x40 ≠ 0x42)) = true ∧ (up id).dev.privRuns 0x40 (fld v 8 8) = true) := by decide
theorem witness_DebugDisHidesPrivateTests :
    (onSec fun s => { s with dbgUse := true }).dev.sec.dbgUse = true ∧ (onSec fun s => { s with dbgUse := true }).tap.held = false := by decide
theorem witness_RunEndShowsTheResult :
    (testing 0x25).live = true ∧ (testing 0x25).dev.test.busy = true ∧ (testing 0x25).dev.test.priv = none ∧
    (testing 0x25).dev.test.port = none ∧ (testing 0x25).dev.test.ran.testBit 7 = false ∧ (testing 0x25).dev.test.ran < 256 ∧
    (testing 0x25).dev.pwr.heldReq = none := by decide
theorem witness_ResultParts : 0xF7 &&& 0x20 ≠ 0 ∧ 0xF7 &&& 0x08 = 0 := by decide
/-- Chapter 22's example: a run of 0xF7 that fails test 5 in unit 5 shows 0x050520F7. -/
theorem test_result : resultOf 0xF7 0x20 5 = 0x050520F7 := by decide
/-- IDCODE (R492). -/
theorem test_idcode : (after (.tapIdcode .ok) (up id)).tap.drCap = 0x272609B3 := by decide +kernel

end Sys2Proof.Tests
end

section
/-! PROOF. The host's accesses of BAR0 and the access codes of registers (R4 to R7, R38, R53, R357): what a read or a write of each size does, and from
that the statements HostRegisterAccessesComplete and ReadClearsExactlyTheReadClearBits. -/

namespace Sys2Proof.Machine

/-! ## The bytes of an access (R3) -/

/-- The little-endian bytes depend on the value modulo their width alone. -/
theorem leBytes_mod (n x : Nat) : leBytes n (x % 256 ^ n) = leBytes n x := by
  induction n generalizing x with
  | zero => rfl
  | succ n ih =>
    have hlow : BitVec.ofNat 8 (x % 256 ^ (n + 1)) = BitVec.ofNat 8 x := by
      apply BitVec.eq_of_toNat_eq
      simp only [BitVec.toNat_ofNat]
      exact Nat.mod_mod_of_dvd x (Nat.pow_succ (n := 256) (m := n) ▸ Nat.dvd_mul_left 256 (256 ^ n))
    have hhigh : x % 256 ^ (n + 1) / 256 = x / 256 % 256 ^ n := by
      rw [Nat.pow_succ, Nat.mul_comm, Nat.mod_mul_right_div_self]
    simp only [leBytes, hlow, hhigh, ih]

@[simp] theorem leBytes_w32 (n : Nat) : leBytes 4 (w32 n).toNat = leBytes 4 n := leBytes_mod 4 n

/-- A word found among bytes, after those of `xs` and before those of `ys`. -/
theorem w32_leAt_append (xs ys : List Byte) (v : Word) : w32 (leAt (xs ++ (leBytes 4 v.toNat ++ ys)) xs.length 4) = v := by
  have htake : (leBytes 4 v.toNat ++ ys).take 4 = leBytes 4 v.toNat := List.take_left' (length_leBytes 4 _)
  have hval : leNat (leBytes 4 v.toNat) = v.toNat := (leNat_leBytes 4 _).trans (Nat.mod_eq_of_lt v.isLt)
  simp only [leAt, List.drop_left, htake, hval, w32, BitVec.ofNat_toNat, BitVec.setWidth_eq]

/-! ## The gate of the host port (R7, R421, R485) -/

theorem RegEnv.whole_iff (m : RegEnv) : m.whole = true ↔ m.poison = false ∧ m.port = .clean := by simp [RegEnv.whole]

/-- An access whose port buffers are clean has its effect in a core that the host reaches. -/
theorem State.run_access {s : State} {m : RegEnv} (f : State → State) (hr : s.hostReady = true) (hp : m.port = .clean) :
    s.run (fun s => s.access m f) = .next (f s) := by
  simp only [State.hostReady, Bool.and_eq_true, decide_eq_true_eq] at hr
  obtain ⟨hlive, hpstate⟩ := hr
  rw [State.run_live _ hlive, State.access, if_neg (by omega), hp]
  rfl

/-! ## Reads (R4, R6, R7) -/

@[simp] theorem Dev.checkRead_clean (d : Dev) (off : Nat) (x : Spot) (v : Word) : d.checkRead off x .clean v = (v, d) := by
  unfold Dev.checkRead
  cases x.array off <;> rfl

/-- A read of a mapped word whose array is clean gives its value and has the effects of the read. -/
theorem State.read32_mapped {s : State} {fn off : Nat} {own : Bool} {m : RegEnv} {x : Spot} (hx : s.dev.spot fn own off = some x)
    (he : m.ecc = .clean) :
    s.read32 fn own off m = (s.value fn off m.link x, (s.onDev (·.hostFlits off false)).readFx off m.ev x) := by
  simp only [State.read32, hx, he, Dev.checkRead_clean]
  rfl

theorem State.readFx_readClear (s : State) {off : Nat} (ev : Word) {r : RegSpec} (h1 : off ≠ Reg.TK_COUNT_LO)
    (h2 : off ≠ Reg.PW_AON_TIME_LO) (hrc : r.rc ≠ 0) :
    s.readFx off ev (.reg r) = s.onDev fun d => d.setReg off (r.afterRead (d.reg off) ev) := by
  simp only [State.readFx, if_neg h1, if_neg h2, if_neg hrc]

theorem State.readFx_plain (s : State) {off : Nat} (ev : Word) {r : RegSpec} (h1 : off ≠ Reg.TK_COUNT_LO)
    (h2 : off ≠ Reg.PW_AON_TIME_LO) (hrc : r.rc = 0) : s.readFx off ev (.reg r) = s := by
  simp only [State.readFx, if_neg h1, if_neg h2, if_pos hrc]
  rfl

/-- A host read of an aligned word is one 32-bit read. -/
theorem State.hostRead_word (s : State) {fn off : Nat} (m m2 : RegEnv) (ha : off % 4 = 0) :
    s.hostRead fn off 4 m m2 = (s.read32 fn false off m).2.answer (leBytes 4 (s.read32 fn false off m).1.toNat) := by
  rw [State.hostRead, if_pos ⟨rfl, ha⟩]

/-- Of an aligned word that is mapped and clean: the read's effects, and the word's value as the answer. -/
theorem State.hostRead_mapped {s : State} {fn off : Nat} {m : RegEnv} (m2 : RegEnv) {x : Spot} (ha : off % 4 = 0)
    (hx : s.dev.spot fn false off = some x) (he : m.ecc = .clean) :
    s.hostRead fn off 4 m m2 =
      ((s.onDev (·.hostFlits off false)).readFx off m.ev x).answer (leBytes 4 (s.value fn off m.link x).toNat) := by
  rw [State.hostRead_word s m m2 ha, State.read32_mapped hx he]

/-- The one word that an access within a word covers. -/
theorem wordsOf_within {off n : Nat} (h1 : 1 ≤ n) (h2 : off % 4 + n ≤ 4) : wordsOf off n = [4 * (off / 4)] := by
  have hcount : (off + n - 1) / 4 + 1 - off / 4 = 1 := by omega
  rw [wordsOf, if_neg (by omega), hcount]
  simp

/-- A read within a mapped, clean word that is not the whole word gives its bytes and leaves the state. -/
theorem State.hostRead_within {s : State} {fn off n : Nat} {m : RegEnv} (m2 : RegEnv) {x : Spot} (h1 : 1 ≤ n) (h2 : off % 4 + n ≤ 4)
    (h4 : n ≠ 4) (hx : s.dev.spot fn false (4 * (off / 4)) = some x) (he : m.ecc = .clean) :
    s.hostRead fn off n m m2 =
      s.answer (((leBytes 4 (s.value fn (4 * (off / 4)) m.link x).toNat).drop (off % 4)).take n) := by
  rw [State.hostRead, if_neg (by omega), if_neg (by omega)]
  simp [State.oddBytes, wordsOf_within h1 h2, hx, he]

/-! ## Writes (R4, R5, R7, R38) -/

theorem State.hostWrite_poisoned (s : State) {m : RegEnv} (fn off : Nat) (bs : List Byte) (m2 : RegEnv) (hp : m.poison = true) :
    s.hostWrite fn off bs m m2 = s.onDev (·.poisonedWrite fn) := if_pos hp

/-- A host write of an aligned word is one 32-bit write. -/
theorem State.hostWrite_word (s : State) {fn off : Nat} {m : RegEnv} (m2 : RegEnv) (v : Word) (hp : m.poison = false) (ha : off % 4 = 0) :
    s.hostWrite fn off (leBytes 4 v.toNat) m m2 = s.write32 fn false off v m := by
  have hv : w32 (leAt (leBytes 4 v.toNat) 0 4) = v := by simpa using w32_leAt_append [] [] v
  simp [State.hostWrite, hp, ha, length_leBytes, hv]

/-- A host write of an aligned double word is two 32-bit writes, the lower address first. -/
theorem State.hostWrite_wide (s : State) {fn off : Nat} {m : RegEnv} (m2 : RegEnv) (lo hi : Word) (hp : m.poison = false)
    (ha : off % 8 = 0) :
    s.hostWrite fn off (leBytes 4 lo.toNat ++ leBytes 4 hi.toNat) m m2 =
      (s.write32 fn false off lo m).write32 fn false (off + 4) hi m2 := by
  have hlo : w32 (leAt (leBytes 4 lo.toNat ++ leBytes 4 hi.toNat) 0 4) = lo := w32_leAt_append [] _ lo
  have hhi : w32 (leAt (leBytes 4 lo.toNat ++ leBytes 4 hi.toNat) 4 4) = hi := by
    simpa [length_leBytes] using w32_leAt_append (leBytes 4 lo.toNat) [] hi
  simp [State.hostWrite, hp, ha, length_leBytes, hlo, hhi]

/-- A host write of any other size or place is dropped whole and logged. -/
theorem State.hostWrite_irregular (s : State) {fn off : Nat} {bs : List Byte} {m : RegEnv} (m2 : RegEnv) (hp : m.poison = false)
    (h4 : ¬ (bs.length = 4 ∧ off % 4 = 0)) (h8 : ¬ (bs.length = 8 ∧ off % 8 = 0)) :
    s.hostWrite fn off bs m m2 = s.onDev Dev.badAccess := by
  simp only [State.hostWrite, hp, if_neg h4, if_neg h8, Bool.false_eq_true, if_false]

theorem State.write32_unmapped {s : State} {fn off : Nat} {own : Bool} (v : Word) (m : RegEnv) (hx : s.dev.spot fn own off = none) :
    s.write32 fn own off v m = s.onDev Dev.badAccess := by simp only [State.write32, hx]

theorem State.write32_mapped {s : State} {fn off : Nat} {own : Bool} {x : Spot} (v : Word) (m : RegEnv)
    (hx : s.dev.spot fn own off = some x) :
    s.write32 fn own off v m = (s.onDev (·.hostFlits off true)).spotWrite fn off v m x := by simp only [State.write32, hx]

/-- A write that only stores leaves the register with its fields written by their access codes. -/
theorem State.regWrite_plain {s : State} {fn off : Nat} {v : Word} {m : RegEnv} (r : RegSpec) (h : s.dev.plainWrite fn off v m = true) :
    s.regWrite fn off v m r = s.onDev fun d => d.setReg off (r.write (d.reg off) v m.ev) := by
  simp only [Dev.plainWrite, Bool.and_eq_true, Bool.not_eq_true', decide_eq_true_eq, decide_eq_false_iff_not, Option.isNone_iff_eq_none]
    at h
  obtain ⟨⟨⟨⟨hfn, hkick⟩, hth⟩, hmark⟩, hstore⟩ := h
  simp only [State.regWrite, hfn, if_neg hkick, if_neg hth, if_neg hmark, State.onDev, hstore, Bool.false_eq_true, if_false]

/-! ## The counters that a read latches (R53, R357) -/

/-- Once no boot runs, the physical function reaches what the map has. -/
theorem Dev.spot_physical {d : Dev} (own : Bool) (off : Nat) (hb : d.booting = false) : d.spot 0 own off = d.pfSpot off := by
  simp only [Dev.spot, hb]
  cases d.pfSpot off <;> simp

theorem Dev.pfSpot_tkCountLo (d : Dev) : ∃ r, d.pfSpot Reg.TK_COUNT_LO = some (.reg r) ∧ r.readable = 0xFFFFFFFF := ⟨_, rfl, by decide⟩

theorem Dev.pfSpot_pwAonTimeLo (d : Dev) : ∃ r, d.pfSpot Reg.PW_AON_TIME_LO = some (.reg r) ∧ r.readable = 0xFFFFFFFF :=
  ⟨_, rfl, by decide⟩

/-- A register that is readable in full, outside the mark words, shows its value whole. -/
theorem State.value_readable (s : State) {fn off : Nat} (link : Word) {r : RegSpec} (hr : r.readable = 0xFFFFFFFF)
    (hmark : ¬ (0xC1000 ≤ off ∧ off < 0xC1200)) : s.value fn off link (.reg r) = regValue s.dev s.th link off := by
  have hones : w32 0xFFFFFFFF = BitVec.allOnes 32 := by decide
  simp only [State.value, hr, if_neg hmark, hones, BitVec.and_allOnes]

theorem regValue_tkCountLo (d : Dev) (th : ThSt) (link : Word) : regValue d th link Reg.TK_COUNT_LO = w32 d.tick.count := rfl

theorem regValue_pwAonTimeLo (d : Dev) (th : ThSt) (link : Word) : regValue d th link Reg.PW_AON_TIME_LO = w32 d.aonCount := rfl

/-! ## The clauses of the host's accesses -/

theorem registerWriteStores : Claims.RegisterWriteStores := by
  intro fn off v m s r hr hw ha hx hplain
  obtain ⟨hpoison, hport⟩ := m.whole_iff.mp hw
  calc exec (.registerWrite fn off v m) s
      = .next (s.hostWrite fn off.toNat (leBytes 4 v.toNat) m m) := State.run_access _ hr hport
    _ = .next ((s.onDev (·.hostFlits off.toNat true)).regWrite fn off.toNat v m r) := by
      rw [State.hostWrite_word s m v hpoison ha, State.write32_mapped v m hx, State.spotWrite]
    _ = _ := by rw [State.regWrite_plain (s := s.onDev (·.hostFlits off.toNat true)) r hplain]; rfl

theorem unmappedWriteIsLogged : Claims.UnmappedWriteIsLogged := by
  intro fn off v m s hr hw ha hx
  obtain ⟨hpoison, hport⟩ := m.whole_iff.mp hw
  calc exec (.registerWrite fn off v m) s
      = .next (s.hostWrite fn off.toNat (leBytes 4 v.toNat) m m) := State.run_access _ hr hport
    _ = _ := by rw [State.hostWrite_word s m v hpoison ha, State.write32_unmapped v m hx]

theorem poisonedWriteIsDiscarded : Claims.PoisonedWriteIsDiscarded := by
  intro fn off v m s hr hpoison hport
  calc exec (.registerWrite fn off v m) s
      = .next (s.hostWrite fn off.toNat (leBytes 4 v.toNat) m m) := State.run_access _ hr hport
    _ = _ := by rw [State.hostWrite_poisoned s _ _ _ m hpoison]; rfl

theorem readClearReturnsAndClears : Claims.ReadClearReturnsAndClears := by
  intro fn off m s r hr ha hx htick haon hrc hecc hport
  calc exec (.readClear fn off m) s
      = .next (s.hostRead fn off.toNat 4 m m) := State.run_access _ hr hport
    _ = _ := by rw [State.hostRead_mapped m ha hx hecc, State.readFx_readClear _ _ htick haon hrc]; rfl

theorem plainReadReturns : Claims.PlainReadReturns := by
  intro fn off m s r hr ha hx htick haon hrc hecc hport
  calc exec (.readClear fn off m) s
      = .next (s.hostRead fn off.toNat 4 m m) := State.run_access _ hr hport
    _ = _ := by rw [State.hostRead_mapped m ha hx hecc, State.readFx_plain _ _ htick haon hrc]

theorem tickCountReadLatches : Claims.TickCountReadLatches := by
  intro s hr hb
  obtain ⟨r, hspot, hreadable⟩ := s.dev.pfSpot_tkCountLo
  have hx := (Dev.spot_physical false Reg.TK_COUNT_LO hb).trans hspot
  calc exec .tkCountRead s
      = .next (s.hostRead 0 Reg.TK_COUNT_LO 4 .ok .ok) := State.run_access _ hr rfl
    _ = _ := by
      rw [State.hostRead_mapped .ok rfl hx rfl, State.value_readable s _ hreadable (by decide), regValue_tkCountLo, leBytes_w32]
      rfl

theorem alwaysOnTimeReadLatches : Claims.AlwaysOnTimeReadLatches := by
  intro s hr hb
  obtain ⟨r, hspot, hreadable⟩ := s.dev.pfSpot_pwAonTimeLo
  have hx := (Dev.spot_physical false Reg.PW_AON_TIME_LO hb).trans hspot
  calc exec .pwAonTimeRead s
      = .next (s.hostRead 0 Reg.PW_AON_TIME_LO 4 .ok .ok) := State.run_access _ hr rfl
    _ = _ := by
      rw [State.hostRead_mapped .ok rfl hx rfl, State.value_readable s _ hreadable (by decide), regValue_pwAonTimeLo, leBytes_w32]
      rfl

theorem narrowWriteIsDropped : Claims.NarrowWriteIsDropped := by
  intro fn off bs m m2 s hr hw h4 h8
  obtain ⟨hpoison, hport⟩ := m.whole_iff.mp hw
  calc exec (.bar0IrregularAccess fn off (.write bs) m m2) s
      = .next (s.hostWrite fn off.toNat bs m m2) := State.run_access _ hr hport
    _ = _ := by rw [State.hostWrite_irregular s m2 hpoison h4 h8]

theorem narrowReadHasNoSideEffect : Claims.NarrowReadHasNoSideEffect := by
  intro fn off n m m2 s x hr h1 h2 h4 hx hecc hport
  calc exec (.bar0IrregularAccess fn off (.read n) m m2) s
      = .next (s.hostRead fn off.toNat n m m2) := State.run_access _ hr hport
    _ = _ := by rw [State.hostRead_within m2 h1 h2 h4 hx hecc]

theorem wideReadIsTwoReads : Claims.WideReadIsTwoReads := by
  intro fn off m m2 s hr hport ha
  calc exec (.bar0IrregularAccess fn off (.read 8) m m2) s
      = .next (s.hostRead fn off.toNat 8 m m2) := State.run_access _ hr hport
    _ = _ := by rw [State.hostRead, if_neg (by omega), if_pos ⟨rfl, ha⟩]

theorem wideWriteIsTwoWrites : Claims.WideWriteIsTwoWrites := by
  intro fn off lo hi m m2 s hr hw ha
  obtain ⟨hpoison, hport⟩ := m.whole_iff.mp hw
  calc exec (.bar0IrregularAccess fn off (.write (leBytes 4 lo.toNat ++ leBytes 4 hi.toNat)) m m2) s
      = .next (s.hostWrite fn off.toNat (leBytes 4 lo.toNat ++ leBytes 4 hi.toNat) m m2) := State.run_access _ hr hport
    _ = _ := by rw [State.hostWrite_wide s m2 lo hi hpoison ha]

/-! ## The statements -/

/-- Settles O8: each access passes the port's gate to a host read or write, whose size and place decide which 32-bit accesses it is. -/
theorem hostRegisterAccessesComplete : Obligations.HostRegisterAccessesComplete :=
  ⟨registerWriteStores, unmappedWriteIsLogged, poisonedWriteIsDiscarded, readClearReturnsAndClears, plainReadReturns, tickCountReadLatches,
    alwaysOnTimeReadLatches, narrowWriteIsDropped, narrowReadHasNoSideEffect, wideReadIsTwoReads, wideWriteIsTwoWrites⟩

/-- Settles O10, by whether the bit is one of the RC fields: the mask takes the old bit or the event's. -/
theorem readClearsExactlyTheReadClearBits : Obligations.ReadClearsExactlyTheReadClearBits := by
  intro r old ev i hi
  simp only [RegSpec.afterRead, BitVec.getLsbD_or, BitVec.getLsbD_and, BitVec.getLsbD_not, hi, decide_true, Bool.true_and]
  cases (w32 r.rc).getLsbD i <;> simp

end Sys2Proof.Machine
end

section
/-! PROOF. The memories of a tile as stores (R83, R157, R187, R188): what a vector register, an accumulator row and a scratchpad byte read after a
write of the same kind, and from that the statement TileMemoriesKeepWhatIsWritten. -/

namespace Sys2Proof.Machine

/-! ## Blocks of equal length in one sparse map -/

/-- A block that has been stored reads back, with its length named. -/
theorem tabGetList_tabSetList_length {α : Type} [DecidableEq α] (d : Nat → α) (m : Tab α) (k n : Nat) (vs : List α) (hn : vs.length = n) :
    tabGetList d (tabSetList d m k vs) k n = vs := by
  subst hn
  exact tabGetList_tabSetList d m k vs

/-- Of blocks of equal length, side by side, a write of one leaves every other. -/
theorem tabGetList_tabSetList_block {α : Type} [DecidableEq α] (d : Nat → α) (m : Tab α) {i j n : Nat} (vs : List α) (hn : vs.length = n)
    (hij : j ≠ i) : tabGetList d (tabSetList d m (i * n) vs) (j * n) n = tabGetList d m (j * n) n := by
  apply tabGetList_tabSetList_apart
  rw [hn, ← Nat.succ_mul, ← Nat.succ_mul]
  rcases Nat.lt_or_gt_of_ne hij with hlt | hgt
  · exact .inl (Nat.mul_le_mul_right n hlt)
  · exact .inr (Nat.mul_le_mul_right n hgt)

/-! ## Accumulator stores (R157) -/

theorem Dev.accRow_setAcc_same (d : Dev) (t a r : Nat) (fp : Bool) {ws : List Word} (hw : ws.length = 64) :
    (d.setAcc t a r fp ws).accRow t a r = ws := tabGetList_tabSetList_length zeroW _ _ 64 ws hw

theorem Dev.accIsFp_setAcc_same (d : Dev) (t a r : Nat) (fp : Bool) (ws : List Word) : (d.setAcc t a r fp ws).accIsFp t a r = fp :=
  tabGet_tabSet_same falseB _ _ fp

/-- Two rows that differ in their tile, store or number have different keys. -/
theorem accKey_ne {t a r t' a' r' : Nat} (ha : a < 2) (hr : r < 64) (ha' : a' < 2) (hr' : r' < 64) (hne : (t', a', r') ≠ (t, a, r)) :
    (t' * 2 + a') * 64 + r' ≠ (t * 2 + a) * 64 + r := by
  intro hkey
  have hr0 : r' = r := by omega
  have ha0 : a' = a := by omega
  have ht0 : t' = t := by omega
  exact hne (by rw [hr0, ha0, ht0])

theorem Dev.accRow_setAcc_ne (d : Dev) {t a r t' a' r' : Nat} (fp : Bool) {ws : List Word} (hw : ws.length = 64)
    (hkey : (t' * 2 + a') * 64 + r' ≠ (t * 2 + a) * 64 + r) : (d.setAcc t a r fp ws).accRow t' a' r' = d.accRow t' a' r' :=
  tabGetList_tabSetList_block zeroW _ ws hw hkey

theorem Dev.accIsFp_setAcc_ne (d : Dev) {t a r t' a' r' : Nat} (fp : Bool) (ws : List Word)
    (hkey : (t' * 2 + a') * 64 + r' ≠ (t * 2 + a) * 64 + r) : (d.setAcc t a r fp ws).accIsFp t' a' r' = d.accIsFp t' a' r' :=
  tabGet_tabSet_ne falseB _ fp hkey

theorem accumulatorRowsAreStored : Claims.AccumulatorRowsAreStored := by
  intro d t a r t' a' r' fp ws hw ha hr ha' hr'
  refine ⟨d.accRow_setAcc_same t a r fp hw, d.accIsFp_setAcc_same t a r fp ws, fun hne => ?_⟩
  have hkey := accKey_ne ha hr ha' hr' hne
  exact ⟨d.accRow_setAcc_ne fp hw hkey, d.accIsFp_setAcc_ne fp ws hkey⟩

/-! ## Vector registers (R83) -/

theorem Dev.vec_setVec_same (d : Dev) (t v : Nat) {ws : List Word} (hw : ws.length = 64) : (d.setVec t v ws).vec t v = ws :=
  tabGetList_tabSetList_length zeroW _ _ 64 ws hw

theorem Dev.vec_setVec_ne (d : Dev) {t v t' v' : Nat} {ws : List Word} (hw : ws.length = 64) (hv : v < 32) (hv' : v' < 32)
    (hne : (t', v') ≠ (t, v)) : (d.setVec t v ws).vec t' v' = d.vec t' v' := by
  have hkey : t' * 32 + v' ≠ t * 32 + v := by
    intro hkey
    have hv0 : v' = v := by omega
    have ht0 : t' = t := by omega
    exact hne (by rw [hv0, ht0])
  exact tabGetList_tabSetList_block zeroW _ ws hw hkey

/-! ## Scratchpads (R143) -/

/-- A byte of a scratchpad after a write that stays within a scratchpad: what was written there, or what it was. -/
theorem Dev.spad_setSpad (d : Dev) (t a t' a' : Nat) (bs : List Byte) (hb : a + bs.length ≤ 0x80000) (ha' : a' < 0x80000) :
    (d.setSpad t a bs).spad t' a' =
      if h : t' = t ∧ a ≤ a' ∧ a' < a + bs.length then bs[a' - a]'(by omega) else d.spad t' a' := by
  have hread : (d.setSpad t a bs).spad t' a' = tabGet (spadDef d.spadGen) (tabSetList (spadDef d.spadGen) d.mem.spad (t * 0x80000 + a) bs)
      (t' * 0x80000 + a') := rfl
  rw [hread, tabGet_tabSetList]
  by_cases hin : t' = t ∧ a ≤ a' ∧ a' < a + bs.length
  · obtain ⟨rfl, hlo, hhi⟩ := hin
    have hplace : t' * 0x80000 + a' - (t' * 0x80000 + a) = a' - a := by omega
    rw [dif_pos ⟨by omega, by omega⟩, dif_pos ⟨rfl, hlo, hhi⟩]
    simp only [hplace]
  · rw [dif_neg (by omega), dif_neg hin]
    rfl

/-! ## The statement -/

/-- Settles O19: each memory is one sparse map, in which different places have different keys. -/
theorem tileMemoriesKeepWhatIsWritten : Obligations.TileMemoriesKeepWhatIsWritten :=
  ⟨accumulatorRowsAreStored,
    fun d t v _ _ _ hw hv hv' => ⟨d.vec_setVec_same t v hw, fun hne => d.vec_setVec_ne hw hv hv' hne⟩,
    fun d t a t' a' bs hb ha' => d.spad_setSpad t a t' a' bs hb ha'⟩

end Sys2Proof.Machine
end

section
/-! PROOF. The dispatch of a queued instruction (R78, R85, R88, R120): every row of queuedRows is one call of Dev.queueRow, which holds, halts,
enqueues or only increments; from that the statement QueuedInstructionsDispatch. -/

namespace Sys2Proof.Machine

/-- Every queued row is dispatched by one rule, which its opcode alone tells apart. -/
theorem exec_queuedRows_dispatch (t : Fin 64) (ecc : SramEv) (s : State) :
    ∀ p ∈ queuedRows t (.dispatch ecc), exec p.1 s = s.runDev fun d => d.queueRow t p.2 ecc := by
  simp only [queuedRows, List.forall_mem_cons, List.not_mem_nil, false_implies, implies_true, and_true]
  and_intros
  all_goals rfl

/-! ## The gate of dispatch (R78, R85, R99) -/

theorem Dev.dispatches_iff (d : Dev) (t op : Nat) :
    d.dispatches t op = true ↔ d.canDispatch t = true ∧ opOf (d.wordAt t) = op ∧ badEnc (d.wordAt t) t = false ∧
      badLoop (d.wordAt t) (d.tile t).pc (d.tile t).loops = false ∧
      (readsIx (d.wordAt t)).any (fun r => (d.tile t).pendIx.contains r) = false := by
  simp only [Dev.dispatches, Bool.and_eq_true, decide_eq_true_eq, Bool.not_eq_true', and_assoc]

/-- A tile that dispatches has a fragment running. -/
theorem Dev.cur_isSome_of_dispatches {d : Dev} {t op : Nat} (h : d.dispatches t op = true) : (d.tile t).cur.isSome = true := by
  obtain ⟨hcan, -⟩ := (d.dispatches_iff t op).mp h
  simp only [Dev.canDispatch, Bool.and_eq_true] at hcan
  obtain ⟨⟨⟨⟨⟨-, hcur⟩, -⟩, -⟩, -⟩, -⟩ := hcan
  exact hcur

/-- A legal instruction that its row holds back leaves the core. -/
theorem Dev.dispatch_held {d : Dev} {t op : Nat} {ecc : SramEv} {hold : TileSt → Word64 → Bool} {act : Dev → TileSt → Word64 → Dev}
    (h : d.dispatches t op = true) (hheld : hold (d.tile t) (d.wordAt t) = true) :
    d.dispatch t (fun o => decide (o = op)) ecc hold act = d := by
  obtain ⟨hcan, hop, henc, hloop, -⟩ := (d.dispatches_iff t op).mp h
  have hgo : ¬ (!d.canDispatch t || !decide (opOf (d.wordAt t) = op)) = true := by simp [hcan, hop]
  have hstop : (!(badEnc (d.wordAt t) t || badLoop (d.wordAt t) (d.tile t).pc (d.tile t).loops) &&
      (hold (d.tile t) (d.wordAt t) || (readsIx (d.wordAt t)).any (fun r => (d.tile t).pendIx.contains r))) = true := by
    simp [henc, hloop, hheld]
  exact (if_neg hgo).trans (if_pos hstop)

/-- One that nothing holds back has its effect, and the tile then completes what it can by itself. -/
theorem Dev.dispatch_acts {d : Dev} {t op : Nat} {hold : TileSt → Word64 → Bool} {act : Dev → TileSt → Word64 → Dev}
    (h : d.dispatches t op = true) (hfree : hold (d.tile t) (d.wordAt t) = false) :
    d.dispatch t (fun o => decide (o = op)) .clean hold act = (act d (d.tile t) (d.wordAt t)).settle t := by
  obtain ⟨hcan, hop, henc, hloop, hix⟩ := (d.dispatches_iff t op).mp h
  have hgo : ¬ (!d.canDispatch t || !decide (opOf (d.wordAt t) = op)) = true := by simp [hcan, hop]
  have hpass : ¬ (!(badEnc (d.wordAt t) t || badLoop (d.wordAt t) (d.tile t).pc (d.tile t).loops) &&
      (hold (d.tile t) (d.wordAt t) || (readsIx (d.wordAt t)).any (fun r => (d.tile t).pendIx.contains r))) = true := by
    rw [hfree, hix]; simp
  have hlegal : ¬ (badEnc (d.wordAt t) t || badLoop (d.wordAt t) (d.tile t).pc (d.tile t).loops) = true := by simp [henc, hloop]
  exact (if_neg hgo).trans ((if_neg hpass).trans (if_neg hlegal))

/-! ## The rule of the queued rows (R78, R88) -/

theorem Dev.queueRow_full {d : Dev} {t op : Nat} (ecc : SramEv) (h : d.dispatches t op = true) (hpred : d.predAt t = true)
    (hfull : 16 ≤ (d.queueOf t op).length) : d.queueRow t op ecc = d :=
  Dev.dispatch_held h (Bool.and_eq_true_iff.mpr ⟨hpred, decide_eq_true hfull⟩)

/-- With a true predicate and room in the queue the instruction is entered. -/
theorem Dev.queueRow_enters {d : Dev} {t op : Nat} (h : d.dispatches t op = true) (hpred : d.predAt t = true)
    (hroom : (d.queueOf t op).length < 16) : d.queueRow t op .clean = (d.enqueue t (d.tile t) (d.wordAt t)).settle t :=
  have hfree := Bool.and_eq_false_iff.mpr (.inr (decide_eq_false (Nat.not_le_of_lt hroom)))
  (Dev.dispatch_acts h hfree).trans (congrArg (Dev.settle · t) (if_pos hpred))

/-- With a false one only its increments are applied. -/
theorem Dev.queueRow_skips {d : Dev} {t op : Nat} (h : d.dispatches t op = true) (hpred : d.predAt t = false) :
    d.queueRow t op .clean =
      ((d.setTile t { d.tile t with ix := postInc (d.wordAt t) (d.tile t).ix }).advance t ((d.tile t).pc + 1)).settle t := by
  have hskip : predHolds (d.wordAt t) (d.tile t).ix (d.tile t).p = false := hpred
  exact (Dev.dispatch_acts h (Bool.and_eq_false_iff.mpr (.inl hskip))).trans (congrArg (Dev.settle · t) (if_neg (Bool.eq_false_iff.mp hskip)))

/-! ## The record of a tile after dispatch -/

/-- The PC of a tile whose record has just been written moves on within its image. -/
theorem Dev.setTile_advance {d : Dev} {t n : Nat} {ts : TileSt} (hcur : ts.cur.isSome = true) (hn : ts.imgBase ≤ n ∧ n < ts.imgBase + ts.imgLen) :
    (d.setTile t ts).advance t n = (d.setTile t ts).setTile t { ts with pc := n } := by
  have hrun : ts.cur.isNone = false := by cases hc : ts.cur <;> simp_all
  simp only [Dev.advance, Dev.tile_setTile, if_true, hrun, Bool.false_eq_true, if_false, if_pos hn]

theorem Dev.inImage_iff (d : Dev) (t pc : Nat) :
    d.inImage t pc = true ↔ (d.tile t).imgBase ≤ pc ∧ pc < (d.tile t).imgBase + (d.tile t).imgLen := by
  simp only [Dev.inImage, Bool.and_eq_true, decide_eq_true_eq]

/-- Writes of one tile's record alone, the last of them `ts`, make the tile become `ts`. -/
theorem State.tileBecomes_setTile (s : State) (t : Nat) (x ts : TileSt) :
    s.TileBecomes t ts (s.onDev fun d => ((d.setTile t x).setTile t ts).settle t) :=
  ⟨(s.dev.setTile t x).setTile t ts, rfl, by simp, fun u hu => by simp [hu], rfl⟩

/-- So the core after its record is written and its PC moves on within the image. -/
theorem State.tileBecomes_setTile_advance (s : State) {t n : Nat} {x : TileSt} (hcur : x.cur.isSome = true)
    (hn : x.imgBase ≤ n ∧ n < x.imgBase + x.imgLen) :
    s.TileBecomes t { x with pc := n } (s.onDev fun d => ((d.setTile t x).advance t n).settle t) := by
  have h := s.tileBecomes_setTile t x { x with pc := n }
  simpa only [State.onDev, Dev.setTile_advance hcur hn] using h

/-! ## Entering a queue (R78, R85, R102, R120) -/

/-- The record of a tile once an instruction word has entered its queue, before the PC moves on. -/
def TileSt.entered (ts : TileSt) (w : Word64) : TileSt :=
  let st := streamOf (opOf w)
  { ts with
    queues := setAt ts.queues st (ts.queues.getD st [] ++ [{ word := w, ix := ts.ix, first := firstSet ts, need := needOf ts w, pc := ts.pc }])
    disp := setAt ts.disp st (ts.disp.getD st 0 + 1)
    ix := postInc w ts.ix
    mxw := (accFlags ts w).1
    vxr := (accFlags ts w).2
    pendIx := if opOf w = 0x84 ∨ opOf w = 0x85 then ts.pendIx ++ [fld w 40 4] else ts.pendIx }

/-- What is flagged as outside the guarantee (R102) does not depend on the queues of the tile. -/
theorem Dev.flagOutside_setTile (d : Dev) (t : Nat) (ts : TileSt) (hcur : ts.cur = (d.tile t).cur) :
    (d.setTile t ts).flagOutside t = (d.flagOutside t).setTile t ts := by
  simp only [Dev.flagOutside, Dev.tile_setTile, if_true, hcur, Dev.setTile_tick]
  cases (d.tile t).cur with
  | none => rfl
  | some i => dsimp only; cases d.tick.cur[i]? <;> rfl

theorem Dev.enqueue_outOfOrder {d : Dev} {t : Nat} {w : Word64} (h : accOrder (d.tile t) w = true) :
    d.enqueue t (d.tile t) w = d.haltTile t 0x1008 (some (d.tile t).pc) := if_pos h

theorem Dev.enqueue_plain {d : Dev} {t : Nat} {w : Word64} (h : accOrder (d.tile t) w = false) (hop : ¬ (opOf w = 0x84 ∨ opOf w = 0x85)) :
    d.enqueue t (d.tile t) w = (d.setTile t ((d.tile t).entered w)).advance t ((d.tile t).pc + 1) := by
  simp only [Dev.enqueue, h, Bool.false_eq_true, if_false, hop, Dev.updTile, TileSt.entered]

theorem Dev.enqueue_counterReader {d : Dev} {t : Nat} {w : Word64} (h : accOrder (d.tile t) w = false)
    (hop : opOf w = 0x84 ∨ opOf w = 0x85) :
    d.enqueue t (d.tile t) w = ((d.flagOutside t).setTile t ((d.tile t).entered w)).advance t ((d.tile t).pc + 1) := by
  rw [← d.flagOutside_setTile t ((d.tile t).entered w) rfl]
  simp only [Dev.enqueue, h, Bool.false_eq_true, if_false, if_pos hop, Dev.updTile, TileSt.entered]

/-- R120 orders no instruction of the SY stream. -/
theorem accOrder_counterReader (ts : TileSt) {w : Word64} (hop : opOf w = 0x84 ∨ opOf w = 0x85) : accOrder ts w = false := by
  rcases hop with hop | hop <;> simp [accOrder, hop]

/-- An instruction that leaves no index register to be written enters with what it reads at dispatch. -/
theorem TileSt.entered_plain {d : Dev} {t op : Nat} (h : d.dispatches t op = true) (h84 : op ≠ 0x84) (h85 : op ≠ 0x85) :
    (d.tile t).entered (d.wordAt t) =
      (let ts := d.tile t
       let w := d.wordAt t
       let st := streamOf op
       { ts with
         queues := setAt ts.queues st (d.queueOf t op ++ [{ word := w, ix := ts.ix, first := firstSet ts, need := needOf ts w, pc := ts.pc }])
         disp := setAt ts.disp st (ts.disp.getD st 0 + 1)
         ix := postInc w ts.ix
         mxw := (accFlags ts w).1
         vxr := (accFlags ts w).2 }) := by
  obtain ⟨-, hop, -⟩ := (d.dispatches_iff t op).mp h
  simp only [TileSt.entered, hop, h84, h85, or_self, if_false, Dev.queueOf]

/-- SC.READ and WAIT.ANY enter the SY queue with their index register marked as still to be written (R85). -/
theorem TileSt.entered_counterReader {d : Dev} {t op : Nat} (h : d.dispatches t op = true) (hread : op = 0x84 ∨ op = 0x85) :
    (d.tile t).entered (d.wordAt t) =
      (let ts := d.tile t
       let w := d.wordAt t
       { ts with
         queues := setAt ts.queues 3 (d.queueOf t op ++ [{ word := w, ix := ts.ix, first := firstSet ts, need := needOf ts w, pc := ts.pc }])
         disp := setAt ts.disp 3 (ts.disp.getD 3 0 + 1)
         ix := postInc w ts.ix
         pendIx := ts.pendIx ++ [fld w 40 4]
         mxw := (accFlags ts w).1
         vxr := (accFlags ts w).2 }) := by
  obtain ⟨-, hop, -⟩ := (d.dispatches_iff t op).mp h
  have hst : streamOf op = 3 := by rcases hread with rfl | rfl <;> rfl
  simp only [TileSt.entered, hop, if_pos hread, Dev.queueOf, hst]

/-! ## The clauses of dispatch -/

/-- The answer to the dispatch of a queued row in a core that runs. -/
theorem exec_queuedRows_live {t : Fin 64} {s : State} (hl : s.live = true) {p : Instr × Nat} (hp : p ∈ queuedRows t (.dispatch .clean)) {d : Dev}
    (hd : s.dev.queueRow t p.2 .clean = d) : exec p.1 s = .next { s with dev := d } := by
  rw [exec_queuedRows_dispatch t .clean s p hp, State.runDev_live _ hl, State.onDev, hd]

theorem queuedInstructionEntersItsQueue : Claims.QueuedInstructionEntersItsQueue := by
  intro t s hl p hp hd hpred hroom hord h84 h85 himg
  obtain ⟨-, hop, -⟩ := (s.dev.dispatches_iff t p.2).mp hd
  have hplain : ¬ (opOf (s.dev.wordAt t) = 0x84 ∨ opOf (s.dev.wordAt t) = 0x85) := by rw [hop]; exact not_or.mpr ⟨h84, h85⟩
  have hbecomes := s.tileBecomes_setTile_advance (t := t) (x := (s.dev.tile t).entered (s.dev.wordAt t)) (Dev.cur_isSome_of_dispatches hd)
    ((s.dev.inImage_iff _ _).mp himg)
  rw [State.onDev, ← Dev.enqueue_plain hord hplain, ← Dev.queueRow_enters hd hpred hroom, TileSt.entered_plain hd h84 h85] at hbecomes
  exact ⟨_, exec_queuedRows_live hl hp rfl, hbecomes⟩

theorem counterReadersEnterTheirQueue : Claims.CounterReadersEnterTheirQueue := by
  intro t s hl p hp hd hpred hroom himg
  have hread : p.2 = 0x84 ∨ p.2 = 0x85 := by
    simp only [List.mem_cons, List.not_mem_nil, or_false] at hp
    exact hp.imp (congrArg Prod.snd) (congrArg Prod.snd)
  have hrow : p ∈ queuedRows t (.dispatch .clean) := by
    simp only [List.mem_cons, List.not_mem_nil, or_false] at hp
    rcases hp with rfl | rfl <;> simp [queuedRows]
  obtain ⟨-, hop, -⟩ := (s.dev.dispatches_iff t p.2).mp hd
  have hreadAt : opOf (s.dev.wordAt t) = 0x84 ∨ opOf (s.dev.wordAt t) = 0x85 := hop.symm ▸ hread
  have hbecomes := (s.onDev (·.flagOutside t)).tileBecomes_setTile_advance (t := t) (x := (s.dev.tile t).entered (s.dev.wordAt t))
    (Dev.cur_isSome_of_dispatches hd) ((s.dev.inImage_iff _ _).mp himg)
  simp only [State.onDev] at hbecomes ⊢
  rw [← Dev.enqueue_counterReader (accOrder_counterReader _ hreadAt) hreadAt, ← Dev.queueRow_enters hd hpred hroom,
    TileSt.entered_counterReader hd hread] at hbecomes
  exact ⟨_, exec_queuedRows_live hl hrow rfl, hbecomes⟩

theorem falsePredicateOnlyIncrements : Claims.FalsePredicateOnlyIncrements := by
  intro t s hl p hp hd hpred himg
  have hbecomes := s.tileBecomes_setTile_advance (t := t)
    (x := { s.dev.tile t with ix := postInc (s.dev.wordAt t) (s.dev.tile t).ix }) (Dev.cur_isSome_of_dispatches hd)
    ((s.dev.inImage_iff _ _).mp himg)
  rw [State.onDev, ← Dev.queueRow_skips hd hpred] at hbecomes
  exact ⟨_, exec_queuedRows_live hl hp rfl, hbecomes⟩

theorem fullQueueHoldsDispatch : Claims.FullQueueHoldsDispatch := by
  intro t ecc s p hp hd hpred hfull
  rw [exec_queuedRows_dispatch t ecc s p hp]
  cases hl : s.live with
  | false => exact State.runDev_dead _ hl
  | true => rw [State.runDev_live _ hl, State.onDev, Dev.queueRow_full ecc hd hpred hfull]

theorem accumulatorOrderHalts : Claims.AccumulatorOrderHalts := by
  intro t s hl p hp hd hpred hroom hord
  exact exec_queuedRows_live hl hp ((Dev.queueRow_enters hd hpred hroom).trans (congrArg (Dev.settle · t) (Dev.enqueue_outOfOrder hord)))

/-! ## The statement -/

/-- Settles O17: every row is one call of Dev.queueRow, by whether the queue is full, the predicate holds and R120 is kept. -/
theorem queuedInstructionsDispatch : Obligations.QueuedInstructionsDispatch :=
  ⟨queuedInstructionEntersItsQueue, counterReadersEnterTheirQueue, falsePredicateOnlyIncrements, fullQueueHoldsDispatch, accumulatorOrderHalts⟩

end Sys2Proof.Machine
end

section
/-! PROOF. The start of a queued instruction (R79, R81): what it does once nothing holds it, what its start checks do (R110, R133), and when it meets
no bank conflict (R148, R522). -/

namespace Sys2Proof.Machine

/-! ## The start of a queued instruction (R79, R81) -/

theorem Dev.startsWith_iff (d : Dev) (t op : Nat) (e : QEntry) :
    d.startsWith t op e = true ↔ (d.queueOf t op).head? = some e ∧ opOf e.word = op ∧ d.inRun = true ∧ (d.tile t).cur.isSome = true ∧
      (d.tile t).mayStart e = true := by
  simp only [Dev.startsWith, Bool.and_eq_true, decide_eq_true_eq, and_assoc]

/-- An instruction that its stream's own condition does not hold back leaves its queue and has its effect; the tile then completes what it can. -/
theorem Dev.start_acts {d : Dev} {t op : Nat} {e : QEntry} {ok : Dev → QEntry → Bool} {act : Dev → QEntry → Dev}
    (h : d.startsWith t op e = true) (hok : ok d e = true) : d.start t op .clean ok act = (act (d.popped t op) e).settle t := by
  obtain ⟨hhead, hop, hrun, hcur, hmay⟩ := (d.startsWith_iff t op e).mp h
  have hqueue : (d.tile t).queues.getD (streamOf op) [] = e :: (d.queueOf t op).tail := by
    obtain ⟨rest, hrest⟩ := List.head?_eq_some_iff.mp hhead
    exact hrest.trans (by rw [hrest, List.tail_cons])
  have hgo : (decide (opOf e.word = op) && d.inRun && (d.tile t).cur.isSome && (d.tile t).mayStart e && ok d e) = true := by
    simp only [hop, hrun, hcur, hmay, hok, decide_true, Bool.and_self]
  simp only [Dev.start, hqueue]
  exact if_pos hgo

/-- So a queued row whose effect is, on the core with the instruction taken out, that of `act'`. -/
theorem State.queued_starts {s : State} {t op : Nat} {e : QEntry} {ok : Dev → QEntry → Bool} {act : Dev → QEntry → Dev} {act' : Dev → Dev}
    (hl : s.live = true) (h : s.dev.startsWith t op e = true) (hok : ok s.dev e = true)
    (hact : act (s.dev.popped t op) e = act' (s.dev.popped t op)) :
    (s.runDev fun d => d.queued t op (.start .clean) ok act) = .next (s.started t op act') := by
  have hdev : s.dev.queued t op (.start .clean) ok act = (act' (s.dev.popped t op)).settle t :=
    (Dev.start_acts h hok).trans (congrArg (Dev.settle · t) hact)
  rw [State.runDev_live _ hl, State.onDev, hdev]
  rfl

/-! ## What taking an instruction out of its queue leaves -/

@[simp] theorem Dev.popped_tile_dmOps (d : Dev) (t op : Nat) : ((d.popped t op).tile t).dmOps = (d.tile t).dmOps := by simp [Dev.popped]
@[simp] theorem Dev.popped_tile_comp (d : Dev) (t op : Nat) : ((d.popped t op).tile t).comp = (d.tile t).comp := by simp [Dev.popped]
@[simp] theorem Dev.popped_tile_cur (d : Dev) (t op : Nat) : ((d.popped t op).tile t).cur = (d.tile t).cur := by simp [Dev.popped]
@[simp] theorem Dev.popped_tile_p (d : Dev) (t op : Nat) : ((d.popped t op).tile t).p = (d.tile t).p := by simp [Dev.popped]

@[simp] theorem Dev.popped_dmOrd (d : Dev) (t op : Nat) : (d.popped t op).dmOrd t = d.dmOrd t := by simp [Dev.dmOrd]
@[simp] theorem Dev.popped_instOf (d : Dev) (t op : Nat) : (d.popped t op).instOf t = d.instOf t := by
  simp only [Dev.instOf, Dev.popped_tile_cur]; rfl
@[simp] theorem Dev.popped_listEntries (d : Dev) (t op u la n : Nat) : (d.popped t op).listEntries u la n = d.listEntries u la n := rfl

/-! ## Start checks (R110, R133) -/

theorem Dev.checked_passes {d : Dev} {t pc : Nat} {c : Option Nat} {act : Dev → Dev} (hc : c = none) : d.checked t pc c act = act d := by
  rw [hc]; rfl
theorem Dev.checked_fails {d : Dev} {t pc code : Nat} {c : Option Nat} {act : Dev → Dev} (hc : c = some code) :
    d.checked t pc c act = d.haltTile t code (some pc) := by
  rw [hc]; rfl

theorem firstOf_pair {a b : Option Nat} (ha : a = none) (hb : b = none) : firstOf [a, b] = none := by rw [ha, hb]; rfl
theorem firstOf_second {a b : Option Nat} {code : Nat} (ha : a = none) (hb : b = some code) : firstOf [a, b] = some code := by rw [ha, hb]; rfl

theorem Dev.tileCheck_sameStand {d : Dev} {t u : Nat} (h : d.sameStand t u = true) : d.tileCheck t u = none := if_pos h
theorem Dev.tileCheck_otherStand {d : Dev} {t u : Nat} (h : d.sameStand t u = false) : d.tileCheck t u = some 0x8001 :=
  if_neg (Bool.eq_false_iff.mp h)
@[simp] theorem Dev.sameStand_self (d : Dev) (t : Nat) : d.sameStand t t = true := decide_eq_true rfl

/-! ## Bank conflicts (R148, R522) -/

/-- Past a start check that it passes, and without a conflict of its own or with another stream, an instruction has its whole effect. -/
theorem Dev.checked_conflict_free {d : Dev} {t pc : Nat} {c : Option Nat} {use : PortUse} {own : List Hit} {act : Dev → Option Nat → Dev}
    (hc : c = none) (hown : own = []) : (d.checked t pc c fun d => d.conflict t pc use own none act) = act d none := by
  rw [hc, hown]
  rfl

/-- An instruction that asks for at most one access in each cycle has no conflict with itself. -/
theorem selfHits_single {use : PortUse} (h : ∀ c ∈ use, c.length ≤ 1) : selfHits use = [] := by
  refine List.filterMap_eq_nil_iff.mpr fun c hc => ?_
  have hlen := h c.1 (List.fst_mem_of_mem_zipIdx hc)
  match c.1, hlen with
  | [], _ => rfl
  | [_], _ => rfl

end Sys2Proof.Machine
end

section
/-! PROOF. The data-movement stream (R126 to R133, R152): copies, gathers, transposes, multicasts and requests to the units, each as the start of a queued
instruction, and from that the statement DataMovementInstructionsComplete. -/

namespace Sys2Proof.Machine

/-! ## Copies (R126, R127, R172, R522) -/

theorem selfHits_copyUse_away (rows : List CopyRow) : selfHits (copyUse false rows) = [] := by
  refine selfHits_single fun c hc => ?_
  simp only [copyUse, List.mem_flatMap, List.mem_map, Bool.false_eq_true, if_false] at hc
  obtain ⟨_, -, _, -, rfl⟩ := hc
  exact Nat.le_refl 1

theorem selfHits_xposeUse_away (sa da z : Nat) : selfHits (xposeUse false sa da z) = [] := by
  refine selfHits_single fun c hc => ?_
  simp only [xposeUse, List.mem_map, Bool.false_eq_true, if_false] at hc
  obtain ⟨_, -, rfl⟩ := hc
  exact Nat.le_refl 1

theorem Dev.copyRows_own (d : Dev) (t ord : Nat) (rows : List CopyRow) :
    d.copyRows t ord t rows none = rows.foldl (fun d (r : CopyRow) => d.setSpad t r.dst (d.spadBytes t r.src r.n)) d := if_pos rfl

theorem Dev.copyRows_away (d : Dev) {t u : Nat} (ord : Nat) (rows : List CopyRow) (h : u ≠ t) :
    d.copyRows t ord u rows none = d.transfer t ord (tileNode u) (0, 0) 1 none ((rows.head?.map (·.dst / 64)).getD 0)
      (rows.flatMap (fun r => d.spadLines t r.src r.n (r.dst / 64))) := if_neg h

@[simp] theorem copyTx_own (t : Nat) : copyTx t t = 0 := if_pos rfl
theorem copyTx_away {t u : Nat} (h : u ≠ t) : copyTx t u = 1 := if_neg h

/-- The first line of a copy of consecutive bytes is written at its destination. -/
theorem lineRows_head (sa da : Nat) {n : Nat} (h : 64 ≤ n) : ((lineRows sa da n).head?.map (·.dst / 64)).getD 0 = da / 64 := by
  have hpos : 0 < n / 64 := Nat.div_pos h (by decide)
  simp [lineRows, List.head?_range, Nat.pos_iff_ne_zero.mp hpos]

/-- Consecutive bytes go to the own tile line by line, each read as it stands when it is reached (R522). -/
theorem Dev.copyRows_lines_own (d : Dev) (t ord sa da n : Nat) :
    d.copyRows t ord t (lineRows sa da n) none =
      (List.range (n / 64)).foldl (fun d i => d.setSpad t (da + i * 64) (d.spadBytes t (sa + i * 64) 64)) d := by
  rw [Dev.copyRows_own, lineRows, List.foldl_map]

/-- To another tile they go as one transfer. -/
theorem Dev.copyRows_lines_away (d : Dev) {t u : Nat} (ord sa da : Nat) {n : Nat} (hu : u ≠ t) (hn : 64 ≤ n) :
    d.copyRows t ord u (lineRows sa da n) none = d.transfer t ord (tileNode u) (0, 0) 1 none (da / 64)
      ((lineRows sa da n).flatMap (fun r => d.spadLines t r.src 64 (r.dst / 64))) := by
  rw [Dev.copyRows_away d ord _ hu, lineRows_head sa da hn]
  simp only [lineRows, List.flatMap_map]

/-! ## The checks of several elements (R91, R110) -/

theorem firstOf_eq_none {cs : List (Option Nat)} (h : ∀ c ∈ cs, c = none) : firstOf cs = none := by
  induction cs with
  | nil => rfl
  | cons c cs ih =>
    obtain ⟨rfl, hcs⟩ := List.forall_mem_cons.mp h
    exact ih hcs

/-- Elements none of which fails have no worst failure. -/
theorem worst_eq_none {cs : List (Option Nat)} (h : ∀ c ∈ cs, c = none) : worst cs = none := by
  have hfree : ∀ code : Nat, ¬ cs.contains (some code) = true := fun code hc => by
    have hnone := h _ (List.contains_iff_mem.mp hc)
    contradiction
  rw [worst, if_neg (hfree _), if_neg (hfree _), firstOf_eq_none h]

theorem gatherCheck_inside {es : List Nat} {n : Nat} (h : ∀ i ∈ es, i < n) : gatherCheck es n = none :=
  if_neg (by simpa using h)
theorem gatherCheck_outside {es : List Nat} {n : Nat} (h : ∃ i ∈ es, n ≤ i) : gatherCheck es n = some 0x1006 :=
  if_pos (by simpa using h)

/-! ## DM.MOVE and its forms (R126) -/

theorem dmMoveCopiesLocally : Claims.DmMoveCopiesLocally := by
  dsimp only [Claims.DmMoveCopiesLocally]
  intro t s e hl hs hu hfree hcheck hhits
  refine State.queued_starts hl hs ?_ ((Dev.checked_conflict_free (firstOf_pair hcheck ?_) ?_).trans ?_)
  · simpa only [hu, copyTx_own, if_true] using hfree
  · rw [hu, Dev.tileCheck_sameStand (Dev.sameStand_self _ _)]
  · simpa only [hu, decide_true] using hhits
  · simp only [hu, Dev.copyRows_lines_own, Dev.popped_dmOrd]

theorem dmMoveSendsALocalCopy : Claims.DmMoveSendsALocalCopy := by
  dsimp only [Claims.DmMoveSendsALocalCopy]
  intro t s e hl hs hu hn hstand hfree hcheck
  have hline : 64 ≤ fld e.word 0 6 * 64 := by omega
  refine State.queued_starts hl hs ?_ ((Dev.checked_conflict_free (firstOf_pair hcheck ?_) ?_).trans ?_)
  · simpa only [if_neg hu, copyTx_away hu] using hfree
  · exact Dev.tileCheck_sameStand hstand
  · rw [decide_eq_false hu, selfHits_copyUse_away]
  · simp only [Dev.copyRows_lines_away _ _ _ _ hu hline, Dev.popped_dmOrd]

theorem dmMoveHonoursTheStand : Claims.DmMoveHonoursTheStand := by
  dsimp only [Claims.DmMoveHonoursTheStand]
  intro t s e hl hs hu hstand hfree hcheck
  refine State.queued_starts hl hs ?_ (Dev.checked_fails (firstOf_second hcheck (Dev.tileCheck_otherStand hstand)))
  simpa only [if_neg hu, copyTx_away hu] using hfree

theorem dmMoveRdRequests : Claims.DmMoveRdRequests := by
  dsimp only [Claims.DmMoveRdRequests]
  intro t s e hl hs hstand hfree hcheck
  refine State.queued_starts hl hs hfree ((Dev.checked_passes (firstOf_pair hcheck (Dev.tileCheck_sameStand hstand))).trans ?_)
  rw [Dev.popped_dmOrd]

theorem dmMoveDsRequests : Claims.DmMoveDsRequests := by
  dsimp only [Claims.DmMoveDsRequests]
  intro t s e hl hs hfree hcheck hdram
  refine State.queued_starts hl hs hfree ((Dev.checked_passes (firstOf_pair hcheck hdram)).trans ?_)
  rw [Dev.popped_dmOrd]

theorem dmMoveSdSends : Claims.DmMoveSdSends := by
  dsimp only [Claims.DmMoveSdSends]
  intro t s e hl hs hfree hcheck hdram
  refine State.queued_starts hl hs hfree ((Dev.checked_conflict_free (firstOf_pair hcheck hdram) rfl).trans ?_)
  simp only [Option.isSome_none, Bool.false_eq_true, if_false, Dev.popped_dmOrd]

theorem dramChecksHalt : Claims.DramChecksHalt := by
  dsimp only [Claims.DramChecksHalt]
  intro t s e code hl hcheck
  exact ⟨fun hs hfree hdram => State.queued_starts hl hs hfree (Dev.checked_fails (firstOf_second hcheck hdram)),
    fun hs hfree hdram => State.queued_starts hl hs hfree (Dev.checked_fails (firstOf_second hcheck hdram))⟩

/-! ## Gathers (R91, R128) -/

theorem dmMoveGGathers : Claims.DmMoveGGathers := by
  dsimp only [Claims.DmMoveGGathers]
  intro t s e hl hs hfree hcheck hwin hdram
  have hcnt : ((s.dev.popped t 0x64).tile t).p = (s.dev.tile t).p := Dev.popped_tile_p _ _ _
  refine State.queued_starts hl hs hfree ?_
  simp only [hcnt]
  refine (Dev.checked_passes hcheck).trans ((Dev.checked_conflict_free (firstOf_pair ?_ (gatherCheck_inside hwin)) rfl).trans ?_)
  · by_cases hlen : grpAt e.word e.ix 2 = 0
    · rw [if_pos hlen]
    · rw [if_neg hlen]
      refine worst_eq_none fun c hc => ?_
      obtain ⟨i, hi, rfl⟩ := List.mem_map.mp hc
      exact hdram i ((List.mem_filter.mp hi).1) hlen
  · simp only [Dev.popped_dmOrd, Dev.popped_listEntries]

theorem gatherRangeHalts : Claims.GatherRangeHalts := by
  dsimp only [Claims.GatherRangeHalts]
  intro t s e hl hs hreg hlen hfree hcheck hout
  refine State.queued_starts hl hs ?_ ?_
  · simpa only [if_pos hreg, hlen, Nat.mul_zero, Nat.zero_mul] using hfree
  · simp only [if_pos hreg, hlen, Nat.mul_zero, Nat.zero_mul]
    exact (Dev.checked_passes hcheck).trans (Dev.checked_fails (firstOf_second rfl (gatherCheck_outside hout)))

theorem dmStrideCopies : Claims.DmStrideCopies := by
  dsimp only [Claims.DmStrideCopies]
  intro t s e hl hs hfree hstand hcheck hhits
  refine State.queued_starts hl hs hfree
    ((Dev.checked_conflict_free (firstOf_pair hcheck (Dev.tileCheck_sameStand hstand)) hhits).trans ?_)
  simp only [Dev.popped_dmOrd]

theorem dmStrideGGathers : Claims.DmStrideGGathers := by
  dsimp only [Claims.DmStrideGGathers]
  intro t s e hl hs hfree hstand hcheck hwin hsrc hhits
  refine State.queued_starts hl hs hfree ((Dev.checked_passes hcheck).trans ((Dev.checked_conflict_free ?_ hhits).trans ?_))
  · have hall := List.filter_eq_self.mpr fun i hi => decide_eq_true (hwin i hi)
    rw [Dev.popped_listEntries, hall, hsrc]
    exact firstOf_pair (Dev.tileCheck_sameStand hstand) (gatherCheck_inside hwin)
  · simp only [Option.map_none, Dev.popped_dmOrd, Dev.popped_listEntries]

/-! ## Transpose (R152) -/

theorem dmXposeTransposes : Claims.DmXposeTransposes := by
  dsimp only [Claims.DmXposeTransposes]
  intro t s e hl hs hu hfree hcheck hhits
  refine State.queued_starts hl hs ?_ ((Dev.checked_conflict_free (firstOf_pair hcheck ?_) ?_).trans ?_)
  · simpa only [hu, copyTx_own, if_true] using hfree
  · rw [hu, Dev.tileCheck_sameStand (Dev.sameStand_self _ _)]
  · simpa only [hu, decide_true] using hhits
  · simp only [hu, if_true, before, Dev.popped_dmOrd]

theorem dmXposeSends : Claims.DmXposeSends := by
  dsimp only [Claims.DmXposeSends]
  intro t s e hl hs hu hstand hfree hcheck
  refine State.queued_starts hl hs ?_ ((Dev.checked_conflict_free (firstOf_pair hcheck ?_) ?_).trans ?_)
  · simpa only [if_neg hu, copyTx_away hu] using hfree
  · exact Dev.tileCheck_sameStand hstand
  · rw [decide_eq_false hu, selfHits_xposeUse_away]
  · simp only [if_neg hu, Option.isSome_none, Bool.false_eq_true, if_false, Dev.popped_dmOrd]

/-! ## Multicast and forwarding (R129, R130) -/

theorem dmMcastSends : Claims.DmMcastSends := by
  dsimp only [Claims.DmMcastSends]
  intro t s e hl hs hcount hfree hcheck
  refine State.queued_starts hl hs ?_ ((Dev.checked_conflict_free hcheck rfl).trans ?_)
  · rw [mcTx, if_neg hcount]
    exact hfree
  · simp only [Option.isSome_none, Bool.false_eq_true, if_false, if_neg hcount, Dev.popped_dmOrd]
    rfl

theorem dmFwdForwards : Claims.DmFwdForwards := by
  dsimp only [Claims.DmFwdForwards]
  intro t s e hl hs hcount hn hfree hcheck
  refine State.queued_starts hl hs ?_ ((Dev.checked_conflict_free hcheck rfl).trans ?_)
  · rw [mcTx, if_neg hcount]
    exact hfree
  · simp only [Option.isSome_none, Bool.false_eq_true, if_false, if_neg hcount, if_neg hn, Dev.popped_dmOrd]
    rfl

/-! ## Requests to the codec and to the prefetcher (R131, R132) -/

/-- The start check of the scratchpad operand: of the bytes to encode, or of the place where the decoded blocks begin (R110, R131). -/
theorem codecSpadCheck_eq_none {enc : Bool} {sa n : Nat}
    (h : if enc = true then spCheck 64 [(sa, n)] = none else sa % 64 = 0 ∧ (n = 0 ∨ sa < 524288)) :
    (if enc = true then spCheck 64 [(sa, n)] else if sa % 64 ≠ 0 then some 0x1004 else if n ≠ 0 ∧ 524288 ≤ sa then some 0x1005 else none) =
      none := by
  cases enc with
  | true => simpa using h
  | false =>
    obtain ⟨halign, hrange⟩ : sa % 64 = 0 ∧ (n = 0 ∨ sa < 524288) := by simpa using h
    rw [if_neg Bool.false_ne_true, if_neg (not_not_intro halign), if_neg (by omega)]

theorem dmCodecCommands : Claims.DmCodecCommands := by
  dsimp only [Claims.DmCodecCommands]
  intro t s e hl hs hfree hspad hstand hplace
  have hworst : worst ((codecAddrs (bit e.word 43) (grpAt e.word e.ix 0) (grpAt e.word e.ix 2) (grpAt e.word e.ix 3)).map
      ((s.dev.popped t 0x6C).codecAt t (bit e.word 43))) = none := worst_eq_none (List.forall_mem_map.mpr hplace)
  have hstart := codecSpadCheck_eq_none (enc := bit e.word 43) hspad
  refine State.queued_starts hl hs hfree ((Dev.checked_conflict_free ?_ rfl).trans ?_)
  · rw [hstart, hworst, Dev.tileCheck_sameStand (d := s.dev.popped t 0x6C) hstand, ite_self]
    rfl
  · simp only [Dev.popped_dmOrd, Dev.popped_tile_cur]
    rfl

theorem dmPrefCommands : Claims.DmPrefCommands := by
  dsimp only [Claims.DmPrefCommands]
  intro t s e x hl hs hx hfree hcnt
  refine State.queued_starts hl hs ?_ ?_
  · rw [if_neg hcnt]
    exact hfree
  · simp only [Dev.popped_instOf, hx, if_neg hcnt]
    by_cases hover : x.planLen < 32 * (fld e.word 28 16 + fld e.word 16 12)
    · rw [if_pos hover]
      exact Dev.checked_fails (if_pos ⟨hcnt, hover⟩)
    · have hwithin : ¬ (fld e.word 16 12 ≠ 0 ∧ x.planLen < 32 * (fld e.word 28 16 + fld e.word 16 12)) := fun h => hover h.2
      rw [if_neg hover, Dev.checked_passes (if_neg hwithin), Dev.popped_tile_cur]
      rfl

/-! ## Instructions with nothing to send (R129, R130, R132) -/

/-- A multicast to no tile leaves the sender's own scratchpad. -/
theorem ownLand_empty (t : Nat) (col : Bool) {o : McOps} (h : o.count = 0) : ownLand t col o = ([], 0) :=
  if_neg (by simp [mcTiles, h])

theorem emptyDmInstructionsComplete : Claims.EmptyDmInstructionsComplete := by
  intro t s e x hl
  refine ⟨fun hs hx hfree hcnt => ?pref, fun hs hcount hfree hcheck => ?mcast, fun hs hcount hfree hcheck => ?fwd⟩
  case pref =>
    refine State.queued_starts hl hs ?_ ?_
    · rw [if_pos hcnt]
      exact hfree
    · have hwithin : ¬ (fld e.word 16 12 ≠ 0 ∧ x.planLen < 32 * (fld e.word 28 16 + fld e.word 16 12)) := fun h => h.1 hcnt
      simp only [Dev.popped_instOf, hx, if_pos hcnt]
      rw [Dev.checked_passes (if_neg hwithin), Dev.popped_dmOrd]
  case mcast =>
    refine State.queued_starts hl hs ?_ ((Dev.checked_conflict_free hcheck rfl).trans ?_)
    · rw [mcTx, if_pos hcount, mcWr, ownLand_empty _ _ hcount]
      exact hfree
    · simp only [Option.isSome_none, Bool.false_eq_true, if_false, if_pos hcount, ownLand_empty _ _ hcount, Dev.popped_dmOrd]
      rfl
  case fwd =>
    refine State.queued_starts hl hs ?_ ((Dev.checked_conflict_free hcheck rfl).trans ?_)
    · rw [mcTx, if_pos hcount, mcWr, ownLand_empty _ _ hcount]
      exact hfree
    · simp only [Option.isSome_none, Bool.false_eq_true, if_false, if_pos hcount, ownLand_empty _ _ hcount, Dev.popped_dmOrd]
      rfl

/-! ## The statement -/

/-- Settles O21: each start leaves its queue, passes or fails the checks of R110 and R133, meets no conflict, and has its effect. -/
theorem dataMovementInstructionsComplete : Obligations.DataMovementInstructionsComplete :=
  ⟨dmMoveCopiesLocally, dmMoveSendsALocalCopy, dmMoveHonoursTheStand, dmMoveRdRequests, dmMoveDsRequests, dmMoveSdSends, dramChecksHalt,
    dmMoveGGathers, gatherRangeHalts, dmStrideCopies, dmStrideGGathers, dmXposeTransposes, dmXposeSends, dmMcastSends, dmFwdForwards,
    dmCodecCommands, dmPrefCommands, emptyDmInstructionsComplete⟩

end Sys2Proof.Machine
end

section
/-! PROOF. The sequencer (R92, R97 to R99, R114, R115, R140, R485): what one dispatch of a CT instruction does, by whether the tile may
dispatch, the fetch finds an error and the encoding is legal; and from that the statement SequencerInstructionsComplete. -/

namespace Sys2Proof.Machine

/-! ## Every row of dispatch is one call of Dev.dispatch -/

/-- A CT row is held back by nothing of its own. -/
theorem exec_ctRows (t : Fin 64) (ecc : SramEv) (s : State) :
    ∀ p ∈ ctRows t ecc, ∃ act, exec p.1 s = s.runDev fun d => d.dispatch t (fun o => decide (o = p.2)) ecc (fun _ _ => false) act := by
  simp only [ctRows, List.forall_mem_cons, List.not_mem_nil, false_implies, implies_true, and_true]
  and_intros
  all_goals exact ⟨_, rfl⟩

/-- A row of either kind is held back by a full queue at most (R78). -/
theorem exec_rows_dispatch (t : Fin 64) (ecc : SramEv) (s : State) :
    ∀ p ∈ ctRows t ecc ++ queuedRows t (.dispatch ecc), ∃ hold act,
      ((s.dev.queueOf t p.2).length < 16 → hold (s.dev.tile t) (s.dev.wordAt t) = false) ∧
      exec p.1 s = s.runDev fun d => d.dispatch t (fun o => decide (o = p.2)) ecc hold act := by
  intro p hp
  rcases List.mem_append.mp hp with hct | hqueued
  · obtain ⟨act, hexec⟩ := exec_ctRows t ecc s p hct
    exact ⟨_, act, fun _ => rfl, hexec⟩
  · refine ⟨_, _, fun hroom => ?_, exec_queuedRows_dispatch t ecc s p hqueued⟩
    exact Bool.and_eq_false_iff.mpr (.inr (decide_eq_false (Nat.not_le_of_lt hroom)))

/-! ## One dispatch (R78, R85, R99, R485) -/

section
variable {d : Dev} {t op : Nat} {is : Nat → Bool} {ecc : SramEv} {hold : TileSt → Word64 → Bool} {act : Dev → TileSt → Word64 → Dev}

/-- A tile that may not dispatch, or whose next word is of another opcode, leaves the core. -/
theorem Dev.dispatch_other (h : d.canDispatch t = false ∨ is (opOf (d.wordAt t)) = false) : d.dispatch t is ecc hold act = d := by
  have hstay : (!d.canDispatch t || !is (opOf (d.wordAt t))) = true := by rcases h with h | h <;> simp [h]
  exact if_pos hstay

/-- A word that is fetched clean and is an illegal encoding halts what the tile runs. -/
theorem Dev.dispatch_illegal (hcan : d.canDispatch t = true) (his : is (opOf (d.wordAt t)) = true)
    (hbad : (badEnc (d.wordAt t) t || badLoop (d.wordAt t) (d.tile t).pc (d.tile t).loops) = true) :
    d.dispatch t is .clean hold act = d.haltTile t 0x1001 (some (d.tile t).pc) := by
  have hgo : ¬ (!d.canDispatch t || !is (opOf (d.wordAt t))) = true := by simp [hcan, his]
  have hpass : ¬ (!(badEnc (d.wordAt t) t || badLoop (d.wordAt t) (d.tile t).pc (d.tile t).loops) &&
      (hold (d.tile t) (d.wordAt t) || (readsIx (d.wordAt t)).any (fun r => (d.tile t).pendIx.contains r))) = true := by simp [hbad]
  exact (if_neg hgo).trans ((if_neg hpass).trans (if_pos hbad))

/-- Nothing holds a legal instruction that dispatches and that its row does not hold. -/
theorem Dev.dispatches_gate (h : d.dispatches t op = true) (hfree : hold (d.tile t) (d.wordAt t) = false) :
    ¬ (!d.canDispatch t || !decide (opOf (d.wordAt t) = op)) = true ∧
    ¬ (!(badEnc (d.wordAt t) t || badLoop (d.wordAt t) (d.tile t).pc (d.tile t).loops) &&
      (hold (d.tile t) (d.wordAt t) || (readsIx (d.wordAt t)).any (fun r => (d.tile t).pendIx.contains r))) = true ∧
    ¬ (badEnc (d.wordAt t) t || badLoop (d.wordAt t) (d.tile t).pc (d.tile t).loops) = true := by
  obtain ⟨hcan, hop, henc, hloop, hix⟩ := (d.dispatches_iff t op).mp h
  refine ⟨by simp [hcan, hop], ?_, by simp [henc, hloop]⟩
  rw [hfree, hix]
  simp

/-- An uncorrectable error of the word fetched halts what the tile runs, and its image is no longer resident. -/
theorem Dev.dispatch_fetchError (h : d.dispatches t op = true) (hfree : hold (d.tile t) (d.wordAt t) = false) :
    d.dispatch t (fun o => decide (o = op)) .uncorrectable hold act = (d.evict t).haltTile t 0x1011 (some (d.tile t).pc) := by
  obtain ⟨hgo, hpass, -⟩ := Dev.dispatches_gate h hfree
  exact (if_neg hgo).trans (if_neg hpass)

/-- A word that can be read has its effect, once a corrected event of the read is noted. -/
theorem Dev.dispatch_acts_eccNoted (h : d.dispatches t op = true) (hfree : hold (d.tile t) (d.wordAt t) = false) (hecc : ecc ≠ .uncorrectable) :
    d.dispatch t (fun o => decide (o = op)) ecc hold act = (act (d.eccNoted t ecc) (d.tile t) (d.wordAt t)).settle t := by
  obtain ⟨hgo, hpass, hlegal⟩ := Dev.dispatches_gate h hfree
  cases ecc with
  | clean => exact (if_neg hgo).trans ((if_neg hpass).trans (if_neg hlegal))
  | corrected => exact (if_neg hgo).trans ((if_neg hpass).trans (if_neg hlegal))
  | uncorrectable => exact absurd rfl hecc

end

/-! ## What noting a corrected event leaves (R485, R486) -/

/-- Of two ways that both leave the tiles and the tick unit, the one taken does. -/
theorem Dev.ite_tiles_tick {d a b : Dev} {c : Prop} [Decidable c] (ha : a.tiles = d.tiles ∧ a.tick = d.tick)
    (hb : b.tiles = d.tiles ∧ b.tick = d.tick) : (if c then a else b).tiles = d.tiles ∧ (if c then a else b).tick = d.tick := by
  by_cases hc : c
  · rw [if_pos hc]
    exact ha
  · rw [if_neg hc]
    exact hb

theorem Dev.upstream_tiles_tick (d : Dev) (q : Nat) (x : UpTlp) : (d.upstream q x).tiles = d.tiles ∧ (d.upstream q x).tick = d.tick :=
  Dev.ite_tiles_tick ⟨rfl, rfl⟩ ⟨rfl, rfl⟩

theorem Dev.msi_tiles_tick (d : Dev) (q fn v : Nat) : (d.msi q fn v).tiles = d.tiles ∧ (d.msi q fn v).tick = d.tick :=
  Dev.ite_tiles_tick ⟨rfl, rfl⟩ (Dev.ite_tiles_tick ⟨rfl, rfl⟩ (d.upstream_tiles_tick q (.msi fn v)))

theorem Dev.countErr_tiles_tick (d : Dev) (code sev : Nat) : (d.countErr code sev).tiles = d.tiles ∧ (d.countErr code sev).tick = d.tick :=
  Dev.ite_tiles_tick ⟨rfl, rfl⟩ (Dev.ite_tiles_tick ⟨rfl, rfl⟩ ⟨rfl, rfl⟩)

theorem Dev.writeLog_tiles_tick (d : Dev) (code sev : Nat) (e : ErrAt) :
    (d.writeLog code sev e).tiles = d.tiles ∧ (d.writeLog code sev e).tick = d.tick :=
  Dev.ite_tiles_tick ⟨rfl, rfl⟩ (Dev.ite_tiles_tick (Dev.msi_tiles_tick _ _ _ _) ⟨rfl, rfl⟩)

/-- A log entry touches no tile and nothing of the tick unit. -/
theorem Dev.logSev_tiles_tick (d : Dev) (code sev : Nat) (e : ErrAt) :
    (d.logSev code sev e).tiles = d.tiles ∧ (d.logSev code sev e).tick = d.tick := by
  obtain ⟨htiles, htick⟩ := (d.countErr code sev).writeLog_tiles_tick code sev e
  obtain ⟨htiles', htick'⟩ := d.countErr_tiles_tick code sev
  exact ⟨htiles.trans htiles', htick.trans htick'⟩

/-- A rate-limited event is marked at most, in the tick unit and outside the running table. -/
theorem Dev.once_cases (d : Dev) (key : Nat × Nat) :
    d.once key = (false, d) ∨ ∃ d', d.once key = (true, d') ∧ d'.tiles = d.tiles ∧ d'.tick.cur = d.tick.cur := by
  by_cases hseen : d.tick.onced.contains key = true
  · exact .inl (if_pos hseen)
  · exact .inr ⟨_, if_neg hseen, rfl, rfl⟩

/-- A corrected event touches no tile and leaves the running table. -/
theorem Dev.sramCe_tiles_cur (d : Dev) (node : Nat) : (d.sramCe node).tiles = d.tiles ∧ (d.sramCe node).tick.cur = d.tick.cur := by
  rcases (d.incReg Reg.ERR_SRAM_CE 1).once_cases (0x1010, 0) with honce | ⟨d', honce, htiles, hcur⟩
  · simp only [Dev.sramCe, Dev.logOnce, honce]
    exact ⟨rfl, rfl⟩
  · simp only [Dev.sramCe, Dev.logOnce, honce, if_true]
    obtain ⟨htiles', htick⟩ := d'.logSev_tiles_tick 0x1010 (sevOf 0x1010) (atNode node)
    exact ⟨htiles'.trans htiles, (congrArg TickSt.cur htick).trans hcur⟩

@[simp] theorem Dev.eccNoted_tile (d : Dev) (t u : Nat) (ecc : SramEv) : (d.eccNoted t ecc).tile u = d.tile u := by
  unfold Dev.eccNoted
  split
  · exact congrArg (tabGet _ · u) (d.sramCe_tiles_cur (tileLog t)).1
  · rfl

@[simp] theorem Dev.eccNoted_tick_cur (d : Dev) (t : Nat) (ecc : SramEv) : (d.eccNoted t ecc).tick.cur = d.tick.cur := by
  unfold Dev.eccNoted
  split
  · exact (d.sramCe_tiles_cur (tileLog t)).2
  · rfl

@[simp] theorem Dev.eccNoted_instOf (d : Dev) (t u : Nat) (ecc : SramEv) : (d.eccNoted t ecc).instOf u = d.instOf u := by
  rw [Dev.instOf, Dev.eccNoted_tile, Dev.eccNoted_tick_cur, Dev.instOf]

/-! ## Changes of one tile's record -/

/-- The core is as `d`, but that the record of tile `t` is `ts`. -/
def Dev.TileOnly (d : Dev) (t : Nat) (ts : TileSt) (d' : Dev) : Prop :=
  d'.tile t = ts ∧ (∀ u, u ≠ t → d'.tile u = d.tile u) ∧ d' = { d with tiles := d'.tiles }

/-- Changing the record of the tile once more. -/
theorem Dev.TileOnly.updTile {d d' : Dev} {t : Nat} {ts : TileSt} (h : d.TileOnly t ts d') (f : TileSt → TileSt) :
    d.TileOnly t (f ts) (d'.updTile t f) := by
  obtain ⟨htile, hother, hframe⟩ := h
  refine ⟨by rw [Dev.tile_updTile, if_pos rfl, htile], fun u hu => by rw [Dev.tile_updTile, if_neg hu, hother u hu], ?_⟩
  exact congrArg (fun e : Dev => { e with tiles := (d'.updTile t f).tiles }) hframe

theorem Dev.TileOnly.tile {d d' : Dev} {t : Nat} {ts : TileSt} (h : d.TileOnly t ts d') : d'.tile t = ts := h.1

/-- Noting a corrected event leaves every record as it is. -/
theorem Dev.eccNoted_tileOnly (d : Dev) (t : Nat) (ecc : SramEv) : (d.eccNoted t ecc).TileOnly t (d.tile t) (d.eccNoted t ecc) :=
  ⟨d.eccNoted_tile t t ecc, fun _ _ => rfl, rfl⟩

theorem Dev.TileOnly.becomes {s : State} {d : Dev} {t : Nat} {ts : TileSt} (h : s.dev.TileOnly t ts d) :
    s.TileBecomes t ts { s with dev := d.settle t } := by
  obtain ⟨htile, hother, hframe⟩ := h
  exact ⟨d, rfl, htile, hother, hframe⟩

/-! ## What a CT row does (R88, R114) -/

/-- A record has the fragment and the image of another. -/
def TileSt.SameImage (ts ts' : TileSt) : Prop := ts.cur = ts'.cur ∧ ts.imgBase = ts'.imgBase ∧ ts.imgLen = ts'.imgLen

section
variable {s : State} {t n op : Nat} {ecc : SramEv} {c : Instr} {ts : TileSt} {act : Dev → TileSt → Word64 → Dev}

/-- A CT row whose effect is on the record of its tile alone. -/
theorem State.ctRow_becomes (hexec : exec c s = s.runDev fun d => d.dispatch t (fun o => decide (o = op)) ecc (fun _ _ => false) act)
    (hl : s.live = true) (hecc : ecc ≠ .uncorrectable) (hd : s.dev.dispatches t op = true)
    (hact : (s.dev.eccNoted t ecc).TileOnly t ts (act (s.dev.eccNoted t ecc) (s.dev.tile t) (s.dev.wordAt t))) :
    ∃ s', exec c s = .next s' ∧ (s.onDev (·.eccNoted t ecc)).TileBecomes t ts s' := by
  refine ⟨_, ?_, Dev.TileOnly.becomes (s := s.onDev (·.eccNoted t ecc)) hact⟩
  rw [hexec, State.runDev_live _ hl, State.onDev, Dev.dispatch_acts_eccNoted hd rfl hecc]
  rfl

/-- The PC of a tile that dispatches moves on within its image, whatever else its record has become. -/
theorem Dev.dispatches_advance {d d' : Dev} (hd : d.dispatches t op = true) (himg : d.inImage t n = true)
    (hsame : (d'.tile t).SameImage (d.tile t)) : d'.advance t n = d'.updTile t (fun ts => { ts with pc := n }) := by
  obtain ⟨hcur, hbase, hlen⟩ := hsame
  have hrun : ¬ (d'.tile t).cur.isNone = true := by
    rw [hcur]
    simpa [Option.isSome_iff_ne_none] using Dev.cur_isSome_of_dispatches hd
  have hin : (d'.tile t).imgBase ≤ n ∧ n < (d'.tile t).imgBase + (d'.tile t).imgLen := by
    rw [hbase, hlen]
    exact (d.inImage_iff t n).mp himg
  exact (if_neg hrun).trans (if_pos hin)

/-- So where nothing but its record has changed. -/
theorem Dev.TileOnly.advance {d d₀ d' : Dev} (h : d₀.TileOnly t ts d') (hd : d.dispatches t op = true) (himg : d.inImage t n = true)
    (hsame : ts.SameImage (d.tile t)) : d₀.TileOnly t { ts with pc := n } (d'.advance t n) := by
  rw [Dev.dispatches_advance hd himg (by rwa [h.tile])]
  exact h.updTile _

end

/-- A CT instruction without a flow of its own: its index registers, and the next word. -/
theorem State.ixRow_becomes {s : State} {t op : Nat} {ecc : SramEv} {c : Instr} {f : Dev → TileSt → Word64 → List Word}
    (hexec : exec c s = s.runDev fun d => d.ctRow t op ecc f) (hl : s.live = true) (hecc : ecc ≠ .uncorrectable)
    (hd : s.dev.dispatches t op = true) (himg : s.dev.inImage t ((s.dev.tile t).pc + 1) = true) :
    ∃ s', exec c s = .next s' ∧ (s.onDev (·.eccNoted t ecc)).TileBecomes t
      { s.dev.tile t with
        pc := (s.dev.tile t).pc + 1
        ix := if s.dev.predAt t then f (s.dev.eccNoted t ecc) (s.dev.tile t) (s.dev.wordAt t) else (s.dev.tile t).ix } s' := by
  refine State.ctRow_becomes hexec hl hecc hd ?_
  have hrecord := s.dev.eccNoted_tileOnly t ecc
  by_cases hpred : s.dev.predAt t = true
  · have hholds : predHolds (s.dev.wordAt t) (s.dev.tile t).ix (s.dev.tile t).p = true := hpred
    simp only [hpred, hholds, if_true]
    exact (hrecord.updTile _).advance hd himg ⟨rfl, rfl, rfl⟩
  · have hfails : ¬ predHolds (s.dev.wordAt t) (s.dev.tile t).ix (s.dev.tile t).p = true := hpred
    simp only [if_neg hpred, if_neg hfails]
    exact hrecord.advance hd himg ⟨rfl, rfl, rfl⟩

/-! ## The clauses of the sequencer -/

theorem otherOpcodeChangesNothing : Claims.OtherOpcodeChangesNothing := by
  intro t ecc s p hp hother
  obtain ⟨act, hexec⟩ := exec_ctRows t ecc s p hp
  rw [hexec]
  cases hl : s.live with
  | false => exact State.runDev_dead _ hl
  | true => rw [State.runDev_live _ hl, State.onDev, Dev.dispatch_other (hother.imp_right decide_eq_false)]

theorem fetchErrorHalts : Claims.FetchErrorHalts := by
  intro t s hl p hp hd hroom
  obtain ⟨hold, act, hfree, hexec⟩ := exec_rows_dispatch t .uncorrectable s p hp
  rw [hexec, State.runDev_live _ hl, State.onDev, Dev.dispatch_fetchError hd (hfree hroom)]
  rfl

theorem illegalEncodingHalts : Claims.IllegalEncodingHalts := by
  intro t s hl p hp hcan hop hbad
  obtain ⟨hold, act, -, hexec⟩ := exec_rows_dispatch t .clean s p hp
  rw [hexec, State.runDev_live _ hl, State.onDev, Dev.dispatch_illegal hcan (decide_eq_true hop) hbad]
  rfl

/-- An unassigned opcode is an illegal encoding (R140). -/
theorem badEnc_unassigned {w : Word64} (t : Nat) (h : opAssigned (opOf w) = false) : badEnc w t = true := by
  simp [badEnc, h]

theorem unassignedOpcodeHalts : Claims.UnassignedOpcodeHalts := by
  intro t s hl hcan hop
  have hbad : (badEnc (s.dev.wordAt t) t || badLoop (s.dev.wordAt t) (s.dev.tile t).pc (s.dev.tile t).loops) = true :=
    Bool.or_eq_true_iff.mpr (.inl (badEnc_unassigned t hop))
  calc exec (.unassignedOpcode t .clean) s
      = s.runDev fun d => d.dispatch t (fun o => !opAssigned o) .clean (fun _ _ => false) fun d _ _ => d := rfl
    _ = _ := by
      rw [State.runDev_live _ hl, State.onDev, Dev.dispatch_illegal hcan (by rw [hop]; rfl) hbad]
      rfl

theorem nopAdvances : Claims.NopAdvances := by
  intro t ecc s hl hecc hd himg
  simpa only [ite_self] using State.ixRow_becomes (c := .nopOp t ecc) rfl hl hecc hd himg

theorem indexInstructionsWrite : Claims.IndexInstructionsWrite := by
  intro t ecc s c op v hl hecc hrow hd himg
  rcases hrow with ⟨rfl, rfl, rfl⟩ | ⟨rfl, rfl, rfl⟩ | ⟨rfl, rfl, rfl⟩ | ⟨rfl, rfl, rfl⟩
  · exact (State.ixRow_becomes (c := .ixSet t ecc) rfl hl hecc hd himg :)
  · exact (State.ixRow_becomes (c := .ixAdd t ecc) rfl hl hecc hd himg :)
  · exact (State.ixRow_becomes (c := .ixMov t ecc) rfl hl hecc hd himg :)
  · exact (State.ixRow_becomes (c := .ixMadd t ecc) rfl hl hecc hd himg :)

/-- What a tile runs is flagged as outside the guarantee in its entry of the running table (R102). -/
theorem Dev.flagOutside_inst {d : Dev} {t i : Nat} {x : Inst} (hcur : (d.tile t).cur = some i) (hx : d.tick.cur[i]? = some x) :
    d.flagOutside t = d.setInst i { x with outside := true } := by
  simp only [Dev.flagOutside, hcur, hx]

@[simp] theorem Dev.tile_setInst (d : Dev) (i u : Nat) (x : Inst) : (d.setInst i x).tile u = d.tile u := rfl

theorem rdclkWrites : Claims.RdclkWrites := by
  intro t s i x hl hd hpred himg hcur hx
  have hholds : predHolds (s.dev.wordAt t) (s.dev.tile t).ix (s.dev.tile t).p = true := hpred
  have hflag (f : TileSt → TileSt) (hf : (f (s.dev.tile t)).cur = (s.dev.tile t).cur) :
      (s.dev.updTile t f).flagOutside t = (s.dev.updTile t f).setInst i { x with outside := true } :=
    Dev.flagOutside_inst (by rw [Dev.tile_updTile, if_pos rfl, hf, hcur]) hx
  refine (State.runDev_live _ hl).trans ?_
  rw [State.onDev, Dev.dispatch_acts hd rfl]
  simp only [hholds, if_true]
  rw [hflag _ rfl, Dev.dispatches_advance hd himg]
  · rfl
  · rw [Dev.tile_setInst, Dev.tile_updTile, if_pos rfl]
    exact ⟨rfl, rfl, rfl⟩

theorem loopEntersOrSkips : Claims.LoopEntersOrSkips := by
  intro t ecc s hl hecc hd w ts n last himg
  exact (State.ctRow_becomes (c := .loopOp t ecc) rfl hl hecc hd
    (((s.dev.eccNoted_tileOnly t ecc).updTile _).advance hd himg ⟨rfl, rfl, rfl⟩) :)

theorem endloopRepeatsOrLeaves : Claims.EndloopRepeatsOrLeaves := by
  intro t ecc s f outer hl hecc hd hloops ts v himg
  refine State.ctRow_becomes (c := .endloop t ecc) rfl hl hecc hd ?_
  simp only [hloops]
  exact ((s.dev.eccNoted_tileOnly t ecc).updTile _).advance hd himg ⟨rfl, rfl, rfl⟩

theorem tickwaitWaits : Claims.TickwaitWaits := by
  intro t ecc s x hl hecc hd himg hx hmask
  refine State.ctRow_becomes (c := .tickwait t ecc) rfl hl hecc hd ?_
  simp only [Dev.eccNoted_instOf, hx, decide_eq_false hmask, Bool.false_and, Bool.false_eq_true, if_false]
  exact ((s.dev.eccNoted_tileOnly t ecc).updTile _).advance hd himg ⟨rfl, rfl, rfl⟩

theorem tickwaitAlignReleases : Claims.TickwaitAlignReleases := by
  intro i x s hl hx haligned
  refine (State.runDev_live _ hl).trans ?_
  simp only [State.onDev, hx, if_pos haligned]
  rfl

theorem endDrains : Claims.EndDrains := by
  intro t ecc s hl hecc hd
  exact (State.ctRow_becomes (c := .endOp t ecc) rfl hl hecc hd ((s.dev.eccNoted_tileOnly t ecc).updTile _) :)

/-! ## The statement -/

/-- Settles O14: every row is one call of Dev.dispatch, whose effect is on the record of its tile. -/
theorem sequencerInstructionsComplete : Obligations.SequencerInstructionsComplete :=
  ⟨otherOpcodeChangesNothing, fetchErrorHalts, illegalEncodingHalts, unassignedOpcodeHalts, nopAdvances, indexInstructionsWrite, rdclkWrites,
    loopEntersOrSkips, endloopRepeatsOrLeaves, tickwaitWaits, tickwaitAlignReleases, endDrains⟩

end Sys2Proof.Machine
end

section
/-! PROOF. The matrix and vector streams (R110, R116 to R125, R148, R149): each instruction as the start of a queued one,
which passes or fails its checks and meets a conflict with itself or none; and from that the statement MatrixAndVectorInstructionsComplete. -/

namespace Sys2Proof.Machine

/-! ## What taking an instruction out of its queue leaves -/

@[simp] theorem Dev.popped_tile_block (d : Dev) (t op : Nat) : ((d.popped t op).tile t).block = (d.tile t).block := by simp [Dev.popped]
@[simp] theorem Dev.popped_tile_confHalt (d : Dev) (t op : Nat) : ((d.popped t op).tile t).confHalt = (d.tile t).confHalt := by
  simp [Dev.popped]
@[simp] theorem Dev.popped_tile_confSeen (d : Dev) (t op : Nat) : ((d.popped t op).tile t).confSeen = (d.tile t).confSeen := by
  simp [Dev.popped]

/-! ## The matrix stream (R116 to R119, R210) -/

/-- With its ramp over, the matrix stream holds nothing back. -/
theorem mxOk_of_released {t : Nat} {d : Dev} (e : QEntry) (h : (d.tile t).rampUntil = 0) : mxOk t d e = true := decide_eq_true h

theorem mxLdwLoads : Claims.MxLdwLoads := by
  intro t s e hl hs hramp hcheck
  exact State.queued_starts hl hs (mxOk_of_released e hramp) (Dev.checked_conflict_free hcheck rfl)

theorem mxMacAccumulates : Claims.MxMacAccumulates := by
  intro t s e b hl hs hramp hblock w af sa add hcheck hmac
  have hpopped : ((s.dev.popped t 0x21).tile t).block = some b := (s.dev.popped_tile_block t 0x21).trans hblock
  refine State.queued_starts hl hs (mxOk_of_released e hramp) ?_
  simp only [hpopped]
  exact Dev.checked_conflict_free (firstOf_pair hcheck hmac) rfl

theorem mxMacNeedsABlock : Claims.MxMacNeedsABlock := by
  intro t s e hl hs hramp hblock hcheck
  have hpopped : ((s.dev.popped t 0x21).tile t).block = none := (s.dev.popped_tile_block t 0x21).trans hblock
  refine State.queued_starts hl hs (mxOk_of_released e hramp) ?_
  simp only [hpopped]
  exact Dev.checked_fails (firstOf_second hcheck rfl)

theorem mxClrClears : Claims.MxClrClears := by
  intro t s e hl hs hramp
  exact State.queued_starts hl hs (mxOk_of_released e hramp) rfl

/-! ## Loads and stores of vector registers (R121, R161) -/

theorem vxLdLoads : Claims.VxLdLoads := by
  intro t s e hl hs f sa hcheck
  exact State.queued_starts hl hs rfl (Dev.checked_conflict_free hcheck rfl)

/-- A list cut into chunks that cover it is whole again. -/
theorem flatten_chunks {α : Type} {n k : Nat} {l : List α} (h : l.length ≤ k * n) : (chunks n k l).flatten = l := by
  induction k generalizing l with
  | zero =>
    have hnil : l = [] := List.length_eq_zero_iff.mp (by omega)
    rw [hnil]
    rfl
  | succ k ih =>
    have hrest : (l.drop n).length ≤ k * n := by
      rw [Nat.succ_mul] at h
      rw [List.length_drop]
      omega
    rw [chunks, List.flatten_cons, ih hrest, List.take_append_drop]

theorem length_flatMap_leBytes {α : Type} (n : Nat) (g : α → Nat) (xs : List α) :
    (xs.flatMap fun x => leBytes n (g x)).length = xs.length * n := by
  induction xs with
  | nil => exact (Nat.zero_mul n).symm
  | cons x xs ih => rw [List.flatMap_cons, List.length_append, length_leBytes, ih, List.length_cons, Nat.succ_mul, Nat.add_comm]

/-- A stored vector register fits the lines that its format takes (R121). -/
theorem length_vxStore_le (ftz : Bool) (f : Nat) {ls : List Word} (hls : ls.length = 64) :
    (vxStore ftz f ls).1.length ≤ vfmtBytes f / 64 * 64 := by
  match f with
  | 0 => exact Nat.le_of_eq ((length_flatMap_leBytes 4 _ ls).trans (by rw [hls]; rfl))
  | 1 => exact Nat.le_of_eq ((length_flatMap_leBytes 2 _ _).trans (by rw [List.length_map, hls]; rfl))
  | 2 => exact Nat.le_of_eq ((length_flatMap_leBytes 2 _ _).trans (by rw [List.length_map, hls]; rfl))
  | f + 3 =>
    have hlen : (vxStore ftz (f + 3) ls).1.length = 64 := by simp [vxStore, hls]
    rw [hlen, vfmtBytes, if_neg (by omega)]
    split <;> decide

theorem vxStStores : Claims.VxStStores := by
  intro t s e hl hs f sa r hcheck
  refine State.queued_starts hl hs rfl ((Dev.checked_conflict_free hcheck rfl).trans ?_)
  have hwhole : (chunks 64 (vfmtBytes f / 64) r.1).flatten = r.1 := flatten_chunks (length_vxStore_le _ f (length_tabGetList _ _ _ 64))
  exact congrArg (fun bs => (((s.dev.popped t 0x41).setSpad t sa bs).numStat t r.2).complete t 1) hwhole

/-! ## Results in vector registers (R122 to R124) -/

theorem vectorResultsAreWritten : Claims.VectorResultsAreWritten := by
  intro t s e c op v r hl hrow hs
  rcases hrow with ⟨rfl, rfl, rfl, rfl⟩ | ⟨rfl, rfl, rfl, rfl⟩ | ⟨rfl, rfl, rfl, rfl⟩ | ⟨rfl, rfl, rfl, rfl⟩ | ⟨rfl, rfl, rfl, rfl⟩
  · exact State.queued_starts hl hs rfl rfl
  · exact State.queued_starts hl hs rfl rfl
  · exact State.queued_starts hl hs rfl rfl
  · exact State.queued_starts hl hs rfl rfl
  · exact State.queued_starts hl hs rfl rfl

theorem sortsAreWritten : Claims.SortsAreWritten := by
  intro t s e hl w r k
  exact ⟨fun hs => State.queued_starts hl hs rfl rfl, fun hs => State.queued_starts hl hs rfl rfl⟩

/-! ## VX.DEQ (R125, R148, R149) -/

theorem vxDeqStores : Claims.VxDeqStores := by
  intro t s e hl hs w rows o dst scl hcheck hhits
  exact State.queued_starts hl hs rfl (Dev.checked_conflict_free hcheck hhits)

theorem Dev.incReg_spadBytes (d : Dev) (off k u a n : Nat) : (d.incReg off k).spadBytes u a n = d.spadBytes u a n := rfl

/-- Under DELAY, once a first conflict has been logged, an instruction's conflicts with itself are counted and it has its whole effect. -/
theorem Dev.conflict_delayed {d : Dev} {t pc i : Nat} {use : PortUse} {own : List Hit} {act : Dev → Option Nat → Dev}
    (hcur : (d.tile t).cur = some i) (hhalt : (d.tile t).confHalt = false) (hseen : (d.tile t).confSeen = true) (hown : own ≠ []) :
    d.conflict t pc use own none act = act (d.incReg (Reg.TL_CONFLICT_CNT t) own.length) none := by
  obtain ⟨h, rest, rfl⟩ := List.exists_cons_of_ne_nil hown
  simp only [Dev.conflict, firstHit, hcur, hhalt, hseen, if_true, Bool.false_eq_true, if_false, Nat.zero_add]

theorem vxDeqIsDelayed : Claims.VxDeqIsDelayed := by
  intro t s e i hl hs hcur hhalt hseen w rows o dst scl hits hcheck hhits
  refine State.queued_starts hl hs rfl ((Dev.checked_passes hcheck).trans ?_)
  refine (Dev.conflict_delayed (i := i) ?_ ?_ ?_ hhits).trans ?_
  · rwa [Dev.popped_tile_cur]
  · rwa [Dev.popped_tile_confHalt]
  · rwa [Dev.popped_tile_confSeen]
  · exact congrArg (fun bs => ((List.range rows).foldl (deqOne t (fld w 43 1) dst o (words bs))
      ((s.dev.popped t 0x49).incReg (Reg.TL_CONFLICT_CNT t) hits.length)).complete t 1) (Dev.incReg_spadBytes _ _ _ t scl 256)

/-! ## Failed checks (R110) -/

theorem scratchpadCheckHalts : Claims.ScratchpadCheckHalts := by
  intro t s e c op sa n code hl hrow hs hcheck
  rcases hrow with ⟨rfl, rfl, rfl, rfl, hramp⟩ | ⟨rfl, rfl, rfl, rfl⟩ | ⟨rfl, rfl, rfl, rfl⟩
  · exact State.queued_starts hl hs (mxOk_of_released e hramp) (Dev.checked_fails hcheck)
  · exact State.queued_starts hl hs rfl (Dev.checked_fails hcheck)
  · exact State.queued_starts hl hs rfl (Dev.checked_fails hcheck)

/-! ## The statement -/

/-- Settles O18: each start leaves its queue, passes or fails the checks of R110 and R117, meets its conflicts, and has its effect. -/
theorem matrixAndVectorInstructionsComplete : Obligations.MatrixAndVectorInstructionsComplete :=
  ⟨mxLdwLoads, mxMacAccumulates, mxMacNeedsABlock, mxClrClears, vxLdLoads, vxStStores, vectorResultsAreWritten, sortsAreWritten, vxDeqStores,
    vxDeqIsDelayed, scratchpadCheckHalts⟩

end Sys2Proof.Machine
end

section
/-! PROOF. The synchronisation stream (R133 to R139, R192, R195, R204, R233, R485): counter updates, waits and reads, fences
and barriers, each as the start of a queued instruction; and from that the statement SynchronisationInstructionsComplete. -/

namespace Sys2Proof.Machine

/-! ## When a SY instruction may start (R195) -/

theorem syIdle_of_nil {t : Nat} {d : Dev} (e : QEntry) (h : (d.tile t).syOps = []) : syIdle t d e = true := by
  rw [syIdle, h]
  rfl

theorem syAcked_of_nil {t : Nat} {d : Dev} (e : QEntry) (h : (d.tile t).syOps = []) (hacked : (d.tile t).unacked = 0) :
    syAcked t d e = true := by
  rw [syAcked, syIdle_of_nil e h, hacked]
  rfl

theorem syAcked_unacked {t : Nat} {d : Dev} (e : QEntry) (h : (d.tile t).unacked ≠ 0) : syAcked t d e = false := by
  rw [syAcked, decide_eq_false h, Bool.and_false]

/-- An instruction that its stream's own condition holds back leaves the core. -/
theorem Dev.start_held {d : Dev} {t op : Nat} {ecc : SramEv} {ok : Dev → QEntry → Bool} {act : Dev → QEntry → Dev}
    (hok : ∀ e, ok d e = false) : d.start t op ecc ok act = d := by
  cases hqueue : (d.tile t).queues.getD (streamOf op) [] with
  | nil => simp only [Dev.start, hqueue]
  | cons e rest => simp only [Dev.start, hqueue, hok, Bool.and_false, Bool.false_eq_true, if_false]

/-! ## What taking an instruction out of its queue leaves -/

theorem Dev.popped_tileTenant (d : Dev) (t op u : Nat) : (d.popped t op).tileTenant u = d.tileTenant u := rfl

@[simp] theorem Dev.popped_tile_txns (d : Dev) (t op : Nat) : ((d.popped t op).tile t).txns = (d.tile t).txns := by simp [Dev.popped]

@[simp] theorem Dev.popped_releaseCov (d : Dev) (t op : Nat) : (d.popped t op).releaseCov t = d.releaseCov t := by
  simp only [Dev.releaseCov, TileSt.covered, Dev.popped_tile_txns, Dev.popped_tile_comp]

/-! ## Counter updates (R133, R134, R192, R200) -/

/-- Each of the counter updates starts by one rule, which the type of its flit alone tells apart (R134). -/
theorem counterUpdate_starts {t : Fin 64} {s : State} {e : QEntry} {c : Instr} {op ty : Nat} {act : Dev → Dev} (hl : s.live = true)
    (hrow : (c = .scAdd t (.start .clean) ∧ op = 0x80 ∧ ty = tyCADD) ∨ (c = .scSet t (.start .clean) ∧ op = 0x81 ∧ ty = tyCSET) ∨
      (c = .scSignal t (.start .clean) ∧ op = 0x82 ∧ ty = tyCADD))
    (hs : s.dev.startsWith t op e = true) (hidle : (s.dev.tile t).syOps = [])
    (hact : (s.dev.popped t op).ctrUpdate t e ty = act (s.dev.popped t op)) : exec c s = .next (s.started t op act) := by
  rcases hrow with ⟨rfl, rfl, rfl⟩ | ⟨rfl, rfl, rfl⟩ | ⟨rfl, rfl, rfl⟩
  · exact State.queued_starts hl hs (syIdle_of_nil e hidle) hact
  · exact State.queued_starts hl hs (syIdle_of_nil e hidle) hact
  · exact State.queued_starts hl hs (syIdle_of_nil e hidle) hact

/-- The target of a counter update within the chip, and outside it. -/
theorem Dev.ctrTarget_chip {d : Dev} {t : Nat} {w : Word64} (h : w.getLsbD 43 = true) :
    d.ctrTarget t w = (d.tileCheck t (fld w 33 6), tileNode (fld w 33 6), fld w 33 6 * 2048 + fld w 22 11) := if_pos h

theorem Dev.ctrTarget_away {d : Dev} {t : Nat} {w : Word64} (h : w.getLsbD 43 = false) (hmulti : d.multi = false)
    (hchip : fld w 39 4 ≠ d.chipId) (hrole : bit (d.reg Reg.HT_ROLES) (fld w 39 4) = false) :
    d.ctrTarget t w =
      (none, portNode (if d.routeTo (fld w 39 4) < 4 then d.routeTo (fld w 39 4) else 0),
        fld w 39 4 * 2 ^ 17 + (fld w 33 6 * 2048 + fld w 22 11)) := by
  have hlocal : ¬ bit w 43 = true := Bool.eq_false_iff.mp h
  simp only [Dev.ctrTarget, if_neg hlocal, hmulti, hchip, hrole, Bool.false_eq_true, if_false, or_self]

theorem Dev.ctrUpdate_passes {d : Dev} {t ty a : Nat} {e : QEntry} {node : Node} (h : d.ctrTarget t e.word = (none, node, a)) :
    d.ctrUpdate t e ty = d.beginSy t (.hold e.pc (mkTag (tileNode t) node ty (d.tileTenant t) true 0 false 0 a) (scOperand e.word e.ix)
      (d.releaseCov t)) := by
  simp only [Dev.ctrUpdate, h, Dev.checked]

theorem counterUpdatesAreHeld : Claims.CounterUpdatesAreHeld := by
  intro t s e c op ty hl hrow hs hidle hchip hstand
  refine counterUpdate_starts hl hrow hs hidle ?_
  have htarget := Dev.ctrTarget_chip (d := s.dev.popped t op) (t := t) hchip
  rw [Dev.tileCheck_sameStand (d := s.dev.popped t op) hstand] at htarget
  rw [Dev.ctrUpdate_passes htarget, Dev.popped_releaseCov, Dev.popped_tileTenant]

theorem counterUpdateHonoursTheStand : Claims.CounterUpdateHonoursTheStand := by
  intro t s e hl hs hidle hchip hstand
  have htarget := Dev.ctrTarget_chip (d := s.dev.popped t 0x80) (t := t) hchip
  rw [Dev.tileCheck_otherStand (d := s.dev.popped t 0x80) hstand] at htarget
  refine State.queued_starts hl hs (syIdle_of_nil e hidle) ?_
  rw [Dev.ctrUpdate, htarget]
  rfl

theorem counterUpdatesOfAnotherChipAreHeld : Claims.CounterUpdatesOfAnotherChipAreHeld := by
  intro t s e c op ty hl hrow chip p hs hidle haway hmulti hchip hrole
  refine counterUpdate_starts hl hrow hs hidle ?_
  have htarget := Dev.ctrTarget_away (d := s.dev.popped t op) (t := t) haway hmulti hchip hrole
  rw [Dev.ctrUpdate_passes htarget, Dev.popped_releaseCov, Dev.popped_tileTenant]
  rfl

/-! ## Waits and reads of counters (R136, R137, R195, R233, R485) -/

theorem Dev.poisoned_clean {d : Dev} {t : Nat} {is : List Nat} (h : ∀ i ∈ is, d.ctrBad t i = false) : d.poisoned t is = none := by
  have hnone : ¬ is.any (d.ctrBad t) = true := by simpa using h
  exact if_neg hnone

theorem Dev.poisoned_one {d : Dev} {t i : Nat} (h : d.ctrBad t i = true) : d.poisoned t [i] = some 0x1011 := if_pos (by simp [h])

theorem scWaitWaits : Claims.ScWaitWaits := by
  intro t s e hl hs hidle i v hgood
  have hclean : (s.dev.popped t 0x83).poisoned t [i] = none := Dev.poisoned_clean (List.forall_mem_singleton.mpr hgood)
  exact State.queued_starts hl hs (syIdle_of_nil e hidle) (Dev.checked_passes hclean)

theorem scReadReads : Claims.ScReadReads := by
  intro t s e hl hs hidle hacked hgood
  have hclean : (s.dev.popped t 0x84).poisoned t [fld e.word 29 11] = none := Dev.poisoned_clean (List.forall_mem_singleton.mpr hgood)
  exact State.queued_starts hl hs (syAcked_of_nil e hidle hacked) (Dev.checked_passes hclean)

theorem poisonedCounterHalts : Claims.PoisonedCounterHalts := by
  intro t s e hl hidle
  refine ⟨fun hs hbad => ?wait, fun hs hacked hbad => ?read⟩
  case wait =>
    have hpoisoned : (s.dev.popped t 0x83).poisoned t [fld e.word 33 11] = some 0x1011 := Dev.poisoned_one hbad
    exact State.queued_starts hl hs (syIdle_of_nil e hidle) (Dev.checked_fails hpoisoned)
  case read =>
    have hpoisoned : (s.dev.popped t 0x84).poisoned t [fld e.word 29 11] = some 0x1011 := Dev.poisoned_one hbad
    exact State.queued_starts hl hs (syAcked_of_nil e hidle hacked) (Dev.checked_fails hpoisoned)

theorem waitAnyWaits : Claims.WaitAnyWaits := by
  intro t s e hl hs hidle hacked sa raw cs hcheck hconds
  have hclean : (s.dev.popped t 0x85).poisoned t (cs.map (·.1)) = none :=
    Dev.poisoned_clean (List.forall_mem_map.mpr (List.forall_mem_map.mpr fun n hn => (hconds n hn).2))
  have hzero : ¬ raw.any (fun n => decide (fldN n 12 20 ≠ 0)) = true := by
    simpa using fun n hn => (hconds n hn).1
  refine State.queued_starts hl hs (syAcked_of_nil e hidle hacked) (Dev.checked_passes (firstOf_eq_none ?_))
  simp only [List.forall_mem_cons, List.not_mem_nil, false_implies, implies_true, and_true]
  exact ⟨hcheck, if_neg hzero, hclean⟩

theorem counterReadersWaitForAcks : Claims.CounterReadersWaitForAcks := by
  intro t s hunacked
  have hheld (op : Nat) (act : Dev → QEntry → Dev) : (s.runDev fun d => d.queued t op (.start .clean) (syAcked t) act) = .next s := by
    cases hl : s.live with
    | false => exact State.runDev_dead _ hl
    | true => rw [State.runDev_live _ hl, State.onDev, Dev.queued, Dev.start_held fun e => syAcked_unacked e hunacked]
  exact ⟨hheld _ _, hheld _ _⟩

theorem metWaitsComplete : Claims.MetWaitsComplete := by
  intro t s pc i n r late eq v cs hl
  have hstep : exec (.waitConditionMet t) s = .next (s.onDev _) := State.runDev_live _ hl
  refine ⟨fun hop hgood => ?wait, fun hop => ?waitOpen, fun hop hgood => ?any, fun hop => ?anyOpen⟩
  case wait =>
    have hclean : s.dev.poisoned t [i] = none := Dev.poisoned_clean (List.forall_mem_singleton.mpr hgood)
    simp only [hstep, State.onDev, hop, Dev.checked_passes hclean, if_true]
  case waitOpen => simp only [hstep, State.onDev, hop, Bool.false_eq_true, if_false]
  case any =>
    have hclean : s.dev.poisoned t (cs.map (·.1)) = none := Dev.poisoned_clean (List.forall_mem_map.mpr hgood)
    simp only [hstep, State.onDev, hop, Dev.checked_passes hclean]
  case anyOpen => simp only [hstep, State.onDev, hop]

/-! ## Fences and barriers (R138, R139, R192, R204) -/

theorem fenceWaits : Claims.FenceWaits := by
  intro t s e hl hs hidle
  refine State.queued_starts hl hs (syIdle_of_nil e hidle) ?_
  rw [Dev.popped_releaseCov]

theorem barriersArriveAndWait : Claims.BarriersArriveAndWait := by
  intro t s e hl hidle slot ten k b g hdesc
  refine ⟨fun hs hroom => ?arrive, fun hs hsent => ?wait⟩
  case arrive =>
    refine State.queued_starts hl hs (syIdle_of_nil e hidle) ((Dev.checked_passes (firstOf_pair hdesc (if_neg (Nat.not_le_of_lt hroom)))).trans ?_)
    rw [Dev.popped_releaseCov]
    rfl
  case wait =>
    exact State.queued_starts hl hs (syIdle_of_nil e hidle) (Dev.checked_passes (firstOf_pair hdesc (if_neg hsent)))

theorem barrierOrderHalts : Claims.BarrierOrderHalts := by
  intro t s e hl hidle slot g hdesc
  refine ⟨fun hs hfull => ?arrive, fun hs hnone => ?wait⟩
  case arrive =>
    exact State.queued_starts hl hs (syIdle_of_nil e hidle) (Dev.checked_fails (firstOf_second hdesc (if_pos hfull)))
  case wait =>
    exact State.queued_starts hl hs (syIdle_of_nil e hidle) (Dev.checked_fails (firstOf_second hdesc (if_pos hnone)))

/-! ## The statement -/

/-- Settles O22: each start leaves its queue, passes or fails its checks, and enters or ends a SY instruction; a wait that is met ends. -/
theorem synchronisationInstructionsComplete : Obligations.SynchronisationInstructionsComplete :=
  ⟨counterUpdatesAreHeld, counterUpdateHonoursTheStand, counterUpdatesOfAnotherChipAreHeld, scWaitWaits, scReadReads, poisonedCounterHalts,
    waitAnyWaits, counterReadersWaitForAcks, metWaitsComplete, fenceWaits, barriersArriveAndWait, barrierOrderHalts⟩

end Sys2Proof.Machine
end

section
/-! PROOF. Counter and barrier flits (R135, R175, R184, R195, R202, R205, R206, R209), the fabric's own register (Table 7-11) and the
sync counter window (R10, R198, R397): a flit that arrives is what its destination does with it, and from that the statement SynchronisationFlitsComplete. -/

namespace Sys2Proof.Machine

/-! ## A flit that arrives (R171, R173, R183, R184) -/

/-- The copy that an event names has the event's tag, payload and place. -/
theorem Dev.copyOf_event (d : Dev) (f : FlitEv) :
    (d.copyOf f).tag = f.tag ∧ (d.copyOf f).pay = f.pay ∧ (d.copyOf f).dx = f.x.val ∧ (d.copyOf f).dy = f.y.val := by
  unfold Dev.copyOf
  split
  next e he => simpa using List.find?_some he
  next => exact ⟨rfl, rfl, rfl, rfl⟩

@[simp] theorem Dev.copyOf_tag (d : Dev) (f : FlitEv) : (d.copyOf f).tag = f.tag :=
  have ⟨htag, _, _, _⟩ := d.copyOf_event f
  htag
@[simp] theorem Dev.copyOf_pay (d : Dev) (f : FlitEv) : (d.copyOf f).pay = f.pay :=
  have ⟨_, hpay, _, _⟩ := d.copyOf_event f
  hpay
@[simp] theorem Dev.copyOf_dx (d : Dev) (f : FlitEv) : (d.copyOf f).dx = f.x.val :=
  have ⟨_, _, hdx, _⟩ := d.copyOf_event f
  hdx
@[simp] theorem Dev.copyOf_dy (d : Dev) (f : FlitEv) : (d.copyOf f).dy = f.y.val :=
  have ⟨_, _, _, hdy⟩ := d.copyOf_event f
  hdy
@[simp] theorem Dev.copyOf_node (d : Dev) (f : FlitEv) : (d.copyOf f).node = f.dst := by
  rw [InFlit.node, copyOf_dx, copyOf_dy, FlitEv.dst]
@[simp] theorem Dev.copyOf_tile (d : Dev) (f : FlitEv) : (d.copyOf f).tile = tileAt f.x f.y := by
  rw [InFlit.tile, copyOf_dx, copyOf_dy]

theorem Dev.arrives_iff (d : Dev) (ty : Nat) (f : FlitEv) :
    d.arrives ty f = true ↔ mayLand d.fab.inflight (d.copyOf f) = true ∧ d.pstate < 3 ∧ ¬ (tagSy f.tag = 9 ∧ f.y.val = 9) ∧ tagTy f.tag = ty ∧
      tagBad f.tag = false ∧ (tagDests f.tag).contains f.dst = true ∧ f.ecc = .clean ∧
      (d.leave (d.copyOf f)).refusedAt f.tag f.dst = none := by
  simp only [Dev.arrives, Bool.and_eq_true, decide_eq_true_eq, Bool.not_eq_true', decide_eq_false_iff_not, Option.isNone_iff_eq_none,
    and_assoc]

/-- A flit that no router refuses is counted on its whole way and reaches its destination. -/
theorem Dev.through_lands {d : Dev} {e : InFlit} {act : Dev → InFlit → Dev} (h : d.refusedAt e.tag e.node = none) :
    d.through e act = act (d.passed e.tag e.node (wayOf ⟨tagSx e.tag, tagSy e.tag⟩ e.node) true) e := by
  have hpass : d.refusedAt e.tag ⟨e.dx, e.dy⟩ = none := h
  simp only [Dev.through, hpass]
  rfl

/-- A flit that arrives whole is what its destination does with it. -/
theorem Dev.arrive_lands {d : Dev} {ty : Nat} {f : FlitEv} {act : Dev → InFlit → Dev} (h : d.arrives ty f = true) :
    d.arrive ty f act = act (d.landed f) (d.copyOf f) := by
  obtain ⟨hland, hstate, hsouth, hty, hbad, hdest, hecc, hpass⟩ := (d.arrives_iff ty f).mp h
  have hfirst : ¬ (!(mayLand d.fab.inflight (d.copyOf f)) || decide (3 ≤ d.pstate) ||
      decide (tagSy (d.copyOf f).tag = 9 ∧ (d.copyOf f).dy = 9)) = true := by
    simp [hland, hstate, hsouth]
  have hkind : ¬ (tyKnown (tagTy (d.copyOf f).tag) && decide (tagTy (d.copyOf f).tag ≠ ty)) = true := by simp [hty]
  have hplace : ¬ (!tagBad (d.copyOf f).tag && !((tagDests (d.copyOf f).tag).contains (d.copyOf f).node)) = true := by
    rw [Dev.copyOf_tag, Dev.copyOf_node, hdest, hbad]
    simp
  have harrive : d.arrive ty f act = (d.leave (d.copyOf f)).through (d.copyOf f) act := by
    refine (if_neg hfirst).trans ((if_neg hkind).trans ((if_neg hplace).trans ?_))
    simp only [hecc, Dev.copyOf_tag, hbad, Bool.false_eq_true, if_false]
  rw [harrive, Dev.through_lands (by simpa using hpass)]
  simp only [Dev.copyOf_tag, Dev.copyOf_node]
  rfl

/-- So for a request that does not wait at its destination (R174, R250, R313). -/
theorem Dev.request_lands {d : Dev} {ty : Nat} {f : FlitEv} {act : Dev → InFlit → Dev} (h : d.accepts ty f = true) :
    d.request ty f act = act (d.landed f) (d.copyOf f) := by
  simp only [Dev.accepts, Bool.and_eq_true, Bool.not_eq_true'] at h
  obtain ⟨⟨⟨harrives, hnorth⟩, hwest⟩, htile⟩ := h
  have hfree : ¬ (d.northWaits (d.copyOf f) || d.westWaits f.tag f.dst || d.tileWaits f.tag f.dst) = true := by
    simp [hnorth, hwest, htile]
  exact (if_neg hfree).trans (Dev.arrive_lands harrives)

/-- The answer to a request that lands, whose effect on the core is that of `act'`. -/
theorem State.request_next {s : State} {ty : Nat} {f : FlitEv} {act : Dev → InFlit → Dev} {act' : Dev → Dev} (hl : s.live = true)
    (h : s.dev.accepts ty f = true) (hact : act (s.dev.landed f) (s.dev.copyOf f) = act' s.dev) :
    (s.runDev fun d => d.request ty f act) = .next (s.onDev act') := by
  rw [State.runDev_live _ hl, State.onDev, Dev.request_lands h, hact]
  rfl

/-! ## Counter updates (R135, R184, R195, R202) -/

/-- A counter update at a tile is applied and acknowledged, or refused when poisoned. -/
theorem Dev.ctrFlit_tile {d d₀ : Dev} {f : FlitEv} {act : Dev → Nat → Nat → Dev} (h : isTile f.x f.y = true) :
    d.ctrFlit (d₀.copyOf f) act =
      if tagPoison f.tag then d.wack f.dst f.tag true 0x2003
      else (act d (tileAt f.x f.y) (tagAddr f.tag % 2048)).wack f.dst f.tag false 0 := by
  simp only [Dev.ctrFlit, Dev.copyOf_tag, Dev.copyOf_node, Dev.copyOf_tile, Dev.copyOf_dx, Dev.copyOf_dy, h, if_true]

theorem counterAddApplies : Claims.CounterAddApplies := by
  intro f s hl ha hgood htile hclean
  refine State.request_next hl ha ?_
  simp only [Dev.ctrFlit_tile htile, hgood, hclean, Dev.copyOf_pay, Bool.false_eq_true, if_false]

theorem counterSetApplies : Claims.CounterSetApplies := by
  intro f s hl ha hgood htile
  refine State.request_next hl ha ?_
  simp only [Dev.ctrFlit_tile htile, hgood, Dev.copyOf_pay, Bool.false_eq_true, if_false]

theorem poisonedCounterUpdateIsRefused : Claims.PoisonedCounterUpdateIsRefused := by
  intro f s hl hpoison htile
  exact ⟨fun ha => State.request_next hl ha ((Dev.ctrFlit_tile htile).trans (if_pos hpoison)),
    fun ha => State.request_next hl ha ((Dev.ctrFlit_tile htile).trans (if_pos hpoison))⟩

/-! ## Barrier flits (R184, R205, R206, R209) -/

theorem arrivalReachesTheTickUnit : Claims.ArrivalReachesTheTickUnit := by
  intro f s hl ha hdst
  have hsouth : f.y.val ≠ 0 := by
    have hy : f.y.val = 9 := congrArg Node.y hdst
    omega
  refine State.request_next hl ha ?_
  simp only [Dev.copyOf_tag, Dev.copyOf_pay, Dev.copyOf_dy, Dev.copyOf_node, hsouth, hdst, if_false, ne_eq, not_true_eq_false]

theorem releaseReachesTheRow : Claims.ReleaseReachesTheRow := by
  intro f s hl ha hgood hx hy
  have hwest : f.dst ≠ nTick := fun hdst => by
    have hx3 : f.x.val = 3 := congrArg Node.x hdst
    omega
  refine State.request_next hl ha ?_
  simp only [Dev.copyOf_tag, Dev.copyOf_pay, Dev.copyOf_dx, Dev.copyOf_dy, Dev.copyOf_node, hgood, hx, hy, hwest, Bool.false_eq_true, if_false,
    if_true]

/-! ## The fabric's outputs and its own register (R175, Table 7-11) -/

theorem waitingRequestIsGranted : Claims.WaitingRequestIsGranted := by
  intro x y port waited s hl hnode hnew hwaited
  have hgrant : (nodeExists x y && decide (fld (s.dev.reg Reg.CN_CTRL) 0 4 + 1 ≤ waited) &&
      !(s.dev.fab.reqNext.contains (x.val, y.val, port.val))) = true := by simp [hnode, hwaited, hnew]
  refine (State.runDev_live _ hl).trans ?_
  exact congrArg (fun d => Host.Outcome.next { s with dev := d }) (if_pos hgrant)

theorem perfSelectRestartsTheCount : Claims.PerfSelectRestartsTheCount := by
  intro v s hl hfits hnew
  refine (State.runDev_live _ hl).trans ?_
  simp only [State.onDev, Dev.cnPerfSel, hfits, if_neg hnew]

/-! ## The sync counter window (R10, R198, R397) -/

/-- The words of the window are the counters of the tiles, in order. -/
theorem Dev.pfSpot_counterWindow (d : Dev) (t : Fin 64) (i : Fin 2048) : d.pfSpot (0x500000 + (t * 2048 + i) * 4) = some (.ctr t i) := by
  have htile : (0x500000 + (t.val * 2048 + i.val) * 4 - 0x500000) / 8192 = t := by omega
  have hctr : (0x500000 + (t.val * 2048 + i.val) * 4 - 0x500000) / 4 % 2048 = i := by omega
  unfold Dev.pfSpot
  repeat rw [if_neg (by omega)]
  rw [if_pos (by omega), htile, hctr]

/-- A write of the window crosses the Trail to its tile and back. -/
theorem Dev.hostFlits_counterWindow (d : Dev) (t : Fin 64) (i : Fin 2048) :
    d.hostFlits (0x500000 + (t * 2048 + i) * 4) true = d.hostTrip t tyCSET true := by
  have htile : (0x500000 + (t.val * 2048 + i.val) * 4 - 0x500000) / 0x2000 = t := by omega
  rw [Dev.hostFlits, if_neg (by omega), if_pos (by omega), htile]

theorem counterWindowSets : Claims.CounterWindowSets := by
  intro t i v s hr hb
  have hx : s.dev.spot 0 false (0x500000 + (t * 2048 + i) * 4) = some (.ctr t i) :=
    (Dev.spot_physical false _ hb).trans (s.dev.pfSpot_counterWindow t i)
  calc exec (.syncCounterWindowWrite 0 t i v) s
      = .next (s.write32 0 false (0x500000 + (t * 2048 + i) * 4) v .ok) := State.run_access _ hr rfl
    _ = _ := by
      rw [State.write32_mapped v .ok hx]
      simp only [State.spotWrite, State.onDev, Dev.hostFlits_counterWindow]

/-- A virtual function does not see the counters of a tile outside its stand. -/
theorem Dev.spot_foreignCounter {d : Dev} (own : Bool) {fn : Fin 9} {t : Fin 64} (i : Fin 2048) (hfn : fn ≠ 0)
    (hstand : d.tileTenant t ≠ fn.val - 1) : d.spot fn own (0x500000 + (t * 2048 + i) * 4) = none := by
  have hunseen : ¬ (fn.val = 0 ∨ d.vfSees (fn.val - 1) (0x500000 + (t.val * 2048 + i.val) * 4) (.ctr t i) = true) := by
    simp [Dev.vfSees, Dev.vfTile, hstand, hfn]
  simp only [Dev.spot, Dev.pfSpot_counterWindow, if_neg hunseen, ite_self]

theorem foreignCounterWindowIsRefused : Claims.ForeignCounterWindowIsRefused := by
  intro fn t i v s hr hfn hstand
  calc exec (.syncCounterWindowWrite fn t i v) s
      = .next (s.write32 fn false (0x500000 + (t * 2048 + i) * 4) v .ok) := State.run_access _ hr rfl
    _ = _ := by rw [State.write32_unmapped v .ok (Dev.spot_foreignCounter false i hfn hstand)]

/-! ## The statement -/

/-- Settles O25: each flit that lands is what its destination does with it; a write of the window is one 32-bit write of its word. -/
theorem synchronisationFlitsComplete : Obligations.SynchronisationFlitsComplete :=
  ⟨counterAddApplies, counterSetApplies, poisonedCounterUpdateIsRefused, arrivalReachesTheTickUnit, releaseReachesTheRow,
    waitingRequestIsGranted, perfSelectRestartsTheCount, counterWindowSets, foreignCounterWindowIsRefused⟩

end Sys2Proof.Machine
end

section
/-! PROOF. The route tag (R170, R184, Table 7-3): every field of a unicast tag reads back what was written, and POISON leaves the fields above it, by
which routers judge a flit. From that the statement RouteTagFieldsReadBack. -/

namespace Sys2Proof.Machine

/-- A bit of a word as the field of one bit. -/
theorem bit_eq_decide {w : Nat} (v : BitVec w) (i : Nat) : bit v i = decide (v.toNat / 2 ^ i % 2 = 1) := Nat.testBit_eq_decide_div_mod_eq

theorem b2n_le_one (b : Bool) : b2n b ≤ 1 := by cases b <;> decide

theorem bit_eq_of_digit {w : Nat} {v : BitVec w} {i : Nat} {b : Bool} (h : v.toNat / 2 ^ i % 2 = b2n b) : bit v i = b := by
  rw [bit_eq_decide, h]
  cases b <;> rfl

theorem clsOf_lt (ty : Nat) : clsOf ty < 4 := by
  unfold clsOf
  split
  · decide
  · split <;> decide

/-! ## The fields of a unicast tag (Table 7-3) -/

/-- The number that a unicast tag is, where each value fits its field. -/
theorem mkTag_toNat {src dst : Node} {ty tenant txid cidx addr : Nat} (last cen : Bool) (hsx : src.x < 16) (hsy : src.y < 16) (hdx : dst.x < 16)
    (hdy : dst.y < 16) (hty : ty < 16) (htenant : tenant < 8) (htxid : txid < 256) (hcidx : cidx < 2048) (haddr : addr < 2 ^ 32) :
    (mkTag src dst ty tenant last txid cen cidx addr).toNat =
      dst.x * 2 ^ 92 + dst.y * 2 ^ 88 + src.x * 2 ^ 84 + src.y * 2 ^ 80 + clsOf ty * 2 ^ 78 + ty * 2 ^ 74 + tenant * 2 ^ 71
        + b2n last * 2 ^ 70 + txid * 2 ^ 56 + b2n cen * 2 ^ 55 + cidx * 2 ^ 44 + addr := by
  have hcls := clsOf_lt ty
  have hlast := b2n_le_one last
  have hcen := b2n_le_one cen
  rw [mkTag, BitVec.toNat_ofNat, Nat.mod_eq_of_lt htenant, Nat.mod_eq_of_lt htxid, Nat.mod_eq_of_lt hcidx, Nat.mod_eq_of_lt haddr,
    Nat.mod_eq_of_lt (by omega)]

/-- Settles O28: each field is one digit of the tag's number, in the mixed base of the fields' places. -/
theorem routeTagFieldsReadBack : Obligations.RouteTagFieldsReadBack := by
  intro src dst ty tenant txid cidx addr last cen hsx hsy hdx hdy hty htenant htxid hcidx haddr
  have hn := mkTag_toNat last cen hsx hsy hdx hdy hty htenant htxid hcidx haddr
  have hcls := clsOf_lt ty
  have hlast := b2n_le_one last
  have hcen := b2n_le_one cen
  have hclear : b2n false = 0 := rfl
  have hlastBit : tagLast (mkTag src dst ty tenant last txid cen cidx addr) = last := bit_eq_of_digit (by rw [hn]; omega)
  have hcenBit : tagCen (mkTag src dst ty tenant last txid cen cidx addr) = cen := bit_eq_of_digit (by rw [hn]; omega)
  have hpoisonBit : tagPoison (mkTag src dst ty tenant last txid cen cidx addr) = false :=
    bit_eq_of_digit (by rw [hn]; omega)
  refine ⟨?_, ?_, ?_, ?_, ?_, ?_, ?_, hlastBit, ?_, ?_, ?_, hcenBit, ?_, hpoisonBit, ?_⟩
  all_goals
    simp only [tagDx, tagDy, tagSx, tagSy, tagCls, tagTy, tagTenant, tagMc, tagMend, tagTxid, tagCidx, tagAddr, fld, fldN, hn]
    omega

/-! ## POISON (R184) -/

/-- Setting a clear bit adds its power: the bits above it stay. -/
theorem div_add_clearBit {n k lo : Nat} (hclear : n / 2 ^ k % 2 = 0) (hlo : k < lo) : (n + 2 ^ k) / 2 ^ lo = n / 2 ^ lo := by
  obtain ⟨j, rfl⟩ := Nat.exists_eq_add_of_lt hlo
  have hpow : 2 ^ (k + j + 1) = 2 ^ k * (2 * 2 ^ j) := by
    rw [Nat.pow_succ, Nat.pow_add, Nat.mul_assoc, Nat.mul_comm (2 ^ j)]
  rw [hpow, ← Nat.div_div_eq_div_mul, ← Nat.div_div_eq_div_mul, ← Nat.div_div_eq_div_mul, ← Nat.div_div_eq_div_mul,
    Nat.add_div_right _ (Nat.two_pow_pos k)]
  congr 1
  omega

theorem tagSetPoison_toNat {t : Tag} (h : tagPoison t = false) : (tagSetPoison t).toNat = t.toNat + 2 ^ 43 := by
  have hclear : t.toNat / 2 ^ 43 % 2 = 0 := by simpa [tagPoison, bit_eq_decide] using h
  have hlt := t.isLt
  rw [tagSetPoison, if_neg (by simp [h]), BitVec.toNat_ofNat, Nat.mod_eq_of_lt (by omega)]

/-- A poisoned tag keeps every field above POISON. -/
theorem fld_tagSetPoison (t : Tag) {lo : Nat} (len : Nat) (hlo : 43 < lo) : fld (tagSetPoison t) lo len = fld t lo len := by
  cases h : tagPoison t with
  | true => rw [tagSetPoison, if_pos h]
  | false =>
    have hclear : t.toNat / 2 ^ 43 % 2 = 0 := by simpa [tagPoison, bit_eq_decide] using h
    simp only [fld, fldN, tagSetPoison_toNat h, div_add_clearBit hclear hlo]

@[simp] theorem tagSx_tagSetPoison (t : Tag) : tagSx (tagSetPoison t) = tagSx t := fld_tagSetPoison t 4 (by decide)
@[simp] theorem tagSy_tagSetPoison (t : Tag) : tagSy (tagSetPoison t) = tagSy t := fld_tagSetPoison t 4 (by decide)
@[simp] theorem tagTxid_tagSetPoison (t : Tag) : tagTxid (tagSetPoison t) = tagTxid t := fld_tagSetPoison t 8 (by decide)
@[simp] theorem tagTenant_tagSetPoison (t : Tag) : tagTenant (tagSetPoison t) = tagTenant t := fld_tagSetPoison t 3 (by decide)

end Sys2Proof.Machine
end

section
/-! PROOF. What an error leaves alone (R99, R171, R183, R315, R327, R480 to R483): logging, halts, the fatal state and the flits that answer an error
touch no memory, barrier slot or plan. From that the statements BadFlitIsDiscarded and RefusedFlitChangesNoMemory. -/

namespace Sys2Proof.Machine

/-- What the units of a core store apart from its registers and records: the tiles' memories, DRAM, the barrier slots and the prefetch plan. -/
def Dev.stores (d : Dev) : TileMem × DramSt × Tab BarSlot × PlanSt := (d.mem, d.dram, d.bars, d.plan)

theorem Dev.stores_eq_iff (d d' : Dev) :
    d'.stores = d.stores ↔ d'.mem = d.mem ∧ d'.dram = d.dram ∧ d'.bars = d.bars ∧ d'.plan = d.plan := by
  simp only [Dev.stores, Prod.mk.injEq]

/-- A run of updates, each of which keeps the stores, keeps them. -/
theorem Dev.foldl_stores {α : Type} {f : Dev → α → Dev} (h : ∀ d x, (f d x).stores = d.stores) (xs : List α) (d : Dev) :
    (xs.foldl f d).stores = d.stores :=
  List.foldlRecOn xs f (motive := fun d' => d'.stores = d.stores) rfl (fun d' hd x _ => (h d' x).trans hd)

/-! ## Registers, tiles, rings, ports and flits -/

@[simp] theorem Dev.setReg_stores (d : Dev) (o : Nat) (v : Word) : (d.setReg o v).stores = d.stores := rfl
@[simp] theorem Dev.orReg_stores (d : Dev) (o b : Nat) : (d.orReg o b).stores = d.stores := rfl
@[simp] theorem Dev.clrReg_stores (d : Dev) (o b : Nat) : (d.clrReg o b).stores = d.stores := rfl
@[simp] theorem Dev.incReg_stores (d : Dev) (o n : Nat) : (d.incReg o n).stores = d.stores := rfl
@[simp] theorem Dev.updTile_stores (d : Dev) (t : Nat) (f : TileSt → TileSt) : (d.updTile t f).stores = d.stores := rfl
@[simp] theorem Dev.setInst_stores (d : Dev) (i : Nat) (x : Inst) : (d.setInst i x).stores = d.stores := rfl
@[simp] theorem Dev.setRing_stores (d : Dev) (r : Nat) (x : Ring) : (d.setRing r x).stores = d.stores := rfl
@[simp] theorem Dev.setPort_stores (d : Dev) (p : Nat) (x : LPort) : (d.setPort p x).stores = d.stores := rfl
@[simp] theorem Dev.setChan_stores (d : Dev) (k : Nat) (c : Chan) : (d.setChan k c).stores = d.stores := rfl
@[simp] theorem Dev.losePacks_stores (d : Dev) (kind cls peer : Nat) : (d.losePacks kind cls peer).stores = d.stores := rfl
@[simp] theorem Dev.send_stores (d : Dev) (t : Tag) (pay : Line) : (d.send t pay).stores = d.stores := rfl
@[simp] theorem Dev.wack_stores (d : Dev) (n : Node) (t : Tag) (refused : Bool) (code : Nat) : (d.wack n t refused code).stores = d.stores := rfl
@[simp] theorem Dev.errTo_stores (d : Dev) (n : Node) (t : Tag) (code : Nat) : (d.errTo n t code).stores = d.stores := rfl

/-! ## The error log (R437, R483, R486) -/

theorem Dev.ite_stores {d a b : Dev} {c : Prop} [Decidable c] (ha : a.stores = d.stores) (hb : b.stores = d.stores) :
    (if c then a else b).stores = d.stores := by
  split
  · exact ha
  · exact hb

@[simp] theorem Dev.upstream_stores (d : Dev) (q : Nat) (x : UpTlp) : (d.upstream q x).stores = d.stores := Dev.ite_stores rfl rfl

@[simp] theorem Dev.msi_stores (d : Dev) (q fn v : Nat) : (d.msi q fn v).stores = d.stores :=
  Dev.ite_stores rfl (Dev.ite_stores rfl (d.upstream_stores q _))

@[simp] theorem Dev.countErr_stores (d : Dev) (code sev : Nat) : (d.countErr code sev).stores = d.stores :=
  Dev.ite_stores rfl (Dev.ite_stores rfl rfl)

@[simp] theorem Dev.writeLog_stores (d : Dev) (code sev : Nat) (e : ErrAt) : (d.writeLog code sev e).stores = d.stores :=
  Dev.ite_stores rfl (Dev.ite_stores (Dev.msi_stores _ _ _ _) rfl)

@[simp] theorem Dev.logSev_stores (d : Dev) (code sev : Nat) (e : ErrAt) : (d.logSev code sev e).stores = d.stores := by simp [Dev.logSev]

@[simp] theorem Dev.withdraw_stores (d : Dev) (tenant : Option Nat) : (d.withdraw tenant).stores = d.stores := by
  cases tenant <;> rfl

@[simp] theorem Dev.logS_stores (d : Dev) (code : Nat) (e : ErrAt) : (d.logS code e).stores = d.stores := by
  unfold Dev.logS
  split <;> simp

/-! ## Halts and bindings (R49, R99, R435, R482) -/

@[simp] theorem Dev.failBound_stores (d : Dev) (i : Inst) (code : Nat) (b : Bound) : (d.failBound i code b).stores = d.stores :=
  Dev.ite_stores rfl (Dev.ite_stores rfl rfl)

@[simp] theorem Dev.stopTiles_stores (d : Dev) (i code : Nat) (pc : Option Nat) : (d.stopTiles i code pc).stores = d.stores := by
  unfold Dev.stopTiles
  refine Dev.foldl_stores (fun d x => ?_) _ d
  exact Dev.ite_stores rfl rfl

@[simp] theorem Dev.haltQuiet_stores (d : Dev) (i code : Nat) (pc : Option Nat) : (d.haltQuiet i code pc).stores = d.stores := by
  unfold Dev.haltQuiet
  split
  · rfl
  · split
    · rw [Dev.foldl_stores (fun d b => d.failBound_stores _ code b), Dev.stopTiles_stores]
      rfl
    · rfl

@[simp] theorem Dev.haltAll_stores (d : Dev) (code : Nat) : (d.haltAll code).stores = d.stores :=
  Dev.foldl_stores (fun d i => d.haltQuiet_stores i code none) _ d

@[simp] theorem Dev.unreserveAll_stores (d : Dev) (i : Inst) : (d.unreserveAll i).stores = d.stores := by
  unfold Dev.unreserveAll
  refine Dev.foldl_stores (fun d x => ?_) _ d
  exact Dev.ite_stores rfl rfl

@[simp] theorem Dev.cancelNext_stores (d : Dev) : d.cancelNext.stores = d.stores :=
  Dev.foldl_stores (f := fun d x => d.unreserveAll x) (fun d x => d.unreserveAll_stores x) d.tick.nxt d

@[simp] theorem Dev.bootEnd_stores (d : Dev) (whole : Bool) : (d.bootEnd whole).stores = d.stores := rfl

/-! ## The loss of ports (R308, R315, R327) -/

theorem Dev.foldl_setPort_stores (x : Dev → Nat → LPort) (ps : List Nat) (d : Dev) :
    (ps.foldl (fun d p => d.setPort p (x d p)) d).stores = d.stores :=
  Dev.foldl_stores (f := fun d p => d.setPort p (x d p)) (fun _ _ => rfl) ps d

@[simp] theorem Dev.tellAll_stores (d : Dev) : d.tellAll.stores = d.stores := Dev.foldl_setPort_stores _ _ d

@[simp] theorem Dev.giveBack_stores (d : Dev) (q vc n : Nat) : (d.giveBack q vc n).stores = d.stores :=
  Dev.ite_stores rfl rfl

@[simp] theorem Dev.pump_stores (d : Dev) (p : Nat) : (d.pump p).stores = d.stores := by
  unfold Dev.pump
  split
  · rw [Dev.tellAll_stores, Dev.foldl_stores (fun d e => d.giveBack_stores _ _ _), Dev.setPort_stores]
  · rfl

@[simp] theorem Dev.queueAt_stores (d : Dev) (k : Pkt) (p q vc free : Nat) : (d.queueAt k p q vc free).stores = d.stores :=
  Dev.pump_stores _ p

@[simp] theorem Dev.failReq_stores (d : Dev) (p code : Nat) (t : Tag) : (d.failReq p code t).stores = d.stores :=
  Dev.ite_stores rfl rfl

@[simp] theorem Dev.fenceSrc_stores (d : Dev) (kind cls peer code : Nat) : (d.fenceSrc kind cls peer code).stores = d.stores := by
  rw [Dev.fenceSrc, Dev.losePacks_stores, Dev.setChan_stores, Dev.foldl_stores (fun d r => d.failReq_stores _ code r)]

@[simp] theorem Dev.fencePort_stores (d : Dev) (p : Nat) : (d.fencePort p).stores = d.stores := by
  unfold Dev.fencePort
  refine Dev.foldl_stores (fun d e => ?_) _ d
  exact Dev.ite_stores (d.fenceSrc_stores _ _ _ _) rfl

@[simp] theorem Dev.undeliver_stores (d : Dev) (k : Pkt) : (d.undeliver k).stores = d.stores :=
  Dev.ite_stores (Dev.ite_stores (d.fenceSrc_stores _ _ _ _) rfl) (Dev.ite_stores (d.queueAt_stores _ _ _ _ _) rfl)

@[simp] theorem Dev.lostPkt_stores (d : Dev) (k : Pkt) (p : Nat) : (d.lostPkt k p).stores = d.stores := by
  unfold Dev.lostPkt
  split <;> split <;> simp

@[simp] theorem Dev.losePorts_stores (d : Dev) (ps : List Nat) : (d.losePorts ps).stores = d.stores := by
  rw [Dev.losePorts, Dev.tellAll_stores, Dev.foldl_stores (fun d e => by rw [Dev.giveBack_stores, Dev.lostPkt_stores]),
    Dev.foldl_stores (fun d p => d.fencePort_stores p)]
  exact Dev.foldl_setPort_stores (fun d p => (d.port p).downed) ps d

@[simp] theorem Dev.silence_stores (d : Dev) : d.silence.stores = d.stores := by
  rw [Dev.silence, Dev.foldl_setPort_stores, Dev.losePorts_stores]

/-! ## The fatal state (R478, R482) -/

@[simp] theorem Dev.enterFatal_stores (d : Dev) (code node : Nat) : (d.enterFatal code node).stores = d.stores := by
  have hhalts : ((d.haltAll code).cancelNext.orReg Reg.ERR_STAT 1).stores = d.stores := by simp
  have hcode : ∀ d' : Dev, ∀ v, (if bit (d'.reg Reg.ERR_FATAL) 31 then d' else d'.setReg Reg.ERR_FATAL v).stores = d'.stores :=
    fun _ _ => Dev.ite_stores rfl rfl
  have hlinks : ∀ d' : Dev, (if d'.anyUp then d'.silence else d').stores = d'.stores :=
    fun d' => Dev.ite_stores d'.silence_stores rfl
  have hboot : ∀ d' : Dev, ∀ v, (if bit (d'.reg Reg.RB_STAT) 0 then (d'.setReg Reg.RB_ERR v).bootEnd false else d').stores = d'.stores :=
    fun _ _ => Dev.ite_stores rfl rfl
  exact (hboot _ _).trans ((hlinks _).trans ((hcode _ _).trans hhalts))

@[simp] theorem Dev.raise_stores (d : Dev) (code : Nat) (e : ErrAt) : (d.raise code e).stores = d.stores := by
  unfold Dev.raise
  split
  · simp
  · split <;> simp

/-! ## A flit that goes no further than a router (R171, R183) -/

@[simp] theorem Dev.capTag_stores (d : Dev) (t : Tag) (n : Node) : (d.capTag t n).stores = d.stores :=
  Dev.ite_stores rfl rfl

@[simp] theorem Dev.badFlit_stores (d : Dev) (t : Tag) : (d.badFlit t).stores = d.stores := by simp [Dev.badFlit]

@[simp] theorem Dev.countWay_stores (d : Dev) (t : Tag) (dst : Node) (ws : List Node) (arrives : Bool) (n : Nat) :
    (d.countWay t dst ws arrives n).stores = d.stores := by
  unfold Dev.countWay
  dsimp only
  split
  · split <;> rfl
  · rfl

@[simp] theorem Dev.passed_stores (d : Dev) (t : Tag) (dst : Node) (ws : List Node) (arrives : Bool) :
    (d.passed t dst ws arrives).stores = d.stores :=
  Dev.ite_stores (d.countWay_stores t dst ws arrives 1) (d.countWay_stores t dst ws arrives 1)

@[simp] theorem Dev.refuseFlit_stores (d : Dev) (t : Tag) (n : Node) (more : Bool) : (d.refuseFlit t n more).stores = d.stores := by
  have hlog : ∀ d' : Dev, ∀ e : ErrAt, (((d'.capTag t n).orReg Reg.CN_STAT 8).logS 0x2002 e).stores = d'.stores := fun d' e => by simp
  exact Dev.ite_stores rfl (Dev.ite_stores (hlog _ _) (hlog _ _))

/-- A flit that a router of its way refuses reaches nothing. -/
theorem Dev.through_refused_stores {d : Dev} {e : InFlit} {n : Node} {act : Dev → InFlit → Dev} (h : d.refusedAt e.tag e.node = some n) :
    (d.through e act).stores = d.stores := by
  have hstop : d.refusedAt e.tag ⟨e.dx, e.dy⟩ = some n := h
  simp only [Dev.through, hstop, Dev.refuseFlit_stores, Dev.passed_stores]

/-! ## What the firebreak looks at (R183) -/

theorem refuseAt_congr {d d' : Dev} (h : d'.fab = d.fab) (tenant : Nat) (toNorth : Bool) (ns : List Node) (fromNorth : Bool) :
    refuseAt d' tenant toNorth fromNorth ns = refuseAt d tenant toNorth fromNorth ns := by
  have hrow : ∀ r, d'.rowTenant r = d.rowTenant r := fun r => by rw [Dev.rowTenant, Dev.rowTenant, h]
  have hmulti : d'.multi = d.multi := by simp only [Dev.multi, hrow]
  induction ns generalizing fromNorth with
  | nil => rfl
  | cons n ns ih =>
    cases ns with
    | nil => simp only [refuseAt, hrow, hmulti]
    | cons m rest => simp only [refuseAt, hrow, hmulti, ih]

/-- Whether a flit is refused is a matter of the fabric and of the tag's source, TXID and tenant; POISON does not count. -/
theorem Dev.refusedAt_congr {d d' : Dev} (h : d'.fab = d.fab) (t : Tag) (dst : Node) : d'.refusedAt t dst = d.refusedAt t dst := by
  simp only [Dev.refusedAt, Dev.refusalOf, h, flitRefused, refuseAt_congr h]

@[simp] theorem Dev.refusedAt_tagSetPoison (d : Dev) (t : Tag) (dst : Node) : d.refusedAt (tagSetPoison t) dst = d.refusedAt t dst := by
  simp only [Dev.refusedAt, Dev.refusalOf, flitRefused, tagSx_tagSetPoison, tagSy_tagSetPoison, tagTxid_tagSetPoison,
    tagTenant_tagSetPoison]

/-! ## A flit that is stopped on its way (R171, R173, R183, R184) -/

/-- A flit stops on its way: its tag breaks R171, or a router refuses it once it has left its last buffer. -/
def Dev.stops (d : Dev) (f : FlitEv) : Prop :=
  tagBad f.tag = true ∨ ∃ n, (d.leave (d.copyOf f)).refusedAt f.tag f.dst = some n

/-- The routers' verdict on a flit that stops, whatever its links have noted of it in the registers and in POISON. -/
theorem Dev.judged_stores {d d' : Dev} {t : Tag} {dst : Node} {e : InFlit} {act : Dev → InFlit → Dev}
    (h : tagBad t = true ∨ ∃ n, d.refusedAt t dst = some n) (hstores : d'.stores = d.stores) (hfab : d'.fab = d.fab) (hnode : e.node = dst)
    (htag : e.tag = t ∨ e.tag = tagSetPoison t) : (if tagBad t then d'.badFlit e.tag else d'.through e act).stores = d.stores := by
  split
  next => rw [Dev.badFlit_stores, hstores]
  next hgood =>
    obtain ⟨n, hn⟩ := h.resolve_left hgood
    have hrefused : d'.refusedAt e.tag e.node = some n := by
      rw [Dev.refusedAt_congr hfab, hnode]
      rcases htag with htag | htag
      · rw [htag, hn]
      · rw [htag, Dev.refusedAt_tagSetPoison, hn]
    rw [Dev.through_refused_stores hrefused, hstores]

/-- A flit that stops changes no store but by what waited for its place, if it leaves at all. -/
theorem Dev.arrive_stops {d : Dev} {f : FlitEv} (ty : Nat) (act : Dev → InFlit → Dev) (h : d.stops f) :
    d.arrive ty f act = d ∨ (d.arrive ty f act).stores = (d.leave (d.copyOf f)).stores := by
  have htag := d.copyOf_tag f
  have hnode := d.copyOf_node f
  unfold Dev.stops at h
  unfold Dev.arrive
  dsimp only
  generalize d.leave (d.copyOf f) = d₁ at h ⊢
  split
  · exact .inl rfl
  · split
    · exact .inl rfl
    · split
      · exact .inl rfl
      · right
        rw [← htag] at h
        cases f.ecc with
        | tag => exact Dev.raise_stores _ _ _
        | clean => exact Dev.judged_stores h rfl rfl hnode (.inl rfl)
        | corrected => exact Dev.judged_stores h rfl rfl hnode (.inl rfl)
        | payload => exact Dev.judged_stores (e := { d.copyOf f with tag := _ }) h rfl rfl hnode (.inr rfl)

/-- So for a request, which may wait besides. -/
theorem Dev.request_stops {d : Dev} {f : FlitEv} (ty : Nat) (act : Dev → InFlit → Dev) (h : d.stops f) :
    d.request ty f act = d ∨ (d.request ty f act).stores = (d.leave (d.copyOf f)).stores := by
  unfold Dev.request
  dsimp only
  split
  · exact .inl rfl
  · exact Dev.arrive_stops ty act h

/-- The rows of the flits that reach a node. -/
def flitCommands (f : FlitEv) : List Instr :=
  [.wrFlit f, .wrz f, .rdFlit f, .cmd f, .rdata f, .wack f, .errFlit f, .cadd f, .cset f, .barr f, .brel f]

/-- Each of them is the arrival of a request or of an answer. -/
theorem exec_flitCommands {f : FlitEv} {c : Instr} (hc : c ∈ flitCommands f) (s : State) :
    ∃ ty act, exec c s = s.runDev (fun d => d.request ty f act) ∨ exec c s = s.runDev (fun d => d.arrive ty f act) := by
  simp only [flitCommands, List.mem_cons, List.not_mem_nil, or_false] at hc
  rcases hc with rfl | rfl | rfl | rfl | rfl | rfl | rfl | rfl | rfl | rfl | rfl
  · exact ⟨_, _, .inl rfl⟩
  · exact ⟨_, _, .inl rfl⟩
  · exact ⟨_, _, .inl rfl⟩
  · exact ⟨_, _, .inl rfl⟩
  · exact ⟨_, _, .inr rfl⟩
  · exact ⟨_, _, .inr rfl⟩
  · exact ⟨_, _, .inr rfl⟩
  · exact ⟨_, _, .inl rfl⟩
  · exact ⟨_, _, .inl rfl⟩
  · exact ⟨_, _, .inl rfl⟩
  · exact ⟨_, _, .inl rfl⟩

/-- A flit that stops changes no memory, barrier slot or plan but by what waited for its place. -/
theorem exec_stops {f : FlitEv} {c : Instr} {s t : State} (hc : c ∈ flitCommands f) (h : s.dev.stops f) (hexec : exec c s = .next t) :
    ∃ d, (d = s.dev ∨ d = s.dev.leave (s.dev.copyOf f)) ∧
      t.dev.mem = d.mem ∧ t.dev.dram = d.dram ∧ t.dev.bars = d.bars ∧ t.dev.plan = d.plan := by
  simp only [← Dev.stores_eq_iff]
  obtain ⟨ty, act, hrow⟩ := exec_flitCommands hc s
  obtain ⟨step, hstep, hrun⟩ : ∃ step : Dev → Dev, (step s.dev = s.dev ∨ (step s.dev).stores = (s.dev.leave (s.dev.copyOf f)).stores) ∧
      s.runDev step = .next t := by
    rcases hrow with hrow | hrow
    · exact ⟨_, Dev.request_stops ty act h, hrow ▸ hexec⟩
    · exact ⟨_, Dev.arrive_stops ty act h, hrow ▸ hexec⟩
  rcases State.run_cases hrun with ⟨_, rfl⟩ | ⟨_, rfl⟩
  · rcases hstep with hstays | hleaves
    · exact ⟨s.dev, .inl rfl, congrArg Dev.stores hstays⟩
    · exact ⟨_, .inr rfl, hleaves⟩
  · exact ⟨_, .inl rfl, rfl⟩

/-! ## The statements -/

/-- Settles O26: a bad tag stops its flit at the first router, and the fatal error that the router raises leaves every store alone. -/
theorem badFlitIsDiscarded : Obligations.BadFlitIsDiscarded :=
  fun _ _ _ _ hc hbad hexec => exec_stops hc (.inl hbad) hexec

/-- Settles O27: a refusal stops the flit, and counting, logging and answering it leave every store alone. -/
theorem refusedFlitChangesNoMemory : Obligations.RefusedFlitChangesNoMemory :=
  fun _ _ _ _ n hc hrefused hexec => exec_stops hc (.inr ⟨n, hrefused⟩) hexec

end Sys2Proof.Machine
end

section
/-! PROOF. Transfers over Canopy (R130, R131, R172, R174, R180, R183, R184): the lines, markers, requests and descriptors that land at a tile, a west
node or an east node, and the answers that land at their requester. From that the statement CanopyTransfersComplete. -/

namespace Sys2Proof.Machine

/-! ## Flits that land -/

@[simp] theorem isTile_west (y : Nat) : isTile 0 y = false := rfl

@[simp] theorem isTile_east (y : Nat) : isTile 9 y = false := rfl

/-- No tile is the tick unit. -/
theorem FlitEv.dst_ne_nTick {f : FlitEv} (h : f.x.val ≠ 3 ∨ isTile f.x f.y = true) : f.dst ≠ nTick := by
  intro hdst
  have hx : f.x.val = 3 := congrArg Node.x hdst
  have hy : f.y.val = 9 := congrArg Node.y hdst
  rcases h with h | h
  · exact h hx
  · simp [isTile, hx, hy] at h

/-- The answer to an answer that lands, whose effect on the core is that of `act'`. -/
theorem State.arrive_next {s : State} {ty : Nat} {f : FlitEv} {act : Dev → InFlit → Dev} {act' : Dev → Dev} (hl : s.live = true)
    (h : s.dev.arrives ty f = true) (hact : act (s.dev.landed f) (s.dev.copyOf f) = act' s.dev) :
    (s.runDev fun d => d.arrive ty f act) = .next (s.onDev act') := by
  rw [State.runDev_live _ hl, State.onDev, Dev.arrive_lands h, hact]
  rfl

/-! ## Write transfers (R130, R172, R180, R184) -/

theorem filter_ne_of_not_contains {α : Type} [DecidableEq α] {xs : List α} {x : α} (h : xs.contains x = false) :
    xs.filter (fun y => decide (y ≠ x)) = xs := by
  rw [List.filter_eq_self]
  intro y hy
  simp only [List.contains_eq_mem, decide_eq_false_iff_not] at h
  exact decide_eq_true fun hyx => h (hyx ▸ hy)

theorem Dev.wholesome_good {d : Dev} {f : FlitEv} (h : d.wholesome f = true) : tagPoison f.tag = false := by
  simp only [Dev.wholesome, Bool.and_eq_true, Bool.not_eq_true'] at h
  obtain ⟨hgood, _⟩ := h
  exact hgood

/-- A whole line of a whole transfer leaves the fabric's record of poisoned transfers as it is. -/
theorem Dev.taint_wholesome {d : Dev} {f : FlitEv} (h : d.wholesome f = true) : (d.landed f).taint (d.copyOf f) = (false, d.landed f) := by
  simp only [Dev.wholesome, Bool.and_eq_true, Bool.not_eq_true'] at h
  obtain ⟨hgood, hclean⟩ := h
  simp only [Dev.taint, Dev.copyOf_tag, hgood, hclean, Bool.or_self, Bool.false_and, Bool.false_eq_true, if_false,
    filter_ne_of_not_contains hclean]

/-- So does a poisoned one that is the only line of its transfer. -/
theorem Dev.taint_poisonedLast {d d' : Dev} {f : FlitEv} (hpoison : tagPoison f.tag = true) (hlast : tagLast f.tag = true)
    (hclean : d'.fab.tainted.contains (taintOf (d.copyOf f)) = false) : d'.taint (d.copyOf f) = (true, d') := by
  simp only [Dev.taint, Dev.copyOf_tag, hpoison, hlast, Bool.true_or, Bool.not_true, Bool.and_false, Bool.false_eq_true, if_false,
    filter_ne_of_not_contains hclean]

theorem Dev.endWrite_whole (d d₀ : Dev) (f : FlitEv) : d.endWrite (d₀.copyOf f) false = d.writeEnds f := by
  cases hlast : tagLast f.tag <;> simp [Dev.endWrite, Dev.writeEnds, hlast]

theorem Dev.endWrite_refused {d d₀ : Dev} {f : FlitEv} (hlast : tagLast f.tag = true) :
    d.endWrite (d₀.copyOf f) true = d.wack f.dst f.tag true 0x2003 := by
  simp [Dev.endWrite, hlast]

theorem Dev.takeWrite_tile {d d₀ : Dev} {f : FlitEv} {line : Bool} {ev : DramEv} (h : isTile f.x f.y = true) :
    d.takeWrite (d₀.copyOf f) line ev = d.writeTile (d₀.copyOf f) line := by
  simp only [Dev.takeWrite, Dev.copyOf_dx, Dev.copyOf_dy, h, if_true]

theorem Dev.takeWrite_west {d d₀ : Dev} {f : FlitEv} {line : Bool} {ev : DramEv} (hx : f.x.val = 0) (hy : f.y.val ≠ 9) :
    d.takeWrite (d₀.copyOf f) line ev = d.writeWest (d₀.copyOf f) line ev := by
  simp only [Dev.takeWrite, Dev.copyOf_dx, Dev.copyOf_dy, isTile_west, hx, hy, Bool.false_eq_true, if_false, ne_eq, not_false_eq_true,
    and_self, if_true]

theorem writeFlitLandsAtATile : Claims.WriteFlitLandsAtATile := by
  intro f s hl ha hwhole htile haddr
  have hgood := Dev.wholesome_good hwhole
  have htaint := Dev.taint_wholesome hwhole
  refine State.request_next hl ha ?_
  dsimp only
  generalize s.dev.landed f = d at htaint ⊢
  simp only [Dev.takeWrite_tile htile, Dev.writeTile, htaint, Dev.copyOf_tag, Dev.copyOf_pay, Dev.copyOf_tile, hgood, haddr, Bool.not_false,
    Bool.and_self, decide_true, if_true, Dev.endWrite_whole]

/-- A line or a marker that a west node does not refuse for its place is written there, unless poisoned, and may end its transfer. -/
theorem Dev.writeWest_placed {d d' : Dev} {e : InFlit} {line bad : Bool} {ev : DramEv} (htaint : d.taint e = (bad, d'))
    (hplace : (if line then d'.westRefusal e 1 else none) = none) :
    d.writeWest e line ev =
      (if line && !(tagPoison e.tag) then
        d'.writeDram (tagAddr e.tag * 64) (d'.westPort e true) ((lineBytes e.pay).take (d'.lineLen e)) ev (tagLast e.tag)
      else d').endWrite e bad := by
  rw [Dev.writeWest, htaint]
  dsimp only
  rw [hplace]

theorem writeFlitLandsInDram : Claims.WriteFlitLandsInDram := by
  intro f s hl ha hwhole hx hy _ hplace
  have hgood := Dev.wholesome_good hwhole
  refine State.request_next hl ha ?_
  rw [Dev.takeWrite_west hx hy, Dev.writeWest_placed (Dev.taint_wholesome hwhole) ((if_pos rfl).trans hplace)]
  simp only [Dev.copyOf_tag, Dev.copyOf_pay, hgood, Bool.not_false, Bool.and_self, if_true, Dev.endWrite_whole]

theorem poisonedWriteIsRefused : Claims.PoisonedWriteIsRefused := by
  intro f s hl ha hpoison hlast hclean htile
  refine State.request_next hl ha ?_
  simp only [Dev.takeWrite_tile htile, Dev.writeTile, Dev.taint_poisonedLast hpoison hlast hclean, Dev.copyOf_tag, Dev.copyOf_tile, hpoison,
    Bool.not_true, Bool.and_false, Bool.false_and, Bool.false_eq_true, if_false, Dev.endWrite_refused hlast]

theorem zeroWriteSignals : Claims.ZeroWriteSignals := by
  intro f s hl ha hwhole htile
  refine State.request_next hl ha ?_
  simp only [Dev.takeWrite_tile htile, Dev.writeTile, Dev.taint_wholesome hwhole, Dev.copyOf_tile, Bool.false_and, Bool.false_eq_true, if_false,
    Dev.endWrite_whole]

/-! ## Read requests (R172, R174, R257, R258) -/

theorem rdataTag_copyOf (d : Dev) (f : FlitEv) (ret : Nat) (last : Bool) :
    rdataTag (d.copyOf f) ret last = mkTag f.dst f.src tyRDATA (tagTenant f.tag) last (tagTxid f.tag) false 0 ret := by
  rw [rdataTag, Dev.copyOf_node, Dev.copyOf_tag, FlitEv.src]

theorem readFlitReturnsLines : Claims.ReadFlitReturnsLines := by
  intro f s hl ha hgood htile hclean
  refine State.request_next hl ha ?_
  simp only [Dev.copyOf_tag, Dev.copyOf_dx, Dev.copyOf_dy, hgood, htile, Bool.false_eq_true, if_false, if_true, Dev.readTile, hclean,
    reduceCtorEq, and_false, rdataTag_copyOf, Dev.copyOf_pay, Dev.copyOf_tile]

/-- A read request at the west node of its channel reads its units one after another. Evaluating the capacity of DRAM, a product with 2^20, is beyond
the kernel: so `readWest` is opened as a function, in which the operations that need the capacity are variables. -/
theorem Dev.readWest_units {d d₀ : Dev} {f : FlitEv} {ev : DramEv} {step : Dev → Nat → Dev}
    (hplace : d.westRefusal (d₀.copyOf f) (rdCount f.pay) = none)
    (hstep : ∀ d₁ i code d₂,
      d₁.readUnit ((tagAddr f.tag + i) * 64) (d.westPort (d₀.copyOf f) false) (d₁.askedBy f.tag) (ev.at_ i) = (code, d₂) →
      let tag := mkTag f.dst f.src tyRDATA (tagTenant f.tag) (decide (i + 1 = rdCount f.pay)) (tagTxid f.tag) false 0 (rdReturn f.pay + i)
      step d₁ i = code.elim (d₂.send tag (bytesLine (d₂.dramBytes ((tagAddr f.tag + i) * 64) 64))) (d₂.injectBad tag)) :
    d.readWest (d₀.copyOf f) ev =
      (List.range (rdCount f.pay)).foldl step (d.qosRequest (f.y.val - 1) (d.westPort (d₀.copyOf f) false) ev.late) := by
  refine (congrFun (congrFun (congrFun (?opened : @Dev.readWest = ?body) d) (d₀.copyOf f)) ev).trans ?_
  case opened => delta Dev.readWest; exact rfl
  generalize @Dev.westRefusal = refusal at hplace ⊢
  generalize @Dev.readUnit = readUnit at hstep ⊢
  simp only [Dev.copyOf_tag, Dev.copyOf_pay, Dev.copyOf_dy, rdataTag_copyOf, hplace]
  refine congrArg (List.foldl · _ _) (funext fun d₁ => funext fun i => ?_)
  generalize hread : readUnit d₁ _ _ _ _ = read
  obtain ⟨_ | code, d₂⟩ := read
  · exact (hstep d₁ i none d₂ hread).symm
  · exact (hstep d₁ i (some code) d₂ hread).symm

theorem readFlitReadsDram : Claims.ReadFlitReadsDram := by
  intro f s hl ha hgood hx hy _ hplace
  refine State.request_next hl ha ?_
  simp only [Dev.copyOf_tag, Dev.copyOf_dx, Dev.copyOf_dy, hgood, isTile_west, hx, hy, Bool.false_eq_true, if_false, ne_eq,
    not_false_eq_true, and_self, if_true]
  refine Dev.readWest_units hplace fun d₁ i code d₂ hread => ?_
  generalize @Dev.readUnit = readUnit at hread ⊢
  simp only [hread]
  cases code <;> rfl

/-! ## Descriptors (R131, R225) -/

theorem descriptorIsTaken : Claims.DescriptorIsTaken := by
  intro f s x hl ha hgood hx hdesc
  have hfind : ∀ mine : Desc → Bool, (∀ y, mine y = descOf f.tag y) → (s.dev.landed f).plan.descs.find? mine = some x :=
    fun mine hmine => (congrArg (List.find? · _) (funext hmine)).trans hdesc
  refine State.request_next hl ha ?_
  simp only [Dev.copyOf_tag, Dev.copyOf_dx, hx, ne_eq, not_true_eq_false, if_false, hgood, Bool.false_eq_true]
  cases x <;> rw [hfind _ fun y => by cases y <;> rfl]

/-! ## Answers at their requester (R172, R183, R184, R228, R296) -/

theorem readDataLands : Claims.ReadDataLands := by
  intro f s x hl ha hgood htile haddr htxn
  refine State.arrive_next hl ha ?_
  simp only [Dev.copyOf_tag, Dev.copyOf_dx, Dev.copyOf_dy, htile, if_true, Dev.takeRdata, Dev.copyOf_tile, htxn, hgood, haddr,
    Bool.false_eq_true, if_false, Dev.copyOf_pay]

theorem poisonedReadDataHalts : Claims.PoisonedReadDataHalts := by
  intro f s x hl ha hpoison hwhy htile htxn
  refine State.arrive_next hl ha ?_
  simp only [Dev.copyOf_tag, Dev.copyOf_dx, Dev.copyOf_dy, htile, if_true, Dev.takeRdata, Dev.copyOf_tile, htxn, hpoison, hwhy, ne_eq,
    not_true_eq_false, decide_false]

theorem writeAckEndsTheTransfer : Claims.WriteAckEndsTheTransfer := by
  intro f s x hl ha htile hsrc htxn
  have hplain : ¬ (f.dst = nTick ∨ (⟨tagSx f.tag, tagSy f.tag⟩ : Node) = nTick) := fun h => h.elim (f.dst_ne_nTick (.inr htile)) hsrc
  refine State.arrive_next hl ha ?_
  cases hpoison : tagPoison f.tag <;> cases hrefused : bit f.pay 0
  all_goals
    simp only [Dev.copyOf_tag, Dev.copyOf_pay, Dev.copyOf_node, Dev.copyOf_dx, Dev.copyOf_dy, Dev.copyOf_tile, hplain, if_false, htile, if_true,
      htxn, hpoison, hrefused, Bool.false_eq_true]

theorem writeAckReachesTheEastNode : Claims.WriteAckReachesTheEastNode := by
  intro f s hl ha hx hsrc hgood
  have hplain : ¬ (f.dst = nTick ∨ (⟨tagSx f.tag, tagSy f.tag⟩ : Node) = nTick) := fun h => h.elim (f.dst_ne_nTick (.inl (by omega))) hsrc
  refine State.arrive_next hl ha ?_
  simp only [Dev.copyOf_tag, Dev.copyOf_pay, Dev.copyOf_node, Dev.copyOf_dx, Dev.copyOf_dy, hplain, if_false, hx, isTile_east,
    Bool.false_eq_true, if_true, hgood]

theorem errorFlitHalts : Claims.ErrorFlitHalts := by
  intro f s x hl ha hgood htile hreq htxn
  refine State.arrive_next hl ha ?_
  simp only [Dev.copyOf_tag, Dev.copyOf_pay, Dev.copyOf_dx, Dev.copyOf_dy, Dev.copyOf_tile, hgood, htile, hreq, htxn, Bool.false_eq_true,
    if_false, and_false, if_true]

theorem errorFlitHaltsAnArrival : Claims.ErrorFlitHaltsAnArrival := by
  intro f s hl ha hgood htile harrival
  refine State.arrive_next hl ha ?_
  simp only [Dev.copyOf_tag, Dev.copyOf_pay, Dev.copyOf_dx, Dev.copyOf_dy, Dev.copyOf_tile, hgood, htile, harrival, Bool.false_eq_true,
    if_false, and_self, if_true]

/-! ## The statement -/

/-- Settles O24: each flit that lands is what its destination does with it, by the kind of node and by whether it is whole. -/
theorem canopyTransfersComplete : Obligations.CanopyTransfersComplete :=
  ⟨writeFlitLandsAtATile, writeFlitLandsInDram, poisonedWriteIsRefused, zeroWriteSignals, readFlitReturnsLines, readFlitReadsDram,
    descriptorIsTaken, readDataLands, poisonedReadDataHalts, writeAckEndsTheTransfer, writeAckReachesTheEastNode, errorFlitHalts,
    errorFlitHaltsAnArrival⟩

end Sys2Proof.Machine
end

section
/-! PROOF. The start ramp (R210, R211): a ramp release holds the starts of its tile's matrix stream until RAMP_RELEASE; and from that the
statement RampHoldsTheMatrixStream. -/

namespace Sys2Proof.Machine

/-- An effect that leaves the core leaves the state, whether the core runs or not. -/
theorem State.runDev_unchanged {s : State} {f : Dev → Dev} (h : f s.dev = s.dev) : s.runDev f = .next s := by
  cases hl : s.live with
  | true => rw [State.runDev_live _ hl, State.onDev, h]
  | false => exact State.runDev_dead _ hl

/-- During the ramp delay the matrix stream holds every instruction back. -/
theorem mxOk_of_ramping {t : Nat} {d : Dev} (e : QEntry) (h : (d.tile t).rampUntil ≠ 0) : mxOk t d e = false := decide_eq_false h

/-- So no start of the matrix stream, of whatever opcode and effect, changes anything. -/
theorem State.mxStart_held {s : State} {t op : Nat} {ecc : SramEv} {act : Dev → QEntry → Dev} (h : (s.dev.tile t).rampUntil ≠ 0) :
    (s.runDev fun d => d.queued t op (.start ecc) (mxOk t) act) = .next s :=
  State.runDev_unchanged (Dev.start_held fun e => mxOk_of_ramping e h)

/-- RAMP_RELEASE at or after the end of the delay ends the hold. -/
theorem rampRelease_due {t : Fin 64} {s : State} (hl : s.live = true) (hramp : (s.dev.tile t).rampUntil ≠ 0)
    (hdue : (s.dev.tile t).rampUntil ≤ s.dev.nowNs) :
    exec (.rampRelease t) s = .next (s.onDev fun d => d.setTile t { d.tile t with rampUntil := 0 }) :=
  calc exec (.rampRelease t) s
      = s.runDev fun d => if (d.tile t).rampUntil ≠ 0 ∧ (d.tile t).rampUntil ≤ d.nowNs then
          d.setTile t { d.tile t with rampUntil := 0 } else d := rfl
    _ = _ := by rw [State.runDev_live _ hl, State.onDev, if_pos ⟨hramp, hdue⟩]; rfl

/-- Settles O20: a start of the matrix stream asks mxOk, which is false during the ramp delay; RAMP_RELEASE sets the delay to 0 once it is due. -/
theorem rampHoldsTheMatrixStream : Obligations.RampHoldsTheMatrixStream :=
  ⟨fun _ _ _ _ hramp => ⟨State.mxStart_held hramp, State.mxStart_held hramp, State.mxStart_held hramp⟩,
    fun _ _ hl hramp hdue => rampRelease_due hl hramp hdue⟩

end Sys2Proof.Machine
end

section
/-! PROOF. The prefetcher's reads and the codec (R219 to R228, R270, R278, R291 to R301): how units, blocks and tables arrive, are judged, decoded,
encoded and placed. From that the statement PrefetchAndCodecEventsComplete. -/

namespace Sys2Proof.Machine

/-- The answer to an event of a running core, named by another effect that agrees with its own on that core. -/
theorem State.runDev_next {s : State} {f g : Dev → Dev} (hl : s.live = true) (h : f s.dev = g s.dev) :
    s.runDev f = .next (s.onDev g) := by
  rw [State.runDev_live _ hl, State.onDev, h]
  rfl

/-! ## What counters and a step's progress leave -/

@[simp] theorem Dev.incReg_step? (d : Dev) (o n id : Nat) : (d.incReg o n).step? id = d.step? id := rfl

@[simp] theorem Dev.incReg_op? (d : Dev) (o n id : Nat) : (d.incReg o n).op? id = d.op? id := rfl

@[simp] theorem Dev.updStep_flash (d : Dev) (id : Nat) (f : PStep → PStep) : (d.updStep id f).flash = d.flash := rfl

@[simp] theorem Dev.updStep_unitPage (d : Dev) (id : Nat) (f : PStep → PStep) (ch k i : Nat) :
    (d.updStep id f).unitPage ch k i = d.unitPage ch k i := rfl

/-! ## Flash reads (R219, R226, R270, R272, R278) -/

theorem unitReadIsIssued : Claims.UnitReadIsIssued := by
  intro row s p off pg hl hstep hsrc hroom hnext hready hpage
  have hfree : ¬ (p.src = 1 ∨ s.dev.readArea < s.dev.readUsed row + 16384) := fun h => h.elim hsrc (Nat.not_lt.mpr hroom)
  refine State.runDev_next hl ?_
  simp only [Dev.unitRead, hstep, if_neg hfree, hnext, Dev.updStep_flash, hready, Bool.not_true, Bool.false_eq_true, if_false,
    Dev.updStep_unitPage, hpage]

theorem pageReadLandsTheUnit : Claims.PageReadLandsTheUnit := by
  intro ch ev s u r d' hl hunit hread
  refine State.runDev_next hl ?_
  simp only [Bool.false_eq_true, if_false, Dev.unitPageRead, hunit, hread]
  cases r <;> rfl

theorem pageReadFillsTheBuffer : Claims.PageReadFillsTheBuffer := by
  intro ch ev s c bs d' hl hcmd hch hop hbegun hpower hread
  refine State.runDev_next hl ?_
  simp only [if_true, hcmd, hch, Dev.hostRead, hop, hbegun, hpower, and_self, hread]
  rfl

/-! ## First reads of blocks (R131, R220, R225 to R227, R294) -/

theorem blockOfAUnitIsJudged : Claims.BlockOfAUnitIsJudged := by
  intro row ev s u p hl hunit hlanded hheld hstep raw n hfits
  refine State.runDev_next hl (congrArg Dev.settleCodec ?_)
  simp only [Dev.landUnit, hunit, Option.filter_some, hlanded, hheld, Bool.not_false, Bool.and_self, if_true, hstep]
  exact if_neg (Nat.not_lt.mpr hfits)

theorem blockOfAStepIsJudged : Claims.BlockOfAStepIsJudged := by
  intro row ev s u p bs d' hl hunit hstep hroom hread
  refine State.runDev_next hl (congrArg Dev.settleCodec ?_)
  simp only [Dev.landStep, hunit, hstep, if_neg (Nat.not_lt.mpr hroom), hread]

theorem blockOfACodecIsJudged : Claims.BlockOfACodecIsJudged := by
  intro row ev s o bs d' hl hop hread
  refine State.runDev_next hl (congrArg Dev.settleCodec ?_)
  simp only [Dev.landCodec, hop, hread]

/-! ## Second reads (R295) -/

theorem Dev.gladeEv_clean {d : Dev} {row : Nat} {ev : BlkEv} (h : ev.glade = .clean) : d.gladeEv row ev = (true, d) := by
  simp [Dev.gladeEv, h]

/-- The second read of a block of a stripe unit judges as many bytes as its header asks for, while they stay within the page. -/
theorem Dev.rereadBlk_page {d d' : Dev} {row pg id off : Nat} {ev : BlkEv} {b : Blk} {data : List Byte}
    (hblk : d.plan.blks.find? (fun b => decide (b.row = row) && decide (b.phase = .reread)) = some b) (hpage : b.page = some pg)
    (howner : b.owner = .step id off) (hread : d.readPage pg false ev.page = (some data, d')) :
    let raw := flipBytes (data.drop b.addr) ev.flip
    let n := if mbfValid raw then (mbfHdr raw).extent else 64
    b.addr + n ≤ 16384 → d.rereadBlk row ev = d'.rejudge b (raw.take n) ev := by
  intro raw n hfits
  simp only [Dev.rereadBlk, hblk, hpage, hread, howner]
  exact if_neg (Nat.not_lt.mpr hfits)

theorem secondReadRepairs : Claims.SecondReadRepairs := by
  intro row ev s b pg id off data d' hl hblk hpage howner hread hclean raw n hfits hok
  refine State.runDev_next hl (congrArg Dev.settleCodec ?_)
  rw [Dev.rereadBlk_page hblk hpage howner hread hfits, Dev.rejudge, Dev.gladeEv_clean hclean]
  exact if_pos (by rw [hok]; rfl)

/-! ## Decoding (R131, R227, R228, R298) -/

/-- Decoding of the first block in its row's order, before which no encode comes, counts the block and places its bytes. -/
theorem Dev.decodeBlk_head {d : Dev} {row : Nat} {b : Blk} {bs : List Byte} (hhead : (d.rowBlks row).head? = some b)
    (hmay : d.mayDecode b = true) (hturn : (d.rowEnc row).any (fun o => decide (o.seq < b.seq)) = false)
    (hbytes : mbfDecode b.table b.bytes = some bs) :
    d.decodeBlk row = (d.incReg (Reg.CD_DEC_BLOCKS row) 1).placeBlk b bs := by
  simp only [Dev.decodeBlk, hhead, Option.filter_some, hmay, hturn, Bool.not_false, Bool.and_self, if_true, hbytes]

theorem decodedBlockIsPlaced : Claims.DecodedBlockIsPlaced := by
  intro row s b p id off bs hl hhead hmay hturn hbytes howner hstep a hfits
  refine State.runDev_next hl (congrArg Dev.settleCodec ?_)
  rw [Dev.decodeBlk_head hhead hmay hturn hbytes]
  simp only [Dev.placeBlk, howner, Dev.incReg_step?, hstep]
  by_cases hdst : p.dst = 2
  · rw [if_pos hdst, if_pos hdst]
  · rw [if_neg hdst, if_neg hdst]
    exact if_neg (Nat.not_lt.mpr (hfits.resolve_left hdst))

theorem decodedCodecBlockIsPlaced : Claims.DecodedCodecBlockIsPlaced := by
  intro row s b o id bs hl hhead hmay hturn hbytes howner hop hfits
  refine State.runDev_next hl (congrArg Dev.settleCodec ?_)
  rw [Dev.decodeBlk_head hhead hmay hturn hbytes]
  simp only [Dev.placeBlk, howner, Dev.incReg_op?, hop]
  exact if_neg (Nat.not_lt.mpr hfits)

/-! ## Tables (R289, R291, R292) -/

theorem tableFetchGivesTheTable : Claims.TableFetchGivesTheTable := by
  intro row dr s b id off t d' hl hblk howner htable
  refine State.runDev_next hl (congrArg Dev.settleCodec ?_)
  rcases htable with ⟨hmiss, hfetch⟩ | ⟨hhit, hok, rfl⟩
  · simp only [Dev.tableFetched, hblk, howner, hmiss, hfetch]
  · simp only [Dev.tableFetched, hblk, howner, hhit, hok, if_true]

theorem tableCommitIsPending : Claims.TableCommitIsPending := fun _ _ hl => State.runDev_next hl rfl

/-! ## Encoding (R131, R222, R298 to R301) -/

/-- The coded block passes the three checks of its place: it fits its stride, lies in the stand of its tenant, and in one granule of the row's channel. -/
theorem encodedBlockIsWritten : Claims.EncodedBlockIsWritten := by
  intro row drs s o ts d' hl hop hturn hroom htables x part blk hstride haddr hgranule hrow
  have hshort : ¬ (o.stride ≠ 0 ∧ o.stride * 64 < blk.length) := fun h => hstride.elim h.1 (Nat.not_le_of_lt h.2)
  have hplaced : ¬ (!(oneGranule o.at_ blk.length) || decide ((d'.dramPlace o.at_).1 ≠ row)) = true := by simp [hgranule, hrow]
  refine State.runDev_next hl (congrArg Dev.settleCodec ?_)
  simp only [Dev.encodeBlk, hop, Option.filter_some, hturn, Bool.not_false, if_true, if_neg (Nat.not_lt.mpr hroom), htables]
  rw [if_neg hshort, haddr]
  exact if_neg hplaced

/-! ## The statement -/

/-- Settles O30: each event finds its unit, block or operation, passes the checks of its row, and has its effect. -/
theorem prefetchAndCodecEventsComplete : Obligations.PrefetchAndCodecEventsComplete :=
  ⟨unitReadIsIssued, pageReadLandsTheUnit, pageReadFillsTheBuffer, blockOfAUnitIsJudged, blockOfAStepIsJudged, blockOfACodecIsJudged,
    secondReadRepairs, decodedBlockIsPlaced, decodedCodecBlockIsPlaced, tableFetchGivesTheTable, encodedBlockIsWritten,
    tableCommitIsPending⟩

end Sys2Proof.Machine
end

section
/-! PROOF. DRAM as a store of bytes (R188, R214): what a byte reads after a write, and from that the statement DramKeepsWhatIsWritten. -/

namespace Sys2Proof.Machine

/-- One byte of DRAM, as the sparse map holds it. -/
theorem Dev.dramBytes_one (d : Dev) (a : Nat) : d.dramBytes a 1 = [tabGet (dramDef d.dram.scr) d.dram.cells a] := rfl

/-- A byte of DRAM after a write: what was written there, or what it was. -/
theorem Dev.dramBytes_one_setDram (d : Dev) (a b : Nat) (bs : List Byte) :
    (d.setDram a bs).dramBytes b 1 = [if h : a ≤ b ∧ b < a + bs.length then bs[b - a] else tabGet (dramDef d.dram.scr) d.dram.cells b] :=
  congrArg (fun x => [x]) (tabGet_tabSetList (dramDef d.dram.scr) d.dram.cells a b bs)

/-- Settles O35, by whether the byte lies in the range written: DRAM is one sparse map. -/
theorem dramKeepsWhatIsWritten : Obligations.DramKeepsWhatIsWritten := by
  intro d a bs b
  rw [Dev.dramBytes_one_setDram, Dev.dramBytes_one]
  by_cases hin : a ≤ b ∧ b < a + bs.length
  · have hplace : b - a < bs.length := by omega
    rw [dif_pos hin, if_pos hin, List.getD_eq_getElem?_getD, List.getElem?_eq_getElem hplace, Option.getD_some]
  · rw [dif_neg hin, if_neg hin]

end Sys2Proof.Machine
end

section
/-! PROOF. The rANS coder (R289, R293, R301): one step of the decoder takes back one step of the encoder, under a sorted table, and keeps the states
between 2^23 and 2^31. From that the statement RansDecodesWhatItEncodes. -/

namespace Sys2Proof.Machine

/-! ## Fields among bytes (R3) -/

/-- A field that lies after some bytes. -/
theorem leAt_append {xs : List Byte} (ys : List Byte) {o : Nat} (n : Nat) (h : xs.length ≤ o) :
    leAt (xs ++ ys) o n = leAt ys (o - xs.length) n := by
  rw [leAt, List.drop_append, List.drop_of_length_le h, List.nil_append, leAt]

/-- A field that the bytes begin with. -/
theorem leAt_leBytes_append (n x : Nat) (ys : List Byte) : leAt (leBytes n x ++ ys) 0 n = x % 256 ^ n := by
  rw [leAt, List.drop_zero, List.take_left' (length_leBytes n x), leNat_leBytes]

/-- The fields of one width, one after the other, read back in their order. -/
theorem map_leAt_flatMap_leBytes {α : Type} (n : Nat) (g : α → Nat) (xs : List α) (ys : List Byte) :
    (List.range xs.length).map (fun i => leAt (xs.flatMap (fun x => leBytes n (g x)) ++ ys) (n * i) n) =
      xs.map (fun x => g x % 256 ^ n) := by
  induction xs with
  | nil => rfl
  | cons x xs ih =>
    have hskip : ∀ i, leAt (leBytes n (g x) ++ (xs.flatMap (fun x => leBytes n (g x)) ++ ys)) (n * (i + 1)) n =
        leAt (xs.flatMap (fun x => leBytes n (g x)) ++ ys) (n * i) n := by
      intro i
      have hle : (leBytes n (g x)).length ≤ n * (i + 1) := by rw [length_leBytes]; exact Nat.le_mul_of_pos_right n i.succ_pos
      rw [leAt_append _ n hle, length_leBytes, Nat.mul_succ, Nat.add_sub_cancel]
    simp only [List.length_cons, List.range_succ_eq_map, List.map_cons, List.map_map, Function.comp_def, List.flatMap_cons, List.append_assoc,
      Nat.mul_zero, leAt_leBytes_append, hskip, ih, Nat.succ_eq_add_one]

/-! ## Replacing an element of a list -/

theorem setAt_eq_set {α : Type} (xs : List α) (i : Nat) (v : α) : setAt xs i v = xs.set i v := by
  induction xs generalizing i with
  | nil => rfl
  | cons x xs ih =>
    cases i with
    | zero => rfl
    | succ i => exact congrArg (x :: ·) (ih i)

/-- An element inside a list, read with a default. -/
theorem getD_of_lt_length {α : Type} {xs : List α} {i : Nat} (d : α) (h : i < xs.length) : xs.getD i d = xs[i] := by
  rw [List.getD_eq_getElem?_getD, List.getElem?_eq_getElem h, Option.getD_some]

/-- A replaced element reads as it was set. -/
theorem getD_setAt_self {α : Type} {xs : List α} {i : Nat} (v d : α) (h : i < xs.length) : (setAt xs i v).getD i d = v := by
  rw [setAt_eq_set, List.getD_eq_getElem?_getD, List.getElem?_set_self h, Option.getD_some]

/-- An element that is put back leaves the list as it was. -/
theorem setAt_setAt_getD {α : Type} {xs : List α} {i : Nat} (v d : α) (h : i < xs.length) : setAt (setAt xs i v) i (xs.getD i d) = xs := by
  rw [setAt_eq_set, setAt_eq_set, List.set_set, getD_of_lt_length d h, List.set_getElem_self]

/-! ## The table (R289) -/

theorem pairwise_of_mbfRises {t : List Byte} (h : mbfRises t = true) : t.Pairwise (· ≤ ·) := by
  induction t with
  | nil => exact .nil
  | cons a t ih =>
    cases t with
    | nil => exact List.pairwise_singleton _ a
    | cons b t =>
      obtain ⟨hdec, hrises⟩ := Bool.and_eq_true_iff.mp h
      have hab : a ≤ b := of_decide_eq_true hdec
      have ht := ih hrises
      refine List.pairwise_cons.mpr ⟨fun c hc => ?_, ht⟩
      rcases List.mem_cons.mp hc with rfl | hc
      · exact hab
      · exact BitVec.le_trans hab ((List.pairwise_cons.mp ht).1 c hc)

@[simp] theorem ransC_cons_self (v : Byte) (t : List Byte) : ransC (v :: t) v = 0 := by simp [ransC, List.findIdx_cons]

theorem ransC_cons_of_ne {a v : Byte} (t : List Byte) (h : a ≠ v) : ransC (a :: t) v = ransC t v + 1 := by
  simp [ransC, List.findIdx_cons, h]

/-- A symbol that no entry is below has the first slots. -/
theorem ransC_eq_zero_of_le {t : List Byte} {v : Byte} (ht : t.Pairwise (· ≤ ·)) (hle : ∀ b ∈ t, v ≤ b) (hv : v ∈ t) : ransC t v = 0 := by
  cases t with
  | nil => exact absurd hv List.not_mem_nil
  | cons b t =>
    have hbv : b = v := by
      rcases List.mem_cons.mp hv with h | h
      · exact h.symm
      · exact BitVec.le_antisymm ((List.pairwise_cons.mp ht).1 v h) (hle b List.mem_cons_self)
    rw [hbv, ransC_cons_self]

/-- The slots of a symbol are the run of `ransF` slots from `ransC` on. -/
theorem getElem?_ransC_add {t : List Byte} (v : Byte) {r : Nat} (ht : t.Pairwise (· ≤ ·)) (hr : r < ransF t v) : t[ransC t v + r]? = some v := by
  induction t generalizing r with
  | nil => exact absurd hr (Nat.not_lt_zero r)
  | cons a t ih =>
    obtain ⟨hle, htail⟩ := List.pairwise_cons.mp ht
    by_cases ha : a = v
    · subst ha
      rw [ransC_cons_self, Nat.zero_add]
      cases r with
      | zero => rfl
      | succ r =>
        have hr' : r < ransF t a := by simpa [ransF] using hr
        have hstart : ransC t a = 0 := ransC_eq_zero_of_le htail hle (List.count_pos_iff.mp (Nat.zero_lt_of_lt hr'))
        simpa [hstart] using ih htail hr'
    · have hr' : r < ransF t v := by simpa [ransF, List.count_cons_of_ne ha] using hr
      rw [ransC_cons_of_ne t ha, Nat.add_right_comm, List.getElem?_cons_succ]
      exact ih htail hr'

/-- The slots of a symbol lie in the table. -/
theorem ransC_add_ransF_le {t : List Byte} {v : Byte} (ht : t.Pairwise (· ≤ ·)) (hf : 0 < ransF t v) : ransC t v + ransF t v ≤ t.length := by
  have hlast := getElem?_ransC_add v ht (Nat.sub_one_lt_of_lt hf)
  have := (List.getElem?_eq_some_iff.mp hlast).1
  omega

/-! ## Spilling and refilling a state (R293) -/

/-- A state of the coder is normal between two symbols. -/
def RansNormal (x : Nat) : Prop := 2 ^ 23 ≤ x ∧ x < 2 ^ 31

theorem ransRefill_of_le {x : Nat} (bs : List Byte) (h : 2 ^ 23 ≤ x) : ransRefill x bs = some (x, bs) := by
  cases bs <;> exact if_neg (Nat.not_lt.mpr h)

/-- The refill takes back a byte that was spilled. -/
theorem ransRefill_div_cons {x : Nat} (bs : List Byte) (h : x < 2 ^ 31) :
    ransRefill (x / 256) (BitVec.ofNat 8 x :: bs) = ransRefill x bs := by
  have hsmall : x / 256 < 0x800000 := by omega
  have hwhole : x / 256 * 256 + (BitVec.ofNat 8 x).toNat = x := by rw [BitVec.toNat_ofNat]; omega
  rw [ransRefill, if_pos hsmall, hwhole]

/-- The refill takes back all that was spilled. -/
theorem ransRefill_ransSpill (lim n : Nat) {x : Nat} (bs : List Byte) (h : x < 2 ^ 31) :
    ransRefill (ransSpill lim n x bs).1 (ransSpill lim n x bs).2 = ransRefill x bs := by
  induction n generalizing x bs with
  | zero => rfl
  | succ n ih =>
    rw [ransSpill]
    split
    · rw [ih _ (by omega), ransRefill_div_cons bs h]
    · rfl

/-- A spill stops below its limit, and it does not go on below the 256th part of the limit. -/
theorem ransSpill_bounds {m x : Nat} (n : Nat) (bs : List Byte) (hm : m * 2 ^ 11 ≤ x) (hx : x < m * 2 ^ 19 * 256 ^ n) :
    m * 2 ^ 11 ≤ (ransSpill (2 ^ 19 * m) n x bs).1 ∧ (ransSpill (2 ^ 19 * m) n x bs).1 < m * 2 ^ 19 := by
  induction n generalizing x bs with
  | zero => exact ⟨hm, by rwa [Nat.pow_zero, Nat.mul_one] at hx⟩
  | succ n ih =>
    rw [ransSpill]
    split
    next hlim => exact ih _ (by omega) (Nat.div_lt_of_lt_mul (by rwa [Nat.mul_comm, Nat.mul_assoc, ← Nat.pow_succ]))
    next hlim => exact ⟨hm, by omega⟩

/-! ## One symbol (R293, R301) -/

/-- The state after a symbol of `f` slots from slot `c` on. -/
def ransPush (f c x : Nat) : Nat := x / max f 1 * 4096 + x % max f 1 + c

/-- The slot that a pushed state names is one of its symbol's, and the state below it comes back. -/
theorem ransPush_parts {f c : Nat} (x : Nat) (hf : 0 < f) (hc : c + f ≤ 4096) :
    ransPush f c x % 4096 = c + x % f ∧ ransPush f c x / 4096 = x / f := by
  have hr : x % f < f := Nat.mod_lt x hf
  rw [ransPush, Nat.max_eq_left hf]
  omega

theorem ransPush_pop {f c : Nat} (x : Nat) (hf : 0 < f) (hc : c + f ≤ 4096) :
    f * (ransPush f c x / 4096) + ransPush f c x % 4096 - c = x := by
  obtain ⟨hmod, hdiv⟩ := ransPush_parts x hf hc
  have := Nat.div_add_mod x f
  rw [hmod, hdiv]
  omega

theorem ransPush_normal {f c x : Nat} (hf : 0 < f) (hc : c + f ≤ 4096) (hlo : f * 2 ^ 11 ≤ x) (hhi : x < f * 2 ^ 19) :
    RansNormal (ransPush f c x) := by
  obtain ⟨-, hdiv⟩ := ransPush_parts x hf hc
  have h1 : 2 ^ 11 ≤ x / f := (Nat.le_div_iff_mul_le hf).mpr (by omega)
  have h2 : x / f < 2 ^ 19 := Nat.div_lt_of_lt_mul hhi
  exact ⟨by omega, by omega⟩

/-- Four states, all normal. -/
def RansStates (xs : List Nat) : Prop := xs.length = 4 ∧ ∀ x ∈ xs, RansNormal x

theorem RansStates.setAt {xs : List Nat} (hxs : RansStates xs) (i : Nat) {x : Nat} (hx : RansNormal x) : RansStates (setAt xs i x) := by
  obtain ⟨hlen, hall⟩ := hxs
  rw [setAt_eq_set]
  refine ⟨by rw [List.length_set, hlen], fun y hy => ?_⟩
  rcases List.mem_or_eq_of_mem_set hy with h | h
  · exact hall y h
  · exact h ▸ hx

theorem RansStates.getD {xs : List Nat} (hxs : RansStates xs) (i : Nat) : RansNormal (xs.getD (i % 4) 0) := by
  obtain ⟨hlen, hall⟩ := hxs
  have hi : i % 4 < xs.length := hlen.symm ▸ Nat.mod_lt i (by decide)
  rw [getD_of_lt_length 0 hi]
  exact hall _ (List.getElem_mem hi)

/-- The state and the bytes after the spill that makes room for a symbol. -/
def ransRoom (t : List Byte) (v : Byte) (x : Nat) (out : List Byte) : Nat × List Byte := ransSpill (2 ^ 19 * ransF t v) 4 x out

theorem ransEnc_cons (t : List Byte) (v : Byte) (vs : List Byte) (i : Nat) (xs : List Nat) (out : List Byte) :
    ransEnc t (v :: vs) i xs out =
      ransEnc t vs (i - 1) (setAt xs (i % 4) (ransPush (ransF t v) (ransC t v) (ransRoom t v (xs.getD (i % 4) 0) out).1))
        (ransRoom t v (xs.getD (i % 4) 0) out).2 := rfl

section

variable {t : List Byte} {v : Byte}

/-- A symbol that has a slot leaves its state normal. -/
theorem ransPush_ransRoom_normal {x : Nat} (out : List Byte) (hlen : t.length = 4096) (ht : t.Pairwise (· ≤ ·)) (hf : 0 < ransF t v)
    (hx : RansNormal x) : RansNormal (ransPush (ransF t v) (ransC t v) (ransRoom t v x out).1) := by
  obtain ⟨hlo, hhi⟩ := hx
  have hc := hlen ▸ ransC_add_ransF_le ht hf
  obtain ⟨h1, h2⟩ := ransSpill_bounds (m := ransF t v) (x := x) 4 out (by omega) (by omega)
  exact ransPush_normal hf hc h1 h2

/-- One step of the decoder takes back one step of the encoder: it finds the symbol, the states and the bytes. -/
theorem ransDec_push {xs : List Nat} (n i : Nat) (out : List Byte) (hlen : t.length = 4096) (ht : t.Pairwise (· ≤ ·)) (hf : 0 < ransF t v)
    (hxs : RansStates xs) :
    ransDec t (n + 1) i (setAt xs (i % 4) (ransPush (ransF t v) (ransC t v) (ransRoom t v (xs.getD (i % 4) 0) out).1))
        (ransRoom t v (xs.getD (i % 4) 0) out).2 =
      (ransDec t n (i + 1) xs out).map (v :: ·) := by
  have hi : i % 4 < xs.length := hxs.1.symm ▸ Nat.mod_lt i (by decide)
  have hx : RansNormal (xs.getD (i % 4) 0) := hxs.getD i
  have hc := hlen ▸ ransC_add_ransF_le ht hf
  generalize hroom : ransRoom t v (xs.getD (i % 4) 0) out = room
  have hsym : t.getD (ransPush (ransF t v) (ransC t v) room.1 % 4096) 0 = v := by
    rw [(ransPush_parts room.1 hf hc).1, List.getD_eq_getElem?_getD, getElem?_ransC_add v ht (Nat.mod_lt _ hf), Option.getD_some]
  have hrefill : ransRefill room.1 room.2 = some (xs.getD (i % 4) 0, out) := by
    rw [← hroom, ransRoom, ransRefill_ransSpill _ _ _ hx.2, ransRefill_of_le _ hx.1]
  simp only [ransDec, getD_setAt_self _ _ hi, hsym, ransPush_pop room.1 hf hc, hrefill, setAt_setAt_getD _ _ hi]

/-! ## A sequence of symbols -/

/-- What the encoder leaves decodes to the symbols it took, and then to what the bytes before it decode to. -/
theorem ransDec_ransEnc (hlen : t.length = 4096) (ht : t.Pairwise (· ≤ ·)) {vs : List Byte} (hvs : ∀ v ∈ vs, 0 < ransF t v) (n : Nat)
    {xs : List Nat} (out : List Byte) (hxs : RansStates xs) :
    RansStates (ransEnc t vs (vs.length - 1) xs out).1 ∧
      ransDec t (vs.length + n) 0 (ransEnc t vs (vs.length - 1) xs out).1 (ransEnc t vs (vs.length - 1) xs out).2 =
        (ransDec t n vs.length xs out).map (vs.reverse ++ ·) := by
  induction vs generalizing n xs out with
  | nil => exact ⟨hxs, by simp [ransEnc]⟩
  | cons v vs ih =>
    obtain ⟨hf, hrest⟩ := List.forall_mem_cons.mp hvs
    have hnext := hxs.setAt (vs.length % 4) (ransPush_ransRoom_normal out hlen ht hf (hxs.getD vs.length))
    obtain ⟨hstates, hdec⟩ := ih hrest (n + 1) (ransRoom t v (xs.getD (vs.length % 4) 0) out).2 hnext
    rw [List.length_cons, Nat.add_sub_cancel, ransEnc_cons]
    refine ⟨hstates, ?_⟩
    rw [Nat.add_right_comm, Nat.add_assoc, hdec, ransDec_push n vs.length out hlen ht hf hxs, Option.map_map]
    congr 1
    funext ws
    simp

/-- The four states stand before the bytes, and the decoder finds both. -/
theorem ransDecode_flatMap {xs : List Nat} (d : Nat) (out : List Byte) (hxs : RansStates xs) :
    ransDecode t d (xs.flatMap (leBytes 4) ++ out) = ransDec t d 0 xs out := by
  obtain ⟨hlen, hall⟩ := hxs
  have hstates : (List.range 4).map (fun j => leAt (xs.flatMap (leBytes 4) ++ out) (4 * j) 4) = xs := by
    refine (hlen ▸ map_leAt_flatMap_leBytes 4 id xs out).trans ?_
    exact (List.map_congr_left fun x hx => Nat.mod_eq_of_lt (Nat.lt_trans (hall x hx).2 (by decide))).trans (List.map_id xs)
  have hbytes : (xs.flatMap (leBytes 4) ++ out).drop 16 = out :=
    List.drop_left' ((length_flatMap_leBytes 4 id xs).trans (by rw [hlen]))
  rw [ransDecode, hstates, hbytes]

end

/-- The states that a coding begins with (R301), where its decoding ends (R293). -/
theorem ransStates_start : RansStates (List.replicate 4 0x800000) :=
  ⟨List.length_replicate, fun x hx => (List.eq_of_mem_replicate hx).symm ▸ ⟨by decide, by decide⟩⟩

/-- Settles O33, by induction over the symbols in the order that the encoder takes them: each step of the decoder takes back one of the encoder. -/
theorem ransDecodesWhatItEncodes : Obligations.RansDecodesWhatItEncodes := by
  intro t q hlen hrises helig
  have hslot : ∀ v ∈ q.reverse, 0 < ransF t v := fun v hv =>
    of_decide_eq_true (List.all_eq_true.mp helig v (List.mem_reverse.mp hv))
  obtain ⟨hstates, hdec⟩ := ransDec_ransEnc hlen (pairwise_of_mbfRises hrises) hslot 0 [] ransStates_start
  rw [List.length_reverse] at hstates hdec
  calc ransDecode t q.length (ransEncode t q)
      = ransDec t q.length 0 _ _ := ransDecode_flatMap q.length _ hstates
    _ = (ransDec t 0 q.length (List.replicate 4 0x800000) []).map (q.reverse.reverse ++ ·) := hdec
    _ = some q := by simp [ransDec]

end Sys2Proof.Machine
end

section
/-! PROOF. The Merand block format (R286, R287, R294, R301, Tables 12-2 to 12-4): the transforms as maps of pairs of bytes, and the header and the
sub-streams of a block that is stored whole. From that the statements BlockTransformsInvert and StoredBlocksDecodeToTheirData. -/

namespace Sys2Proof.Machine

/-! ## The transforms, a pair of bytes at a time (R287, Table 12-4) -/

/-- What transforms 1 to 3 make of two neighbouring bytes: one byte for each half of the sequence. -/
def mbfSplitPair (x p q : Nat) : Nat × Nat :=
  match x with
  | 1 => (p % 16 + q % 16 * 16, p / 16 + q / 16 * 16)
  | 2 => ((p + q * 256) / 128 % 256, (p + q * 256) / 32768 * 128 + (p + q * 256) % 128)
  | _ => (p / 8 % 16 + q / 8 % 16 * 16, p / 128 * 8 + p % 8 + (q / 128 * 8 + q % 8) * 16)

/-- What their inverses make of a byte of each half. -/
def mbfJoinPair (x u w : Nat) : Nat × Nat :=
  match x with
  | 1 => (u % 16 + w % 16 * 16, u / 16 + w / 16 * 16)
  | 2 => ((w / 128 * 32768 + u * 128 + w % 128) % 256, (w / 128 * 32768 + u * 128 + w % 128) / 256)
  | _ => (w % 16 / 8 * 128 + u % 16 * 8 + w % 16 % 8, w / 16 / 8 * 128 + u / 16 * 8 + w / 16 % 8)

/-- The two halves of a byte made of two numbers of 4 bits. -/
theorem nibbles_of_lt {a b : Nat} (ha : a < 16) (hb : b < 16) : (a + b * 16) % 256 % 16 = a ∧ (a + b * 16) % 256 / 16 = b := by omega

/-- A byte put together again from its exponent field, its sign and its low bits. -/
theorem exponent_join (p : Nat) : (p / 128 * 8 + p % 8) / 8 * 128 + p / 8 % 16 * 8 + (p / 128 * 8 + p % 8) % 8 = p := by
  have hsign : p / 8 / 16 = p / 128 := Nat.div_div_eq_div_mul p 8 16
  omega

/-- Two bytes come back from the two that they were split into. -/
theorem mbfJoinPair_mbfSplitPair (x : Nat) {p q : Nat} (hp : p < 256) (hq : q < 256) :
    mbfJoinPair x ((mbfSplitPair x p q).1 % 256) ((mbfSplitPair x p q).2 % 256) = (p, q) := by
  match x with
  | 1 => simp only [mbfJoinPair, mbfSplitPair, Prod.mk.injEq]; omega
  | 2 => simp only [mbfJoinPair, mbfSplitPair, Prod.mk.injEq]; omega
  | 0 | _ + 3 =>
    obtain ⟨hexpP, hexpQ⟩ := nibbles_of_lt (a := p / 8 % 16) (b := q / 8 % 16) (by omega) (by omega)
    obtain ⟨hmanP, hmanQ⟩ := nibbles_of_lt (a := p / 128 * 8 + p % 8) (b := q / 128 * 8 + q % 8) (by omega) (by omega)
    simp only [mbfJoinPair, mbfSplitPair, hexpP, hexpQ, hmanP, hmanQ, exponent_join]

/-- Byte `i` of a part, as a number. -/
def byteAt (b : List Byte) (i : Nat) : Nat := (b.getD i 0).toNat

theorem byteAt_lt (b : List Byte) (i : Nat) : byteAt b i < 256 := (b.getD i 0).isLt

/-- A sequence given by its two halves of `n` bytes. -/
def mbfHalves (n : Nat) (f g : Nat → Nat) : List Byte :=
  (List.range n).map (fun m => BitVec.ofNat 8 (f m)) ++ (List.range n).map (fun m => BitVec.ofNat 8 (g m))

/-- A part given by its `n` pairs of bytes. -/
def mbfPairs (n : Nat) (f : Nat → Nat × Nat) : List Byte :=
  (List.range n).flatMap (fun m => [BitVec.ofNat 8 (f m).1, BitVec.ofNat 8 (f m).2])

theorem mbfFwd_of_ne_zero {x : Nat} (b : List Byte) (hx : x ≠ 0) :
    mbfFwd x b = mbfHalves (b.length / 2) (fun m => (mbfSplitPair x (byteAt b (2 * m)) (byteAt b (2 * m + 1))).1)
      (fun m => (mbfSplitPair x (byteAt b (2 * m)) (byteAt b (2 * m + 1))).2) := by
  match x with
  | 0 => exact absurd rfl hx
  | 1 | 2 | _ + 3 => rfl

theorem mbfInv_of_ne_zero {x : Nat} (b : List Byte) (hx : x ≠ 0) :
    mbfInv x b = mbfPairs (b.length / 2) (fun m => mbfJoinPair x (byteAt b m) (byteAt b (b.length / 2 + m))) := by
  match x with
  | 0 => exact absurd rfl hx
  | 1 | 2 | _ + 3 => rfl

@[simp] theorem length_mbfHalves (n : Nat) (f g : Nat → Nat) : (mbfHalves n f g).length = 2 * n := by
  simp [mbfHalves, Nat.two_mul]

theorem byteAt_mbfHalves_low {n m : Nat} (f g : Nat → Nat) (h : m < n) : byteAt (mbfHalves n f g) m = f m % 256 := by
  simp [byteAt, mbfHalves, List.getElem?_append_left, h]

theorem byteAt_mbfHalves_high {n m : Nat} (f g : Nat → Nat) (h : m < n) : byteAt (mbfHalves n f g) (n + m) = g m % 256 := by
  simp [byteAt, mbfHalves, h]

/-- A part of even length is made of its own pairs. -/
theorem mbfPairs_byteAt {n : Nat} {b : List Byte} {f : Nat → Nat × Nat} (hlen : b.length = 2 * n)
    (hf : ∀ m < n, f m = (byteAt b (2 * m), byteAt b (2 * m + 1))) : mbfPairs n f = b := by
  induction n generalizing b f with
  | zero => exact (List.length_eq_zero_iff.mp hlen).symm
  | succ n ih =>
    match b, hlen with
    | p :: q :: b, hlen =>
      have hrest : mbfPairs n (fun m => f (m + 1)) = b := ih (Nat.add_right_cancel (m := 2) hlen) fun m hm => hf (m + 1) (by omega)
      have hfirst : f 0 = (p.toNat, q.toNat) := hf 0 n.succ_pos
      rw [mbfPairs, List.range_succ_eq_map, List.flatMap_cons, List.flatMap_map, hfirst]
      simpa [mbfPairs] using hrest

/-- A transform keeps the length of a part (R287). -/
theorem length_mbfFwd {x : Nat} {b : List Byte} (h : x = 0 ∨ b.length % 2 = 0) : (mbfFwd x b).length = b.length := by
  by_cases hx : x = 0
  · rw [hx]; rfl
  · rw [mbfFwd_of_ne_zero b hx, length_mbfHalves]
    omega

/-- Settles O31, pair by pair: the inverse joins the two bytes that the transform split. -/
theorem blockTransformsInvert : Obligations.BlockTransformsInvert := by
  intro x b h
  by_cases hx : x = 0
  · rw [hx]; rfl
  · have hlen : b.length = 2 * (b.length / 2) := by omega
    have hhalf : (mbfFwd x b).length / 2 = b.length / 2 := by rw [length_mbfFwd h]
    rw [mbfInv_of_ne_zero _ hx, hhalf]
    refine mbfPairs_byteAt hlen fun m hm => ?_
    rw [mbfFwd_of_ne_zero b hx, byteAt_mbfHalves_low _ _ hm, byteAt_mbfHalves_high _ _ hm,
      mbfJoinPair_mbfSplitPair x (byteAt_lt _ _) (byteAt_lt _ _)]

/-! ## The sub-streams of a block (R286, R287) -/

/-- The lengths of the first sub-streams make up the data that they cover. -/
theorem sum_mbfDs (dlen k : Nat) : ((List.range k).map (mbfDs dlen)).sum = min dlen (1024 * k) := by
  induction k with
  | zero => simp
  | succ k ih =>
    rw [List.range_succ, List.map_append, List.sum_append, ih, List.map_singleton, List.sum_singleton, mbfDs]
    omega

/-- Sub-stream `s` of a sequence. -/
def mbfPart (q : List Byte) (s : Nat) : List Byte := (q.drop (1024 * s)).take 1024

theorem length_mbfPart (q : List Byte) (s : Nat) : (mbfPart q s).length = mbfDs q.length s := by
  rw [mbfPart, List.length_take, List.length_drop, mbfDs]

/-- A sub-stream lies where the lengths before it end. -/
theorem mbfPart_eq_take_drop (q : List Byte) (s : Nat) :
    (q.drop (min q.length (1024 * s))).take (mbfDs q.length s) = mbfPart q s := by
  rw [mbfPart, mbfDs]
  rcases Nat.le_total (1024 * s) q.length with h | h
  · rw [Nat.min_eq_right h, ← List.length_drop, ← List.take_eq_take_min]
  · rw [Nat.min_eq_left h, List.drop_length, List.drop_of_length_le h, List.take_nil, List.take_nil]

theorem chunks_eq_map {α : Type} (n k : Nat) (l : List α) : chunks n k l = (List.range k).map (fun s => (l.drop (n * s)).take n) := by
  induction k generalizing l with
  | zero => rfl
  | succ k ih =>
    rw [chunks, ih, List.range_succ_eq_map, List.map_cons, List.map_map]
    simp [Function.comp_def, List.drop_drop, Nat.mul_succ, Nat.add_comm]

/-- Sixteen sub-streams make up a sequence of up to 16,384 bytes. -/
theorem flatMap_mbfPart {q : List Byte} (h : q.length ≤ 16384) : (List.range 16).flatMap (mbfPart q) = q := by
  rw [List.flatMap_def]
  exact (congrArg List.flatten (chunks_eq_map 1024 16 q)).symm.trans (flatten_chunks h)

/-- The bits below `k` that `p` picks. -/
def sumOfBits (p : Nat → Bool) (k : Nat) : Nat := ((List.range k).map (fun s => if p s then 2 ^ s else 0)).sum

theorem sumOfBits_succ (p : Nat → Bool) (k : Nat) : sumOfBits p (k + 1) = sumOfBits p k + if p k then 2 ^ k else 0 := by
  rw [sumOfBits, List.range_succ, List.map_append, List.sum_append, List.map_singleton, List.sum_singleton, sumOfBits]

theorem sumOfBits_lt (p : Nat → Bool) (k : Nat) : sumOfBits p k < 2 ^ k := by
  induction k with
  | zero => exact Nat.one_pos
  | succ k ih =>
    rw [sumOfBits_succ, Nat.pow_succ]
    split <;> omega

theorem testBit_sumOfBits (p : Nat → Bool) {k i : Nat} (h : i < k) : (sumOfBits p k).testBit i = p i := by
  induction k with
  | zero => exact absurd h (Nat.not_lt_zero i)
  | succ k ih =>
    have hlt := sumOfBits_lt p k
    rw [sumOfBits_succ]
    rcases Nat.lt_succ_iff_lt_or_eq.mp h with hi | rfl
    · split
      · rw [Nat.add_comm, Nat.testBit_two_pow_add_gt hi, ih hi]
      · rw [Nat.add_zero, ih hi]
    · split
      next hp => rw [Nat.add_comm, Nat.testBit_two_pow_add_eq, Nat.testBit_lt_two_pow hlt, hp]; rfl
      next hp => rw [Nat.add_zero, Nat.testBit_lt_two_pow hlt, eq_false_of_ne_true hp]

/-! ## The header of a block that is stored whole (Tables 12-2, 12-3) -/

/-- The bits of `stored`: every sub-stream that is not empty. -/
def mbfAllStored (n : Nat) : Nat := sumOfBits (fun s => decide (0 < mbfDs n s)) 16

/-- The header up to its CRC, a field of Table 12-2 after the other. -/
def mbfStoredHdr (x n : Nat) : List Byte :=
  leBytes 4 0x3146424D ++ (leBytes 1 1 ++ (leBytes 1 0 ++ (leBytes 1 x ++ (leBytes 1 (x / 256) ++ (leBytes 2 n ++ (leBytes 2 n ++
    (leBytes 2 (mbfAllStored n) ++ (leBytes 2 (mbfAllStored n / 65536) ++ ((List.range 16).flatMap (fun s => leBytes 2 (mbfDs n s)) ++
      leBytes 12 0)))))))))

/-- The block: header, CRC, body. -/
def mbfStoredBlock (x : Nat) (q : List Byte) : List Byte :=
  mbfStoredHdr x q.length ++ (leBytes 4 (crc32c (mbfStoredHdr x q.length ++ q)) ++ q)

theorem length_mbfStoredHdr (x n : Nat) : (mbfStoredHdr x n).length = 60 := by
  simp only [mbfStoredHdr, List.length_append, length_leBytes, length_flatMap_leBytes, List.length_range]

/-- A number's bytes, cut in two. -/
theorem leBytes_add (m n x : Nat) : leBytes (m + n) x = leBytes m x ++ leBytes n (x / 256 ^ m) := by
  induction m generalizing x with
  | zero => simp [leBytes]
  | succ m ih => rw [Nat.succ_add, leBytes, leBytes, ih, Nat.div_div_eq_div_mul, Nat.pow_succ', List.cons_append]

/-- Without a table a sub-stream is stored, unless it is empty (R301). -/
theorem mbfSub_none (q : List Byte) (s : Nat) :
    (if (mbfPart q s).isEmpty then (false, []) else mbfSub none (mbfPart q s)) = (decide (0 < mbfDs q.length s), mbfPart q s) := by
  rw [← length_mbfPart]
  cases mbfPart q s <;> rfl

/-- A block of `n` bytes under transform `x`, from its sub-streams and whether each is stored. -/
def mbfAssemble (x n : Nat) (subs : List (Bool × List Byte)) : List Byte :=
  let stored := ((List.range 16).map (fun s => if (subs.getD s (false, [])).1 then 2 ^ s else 0)).sum
  let hdr := leBytes 4 0x3146424D ++ leBytes 1 1 ++ leBytes 1 0 ++ leBytes 2 x ++ leBytes 2 n ++ leBytes 2 n ++ leBytes 4 stored ++
    subs.flatMap (fun s => leBytes 2 s.2.length) ++ leBytes 12 0
  hdr ++ leBytes 4 (crc32c (hdr ++ subs.flatMap (·.2))) ++ subs.flatMap (·.2)

theorem mbfEncode_none_eq_assemble (x : Nat) (b : List Byte) :
    mbfEncode x none b = mbfAssemble x b.length ((List.range 16).map (fun s =>
      if (mbfPart (mbfFwd x b) s).isEmpty then (false, []) else mbfSub none (mbfPart (mbfFwd x b) s))) := rfl

/-- The block of a sequence of which every sub-stream is stored. -/
theorem mbfAssemble_stored (x : Nat) {q : List Byte} (hlen : q.length ≤ 16384) :
    mbfAssemble x q.length ((List.range 16).map (fun s => (decide (0 < mbfDs q.length s), mbfPart q s))) = mbfStoredBlock x q := by
  have hstored : ((List.range 16).map (fun s => if (((List.range 16).map (fun s =>
      (decide (0 < mbfDs q.length s), mbfPart q s))).getD s (false, [])).1 then 2 ^ s else 0)).sum = mbfAllStored q.length := by
    refine congrArg List.sum (List.map_congr_left fun s hs => ?_)
    simp [List.mem_range.mp hs]
  have htype : leBytes 2 x = leBytes 1 x ++ leBytes 1 (x / 256) := leBytes_add 1 1 x
  have hbits : leBytes 4 (mbfAllStored q.length) = leBytes 2 (mbfAllStored q.length) ++ leBytes 2 (mbfAllStored q.length / 65536) :=
    leBytes_add 2 2 _
  simp only [mbfAssemble, hstored, List.flatMap_map, flatMap_mbfPart hlen, length_mbfPart, htype, hbits, mbfStoredBlock, mbfStoredHdr,
    List.append_assoc]

/-- Without a table a block is stored whole (R301). -/
theorem mbfEncode_none {x : Nat} {b : List Byte} (h : x = 0 ∨ b.length % 2 = 0) (hlen : b.length ≤ 16384) :
    mbfEncode x none b = mbfStoredBlock x (mbfFwd x b) := by
  have hq := length_mbfFwd h
  rw [mbfEncode_none_eq_assemble, List.map_congr_left fun s _ => mbfSub_none (mbfFwd x b) s]
  exact hq ▸ mbfAssemble_stored x (hq.symm ▸ hlen)

/-! ## Reading the block back -/

/-- Every field of the header as it was written, each modulo its width. -/
theorem leAt_mbfStoredBlock (x : Nat) (q : List Byte) :
    leAt (mbfStoredBlock x q) 0 4 = 0x3146424D ∧ leAt (mbfStoredBlock x q) 4 1 = 1 ∧ leAt (mbfStoredBlock x q) 5 1 = 0 ∧
      leAt (mbfStoredBlock x q) 6 1 = x % 256 ∧ leAt (mbfStoredBlock x q) 7 1 = x / 256 % 256 ∧
      leAt (mbfStoredBlock x q) 8 2 = q.length % 65536 ∧ leAt (mbfStoredBlock x q) 10 2 = q.length % 65536 ∧
      leAt (mbfStoredBlock x q) 12 2 = mbfAllStored q.length % 65536 ∧ leAt (mbfStoredBlock x q) 14 2 = mbfAllStored q.length / 65536 % 65536 ∧
      (List.range 16).map (fun s => leAt (mbfStoredBlock x q) (16 + 2 * s) 2) = (List.range 16).map (fun s => mbfDs q.length s % 65536) ∧
      leAt (mbfStoredBlock x q) 48 12 = 0 ∧
      leAt (mbfStoredBlock x q) 60 4 = crc32c (mbfStoredHdr x q.length ++ q) % 2 ^ 32 := by
  have hslen : ((List.range 16).flatMap (fun s => leBytes 2 (mbfDs q.length s))).length = 32 := length_flatMap_leBytes 2 _ _
  rw [mbfStoredBlock]
  generalize crc32c (mbfStoredHdr x q.length ++ q) = c
  simp only [mbfStoredHdr, List.append_assoc]
  refine ⟨?_, ?_, ?_, ?_, ?_, ?_, ?_, ?_, ?_, (List.map_congr_left fun s _ => ?_).trans
    (map_leAt_flatMap_leBytes 2 (mbfDs q.length) (List.range 16) (leBytes 12 0 ++ (leBytes 4 c ++ q))), ?_, ?_⟩
  all_goals simp +arith [leAt_append, length_leBytes, leAt_leBytes_append, hslen]

theorem mbfDs_le (n s : Nat) : mbfDs n s ≤ 1024 := Nat.min_le_left _ _

/-- The header of the block reads as it was written. -/
theorem mbfHdr_mbfStoredBlock {x : Nat} {q : List Byte} (hx : x < 4) (hlen : q.length ≤ 16384) :
    mbfHdr (mbfStoredBlock x q) =
      { table := 0, x0 := x, x1 := 0, dlen := q.length, split := q.length, stored := mbfAllStored q.length,
        slen := (List.range 16).map (mbfDs q.length), crc := crc32c (mbfStoredHdr x q.length ++ q) } := by
  obtain ⟨-, -, htable, hxform, -, hdlen, hsplit, hstored, -, hslen, -, hcrc⟩ := leAt_mbfStoredBlock x q
  have hbits : mbfAllStored q.length < 65536 := sumOfBits_lt _ 16
  have hds : (List.range 16).map (fun s => mbfDs q.length s % 65536) = (List.range 16).map (mbfDs q.length) :=
    List.map_congr_left fun s _ => Nat.mod_eq_of_lt (Nat.lt_of_le_of_lt (mbfDs_le _ s) (by decide))
  rw [mbfHdr, htable, hxform, hdlen, hsplit, hstored, hslen, hcrc, hds, Nat.mod_eq_of_lt (crc32c_lt _), Nat.mod_eq_of_lt hbits,
    MbfHdr.mk.injEq]
  exact ⟨rfl, by omega, by omega, by omega, by omega, rfl, rfl, rfl⟩

theorem length_mbfStoredBlock (x : Nat) (q : List Byte) : (mbfStoredBlock x q).length = 64 + q.length := by
  rw [mbfStoredBlock, List.length_append, List.length_append, length_mbfStoredHdr, length_leBytes, ← Nat.add_assoc]

/-- What follows the CRC is the sequence. -/
theorem drop_mbfStoredBlock (x : Nat) (q : List Byte) (o : Nat) : (mbfStoredBlock x q).drop (64 + o) = q.drop o := by
  have hsplit : mbfStoredBlock x q = (mbfStoredHdr x q.length ++ leBytes 4 (crc32c (mbfStoredHdr x q.length ++ q))) ++ q :=
    (List.append_assoc _ _ _).symm
  have hlen : (mbfStoredHdr x q.length ++ leBytes 4 (crc32c (mbfStoredHdr x q.length ++ q))).length = 64 := by
    rw [List.length_append, length_mbfStoredHdr, length_leBytes]
  rw [← List.drop_drop, hsplit, List.drop_left' hlen]

theorem take_mbfStoredBlock (x : Nat) (q : List Byte) : (mbfStoredBlock x q).take 60 = mbfStoredHdr x q.length :=
  List.take_left' (length_mbfStoredHdr x q.length)

theorem testBit_mbfAllStored (n : Nat) {s : Nat} (hs : s < 16) : (mbfAllStored n).testBit s = decide (0 < mbfDs n s) :=
  testBit_sumOfBits _ hs

theorem getD_map_mbfDs (n : Nat) {s : Nat} (hs : s < 16) : ((List.range 16).map (mbfDs n)).getD s 0 = mbfDs n s := by
  simp [hs]

/-- The lengths and the bits of `stored` agree (Table 12-3). -/
theorem mbfStored_lengths_agree (n : Nat) {s : Nat} (hs : s < 16) :
    (if mbfDs n s = 0 then decide (((List.range 16).map (mbfDs n)).getD s 0 = 0) && !((mbfAllStored n).testBit s)
      else if (mbfAllStored n).testBit s then decide (((List.range 16).map (mbfDs n)).getD s 0 = mbfDs n s)
      else decide (16 ≤ ((List.range 16).map (mbfDs n)).getD s 0 ∧ ((List.range 16).map (mbfDs n)).getD s 0 ≤ 2048)) = true := by
  rw [getD_map_mbfDs n hs, testBit_mbfAllStored n hs]
  rcases Nat.eq_zero_or_pos (mbfDs n s) with h | h
  · simp [h]
  · simp [h, Nat.ne_of_gt h]

/-- The header of the block is valid (Table 12-3). -/
theorem mbfValid_mbfStoredBlock {x : Nat} {q : List Byte} (hx : x < 4) (hlen : q.length ≤ 16384) (heven : q.length % 2 = 0) :
    mbfValid (mbfStoredBlock x q) = true := by
  obtain ⟨hmagic, hversion, -, hxform, hxhigh, -, -, -, hbits, -, hzero, -⟩ := leAt_mbfStoredBlock x q
  have hstored : mbfAllStored q.length < 2 ^ 16 := sumOfBits_lt _ 16
  have hx16 : x % 256 < 16 := by omega
  have hx0 : x / 256 % 256 = 0 := by omega
  have hhigh : mbfAllStored q.length / 65536 % 65536 = 0 := by omega
  have hagree : (List.range 16).all _ = true := List.all_eq_true.mpr fun s hs => mbfStored_lengths_agree q.length (List.mem_range.mp hs)
  simp only [mbfValid, mbfMagic, mbfHdr_mbfStoredBlock hx hlen, length_mbfStoredBlock, hmagic, hversion, hxform, hxhigh, hbits, hzero, hx0,
    hhigh, hagree]
  simp [hx16, hlen, heven]
  omega

/-- The block passes its check (R294). -/
theorem mbfOk_mbfStoredBlock {x : Nat} {q : List Byte} (hx : x < 4) (hlen : q.length ≤ 16384) (heven : q.length % 2 = 0) :
    mbfOk (mbfStoredBlock x q) = true := by
  have hextent : (mbfHdr (mbfStoredBlock x q)).extent = 64 + q.length := by
    rw [mbfHdr_mbfStoredBlock hx hlen, MbfHdr.extent, sum_mbfDs, Nat.min_eq_left hlen]
  have hbody : ((mbfStoredBlock x q).drop 64).take (64 + q.length - 64) = q := by
    rw [Nat.add_sub_cancel_left, drop_mbfStoredBlock x q 0, List.drop_zero, List.take_length]
  simp only [mbfOk, hextent, hbody, mbfValid_mbfStoredBlock hx hlen heven, length_mbfStoredBlock, take_mbfStoredBlock]
  simp [mbfHdr_mbfStoredBlock hx hlen]

/-- The sub-streams of the block are those of the sequence (R286). -/
theorem mbfSubs_mbfStoredBlock {x : Nat} {q : List Byte} (hx : x < 4) (hlen : q.length ≤ 16384) :
    mbfSubs (mbfHdr (mbfStoredBlock x q)) (mbfStoredBlock x q) =
      (List.range 16).map (fun s => (s, mbfDs q.length s, mbfPart q s)) := by
  rw [mbfHdr_mbfStoredBlock hx hlen]
  refine List.map_congr_left fun s hs => ?_
  have hs16 : s < 16 := List.mem_range.mp hs
  have hbefore : (((List.range 16).map (mbfDs q.length)).take s).sum = min q.length (1024 * s) := by
    rw [← List.map_take, List.take_range, Nat.min_eq_left (Nat.le_of_lt hs16), sum_mbfDs]
  simp only [getD_map_mbfDs _ hs16, hbefore, drop_mbfStoredBlock, mbfPart_eq_take_drop]

/-- Sub-streams that are empty or stored decode to their own bytes (R287). -/
theorem mbfSeq_of_stored (t : List Byte) {stored : Nat} {subs : List (Nat × Nat × List Byte)}
    (h : ∀ e ∈ subs, e.2.2.length = e.2.1 ∧ (0 < e.2.1 → stored.testBit e.1 = true)) :
    mbfSeq t stored subs = some (subs.flatMap (·.2.2)) := by
  induction subs with
  | nil => rfl
  | cons e subs ih =>
    obtain ⟨s, n, bs⟩ := e
    obtain ⟨⟨hn, hbit⟩, hrest⟩ := List.forall_mem_cons.mp h
    rcases Nat.eq_zero_or_pos n with h0 | hpos
    · have hnil : bs = [] := List.length_eq_zero_iff.mp (hn.trans h0)
      simp [mbfSeq, ih hrest, h0, hnil]
    · simp [mbfSeq, ih hrest, Nat.ne_of_gt hpos, hbit hpos]

/-- The block decodes to the inverse of its transform on the whole sequence (R287). -/
theorem mbfDecode_mbfStoredBlock (t : List Byte) {x : Nat} {q : List Byte} (hx : x < 4) (hlen : q.length ≤ 16384) :
    mbfDecode t (mbfStoredBlock x q) = some (mbfInv x q) := by
  have hseq : mbfSeq t (mbfAllStored q.length) ((List.range 16).map (fun s => (s, mbfDs q.length s, mbfPart q s))) = some q := by
    rw [mbfSeq_of_stored, List.flatMap_map, flatMap_mbfPart hlen]
    intro e he
    obtain ⟨s, hs, rfl⟩ := List.mem_map.mp he
    exact ⟨length_mbfPart q s, fun hpos => (testBit_mbfAllStored _ (List.mem_range.mp hs)).trans (decide_eq_true hpos)⟩
  have hempty : mbfInv 0 [] = [] := rfl
  rw [mbfDecode, mbfSubs_mbfStoredBlock hx hlen, mbfHdr_mbfStoredBlock hx hlen, hseq, Option.map_some, List.take_length, List.drop_length,
    hempty, List.append_nil]

/-- Settles O32: without a table the block is its header, its CRC and the transformed data, cut into sub-streams that are all stored. -/
theorem storedBlocksDecodeToTheirData : Obligations.StoredBlocksDecodeToTheirData := by
  intro x b hx hlen heven
  have hq := length_mbfFwd (x := x) (Or.inr heven)
  have hlen' : (mbfFwd x b).length ≤ 16384 := hq.symm ▸ hlen
  rw [mbfEncode_none (Or.inr heven) hlen]
  exact ⟨mbfOk_mbfStoredBlock hx hlen' (hq.symm ▸ heven),
    (mbfDecode_mbfStoredBlock [] hx hlen').trans (congrArg some (blockTransformsInvert x b (Or.inr heven)))⟩

end Sys2Proof.Machine
end

section
/-! PROOF. Hertia packets as bytes (R3, R311, Table 13-4): the fields of a header do not overlap, the header tells how long the body is, and so a packet
is read back from any bytes that begin with it. From that the statement PacketsParseBack. -/

namespace Sys2Proof.Machine

/-! ## The header (Table 13-4) -/

/-- A packet whose fields fit the places that Table 13-4 gives them. -/
structure Pkt.Fits (k : Pkt) : Prop where
  dchip : k.dchip < 16
  schip : k.schip < 16
  kind : k.kind < 4
  cls : k.cls < 3
  mc : k.mc < 3
  epoch : k.epoch < 16
  nlines : k.nlines < 16
  seq : k.seq < 65536

theorem Pkt.Fits.pktHeader_lt {k : Pkt} (h : k.Fits) : pktHeader k < 256 ^ 8 := by
  obtain ⟨hdchip, hschip, hkind, hcls, hmc, hepoch, hnlines, hseq⟩ := h
  simp only [pktHeader]
  omega

/-- Every field of a header reads back. -/
theorem Pkt.Fits.fields_pktHeader {k : Pkt} (h : k.Fits) :
    fldN (pktHeader k) 0 4 = k.dchip ∧ fldN (pktHeader k) 4 4 = k.schip ∧ fldN (pktHeader k) 8 3 = k.kind ∧ fldN (pktHeader k) 11 2 = k.cls ∧
    fldN (pktHeader k) 14 2 = k.mc ∧ fldN (pktHeader k) 18 4 = k.epoch ∧ fldN (pktHeader k) 22 4 = k.nlines ∧
    fldN (pktHeader k) 32 16 = k.seq := by
  obtain ⟨hdchip, hschip, hkind, hcls, hmc, hepoch, hnlines, hseq⟩ := h
  simp only [fldN, pktHeader]
  and_intros <;> omega

/-! ## The bytes (R311) -/

/-- The first 8 bytes of a packet are its header, the rest its body. -/
theorem leNat_take_pktBytes {k : Pkt} (h : k.Fits) (rest : List Byte) : leNat ((pktBytes k ++ rest).take 8) = pktHeader k := by
  rw [pktBytes, List.append_assoc, List.take_left' (length_leBytes 8 _), leNat_leBytes, Nat.mod_eq_of_lt h.pktHeader_lt]

theorem drop_pktBytes (k : Pkt) (rest : List Byte) : (pktBytes k ++ rest).drop 8 = k.body ++ rest := by
  rw [pktBytes, List.append_assoc, List.drop_left' (length_leBytes 8 _)]

theorem length_pktBytes (k : Pkt) : (pktBytes k).length = 8 + k.body.length := by
  rw [pktBytes, List.length_append, length_leBytes]

/-- The body of a LINES packet holds its tag. -/
theorem twelve_le_pktBodyLen (nlines ty : Nat) : 12 ≤ pktBodyLen 0 nlines ty := by
  simp only [pktBodyLen, if_true]
  split <;> omega

/-- The type in the tag of a LINES packet is all that the length of a body takes from the body. -/
theorem pktBodyLen_of_kind_ne_zero {kind : Nat} (h : kind ≠ 0) (nlines ty ty' : Nat) : pktBodyLen kind nlines ty = pktBodyLen kind nlines ty' := by
  simp only [pktBodyLen, if_neg h]

/-- The length of a body as a reader finds it, which sees the body with what follows it. -/
theorem pktBodyLen_append {k : Pkt} (rest : List Byte)
    (hlen : k.body.length = pktBodyLen k.kind k.nlines (fldN (leNat (k.body.take 12)) 74 4)) :
    pktBodyLen k.kind k.nlines (fldN (leNat ((k.body ++ rest).take 12)) 74 4) = k.body.length := by
  by_cases hkind : k.kind = 0
  · have htag : 12 ≤ k.body.length := by
      rw [hlen, hkind]
      exact twelve_le_pktBodyLen _ _
    rw [List.take_append_of_le_length htag, ← hlen]
  · rw [hlen, pktBodyLen_of_kind_ne_zero hkind]

/-- A reader that knows the header and the body's length needs no more bytes than the packet has. -/
theorem parse_length_le {k : Pkt} (hlen : k.body.length = pktBodyLen k.kind k.nlines (fldN (leNat (k.body.take 12)) 74 4)) :
    (if k.kind = 0 then max k.body.length 12 else k.body.length) = k.body.length := by
  split
  next hkind =>
    rw [hlen, hkind]
    exact Nat.max_eq_left (twelve_le_pktBodyLen _ _)
  next => rfl

/-- Settles O39: the header reads back field by field, and with it the body's length, at which the packet ends. -/
theorem packetsParseBack : Obligations.PacketsParseBack := by
  intro k rest hdchip hschip hkind hcls hmc hepoch hnlines hseq hlen
  have hfits : k.Fits := ⟨hdchip, hschip, hkind, hcls, hmc, hepoch, hnlines, hseq⟩
  obtain ⟨rdchip, rschip, rkind, rcls, rmc, repoch, rnlines, rseq⟩ := hfits.fields_pktHeader
  have hsize : (pktBytes k ++ rest).length = 8 + k.body.length + rest.length := by rw [List.length_append, length_pktBytes]
  have hrest : (pktBytes k ++ rest).drop (8 + k.body.length) = rest := List.drop_left' (length_pktBytes k)
  have hheader : ¬ (pktBytes k ++ rest).length < 8 := by omega
  have hwhole : ¬ (pktBytes k ++ rest).length < 8 + k.body.length := by omega
  simp only [parsePkt, if_neg hheader, leNat_take_pktBytes hfits, drop_pktBytes, rdchip, rschip, rkind, rcls, rmc, repoch, rnlines, rseq,
    pktBodyLen_append rest hlen, parse_length_le hlen, if_neg hwhole, List.take_left, hrest]

end Sys2Proof.Machine
end

section
/-! PROOF. The replay buffer of a port (R308, R309): what one slot sends enters a buffer that had room, and a DATA flit takes one credit. From that the
statement ReplayBufferHolds256. -/

namespace Sys2Proof.Machine

/-! ## One flit (R309) -/

@[simp] theorem portSend_credits (x : LPort) (now ty vc start due : Nat) (pay : List Byte) :
    (portSend x now ty vc start due pay).credits = x.credits := by
  unfold portSend
  dsimp only
  split <;> rfl

@[simp] theorem portSend_ctl (x : LPort) (now ty vc start due : Nat) (pay : List Byte) : (portSend x now ty vc start due pay).ctl = x.ctl := by
  unfold portSend
  dsimp only
  split <;> rfl

/-- A flit that uses a link sequence number stays in the replay buffer. -/
theorem length_portSend_replay (x : LPort) (now vc start due : Nat) (pay : List Byte) {ty : Nat} (h : usesSeq ty = true) :
    (portSend x now ty vc start due pay).replay.length = x.replay.length + 1 := by
  simp only [portSend, h, if_true, List.length_append, List.length_singleton]

theorem LPort.length_sendCtl_replay (x : LPort) (now : Nat) (c : LCtl) : (x.sendCtl now c).replay.length = x.replay.length + 1 := by
  cases c <;> exact length_portSend_replay _ _ _ _ _ _ rfl

/-! ## One slot (R308) -/

/-- A credit taken from those of a VC that holds one is missing from the sum. -/
theorem sum_setAt_pred {cs : List Nat} {vc : Nat} (h : 0 < cs.getD vc 0) : (setAt cs vc (cs.getD vc 0 - 1)).sum + 1 = cs.sum := by
  induction cs generalizing vc with
  | nil => simp at h
  | cons c cs ih =>
    cases vc with
    | zero =>
      simp only [List.getD_cons_zero] at h
      simp only [setAt, List.getD_cons_zero, List.sum_cons]
      omega
    | succ vc =>
      simp only [List.getD_cons_succ] at h
      simp only [setAt, List.getD_cons_succ, List.sum_cons, Nat.add_assoc, ih h]

/-- A slot that sends: its flit enters a replay buffer that had room; where no TICK or NOTICE waits it is a DATA flit, and takes one credit. -/
theorem LPort.slot_cases {x x' : LPort} {now : Nat} {gone : List PortPkt} (h : x.slot now = some (x', gone)) :
    x.replay.length < 256 ∧ x'.replay.length = x.replay.length + 1 ∧ (x.ctl = [] → x'.ctl = [] ∧ x'.credits.sum + 1 = x.credits.sum) := by
  unfold LPort.slot at h
  dsimp only at h
  split at h
  next => cases h
  next hroom =>
    refine ⟨Nat.lt_of_not_le hroom, ?_⟩
    split at h
    next c cs hctl =>
      cases h
      exact ⟨LPort.length_sendCtl_replay _ now c, fun hnil => by rw [hctl] at hnil; cases hnil⟩
    next hctl =>
      split at h
      next => cases h
      next vc hvc =>
        cases h
        have hcredit : 0 < x.credits.getD vc 0 := by
          have hfound := List.find?_some hvc
          simp only [Bool.and_eq_true, decide_eq_true_eq] at hfound
          exact hfound.1
        refine ⟨length_portSend_replay _ _ _ _ _ _ rfl, fun _ => ?_⟩
        simp only [portSend_ctl, portSend_credits]
        exact ⟨hctl, sum_setAt_pred hcredit⟩

/-! ## Slots one after another -/

theorem LPort.length_slots_replay_le (now n : Nat) {x : LPort} (h : x.replay.length ≤ 256) : (LPort.slots now n x).1.replay.length ≤ 256 := by
  induction n generalizing x with
  | zero => exact h
  | succ n ih =>
    unfold LPort.slots
    split
    next => exact h
    next x' gone hslot =>
      obtain ⟨hroom, hlen, -⟩ := LPort.slot_cases hslot
      exact ih (by omega)

/-- While no TICK or NOTICE waits, the flits in the replay buffer and the credits left are constant together. -/
theorem LPort.slots_replay_add_credits (now n : Nat) {x : LPort} (h : x.ctl = []) :
    (LPort.slots now n x).1.replay.length + (LPort.slots now n x).1.credits.sum = x.replay.length + x.credits.sum := by
  induction n generalizing x with
  | zero => rfl
  | succ n ih =>
    unfold LPort.slots
    split
    next => rfl
    next x' gone hslot =>
      obtain ⟨-, hlen, hdata⟩ := LPort.slot_cases hslot
      obtain ⟨hctl, hcredits⟩ := hdata h
      refine (ih hctl).trans ?_
      omega

/-- Settles O40, by induction on the slots. -/
theorem replayBufferHolds256 : Obligations.ReplayBufferHolds256 :=
  fun _ now n h => ⟨LPort.length_slots_replay_le now n h, LPort.slots_replay_add_credits now n⟩

end Sys2Proof.Machine
end

section
/-! PROOF. Hertia ports (R305 to R310, R327 to R330, R333, R485): what a port does with the bytes it receives, by whether they are a flit that it expects,
and what training, silence and replays do. From that the statement LinkPortsComplete. -/

namespace Sys2Proof.Machine

/-! ## The flits that a port receives (R309) -/

section Receive

variable {d : Dev} {p ty : Nat} {bs : List Byte} {f : LFlit} {act : Dev → LFlit → Dev}

theorem Dev.hears_iff : d.hears p ty bs f = true ↔ (d.port p).up = true ∧ flitOf bs = some f ∧ f.ty = ty ∧ f.lseq = (d.port p).rxSeq := by
  simp only [Dev.hears, Bool.and_eq_true, decide_eq_true_eq, and_assoc]

/-- A flit that the port hears is accepted and acts, and the port sends what it then can. -/
theorem Dev.rx_heard (h : d.hears p ty bs f = true) : d.rx p ty bs act = (act (d.heard p f) f).pump p := by
  obtain ⟨hup, hflit, hty, hseq⟩ := Dev.hears_iff.mp h
  simp only [Dev.rx, hup, hflit, hty, hseq, Bool.not_true, Bool.false_eq_true, if_false, ne_eq, not_true_eq_false, if_true]
  rfl

/-- Bytes that are no flit are discarded. -/
theorem Dev.rx_badCrc (hup : (d.port p).up = true) (hflit : flitOf bs = none) : d.rx p ty bs act = d.nak p := by
  simp only [Dev.rx, hup, hflit, Bool.not_true, Bool.false_eq_true, if_false]

/-- So is a flit out of its sequence, though the port has heard its peer. -/
theorem Dev.rx_outOfSequence (hup : (d.port p).up = true) (hflit : flitOf bs = some f) (hty : f.ty = ty) (hseq : f.lseq ≠ (d.port p).rxSeq) :
    d.rx p ty bs act = (d.setPort p { d.port p with goodNs := d.nowNs }).nak p := by
  simp only [Dev.rx, hup, hflit, hty, if_neg hseq, Bool.not_true, Bool.false_eq_true, if_false, ne_eq, not_true_eq_false]

end Receive

/-- The first flit that a gap discards draws a NAK. -/
theorem Dev.nak_first {d : Dev} {p : Nat} (h : (d.port p).nakOut = false) :
    d.nak p = d.setPort p (portSend { d.port p with nakOut := true } d.nowNs 4 0 0 0 (List.replicate 116 0)) := by
  simp only [Dev.nak, h, Bool.false_eq_true, if_false]

theorem Dev.port_setPort_same {d : Dev} {p : Nat} (x : LPort) (h : p < d.lk.ports.length) : (d.setPort p x).port p = x :=
  getD_setAt_self _ _ h

/-- Every row of a flit receives its bytes as a flit of its type. -/
theorem exec_flitRows (p : Fin 4) (hd : BitVec 64) (bs : List Byte) (ev : SramEv) (s : State) :
    ∀ r ∈ flitRows p hd bs ev, ∃ act, exec r.1 s = s.runDev fun d => d.rx p r.2.1 r.2.2 act := by
  simp only [flitRows, List.forall_mem_cons, List.not_mem_nil, false_implies, implies_true, and_true]
  and_intros
  all_goals exact ⟨_, rfl⟩

/-- Two effects that agree on the core of a state make the same of it. -/
theorem State.onDev_congr {s : State} {f g : Dev → Dev} (h : f s.dev = g s.dev) : s.onDev f = s.onDev g := by
  rw [State.onDev, h, State.onDev]

/-- The answer to a flit that a running core hears. -/
theorem State.rx_next {s : State} {p ty : Nat} {bs : List Byte} {f : LFlit} {act : Dev → LFlit → Dev} {act' : Dev → Dev} (hl : s.live = true)
    (h : s.dev.hears p ty bs f = true) (hact : act (s.dev.heard p f) f = act' s.dev) :
    (s.runDev fun d => d.rx p ty bs act) = .next (s.onDev fun d => (act' d).pump p) :=
  State.runDev_next hl ((Dev.rx_heard h).trans (congrArg (Dev.pump · p) hact))

/-! ## Training and silence (R305, R307, R310) -/

theorem trainedPortIsUp : Claims.TrainedPortIsUp :=
  fun _ _ _ _ _ _ hl htrain => State.runDev_next hl (if_pos htrain)

theorem thirdFailureStopsTraining : Claims.ThirdFailureStopsTraining := by
  intro p step s hl htrain
  refine ⟨fun hfew => State.runDev_next hl ((if_pos htrain).trans ?_), fun hthird => State.runDev_next hl ((if_pos htrain).trans ?_)⟩
  · simp only [Dev.trainPort, if_neg (Nat.not_le.mpr hfew)]
  · simp only [Dev.trainPort, if_pos hthird]

theorem trainingIsRetried : Claims.TrainingIsRetried := by
  intro p s hl hok hen hdown hwait hdue
  refine State.runDev_next hl (if_pos ?_)
  simp only [hok, hen, hdown, hwait, hdue, Bool.not_false, Bool.and_true, decide_true]

theorem silentPortGoesDown : Claims.SilentPortGoesDown :=
  fun _ _ hl hup hsilent => State.runDev_next hl (if_pos (Bool.and_eq_true_iff.mpr ⟨hup, decide_eq_true hsilent⟩))

/-! ## Flits that are heard (R307, R309, R328, R330) -/

theorem idleFlitIsHeard : Claims.IdleFlitIsHeard := fun _ _ _ _ _ hl hh => State.rx_next hl hh rfl

theorem noticeSpreads : Claims.NoticeSpreads := fun _ _ _ _ _ hl hh => State.rx_next hl hh rfl

/-- DATA on one of the 6 VCs uses the port's buffer. -/
theorem dataFlit_buffered {p : Fin 4} {bs : List Byte} {f : LFlit} {s : State} (ev : SramEv) (hl : s.live = true)
    (hh : s.dev.hears p 1 bs f = true) (hvc : f.vc < 6) :
    exec (.dataFlit p bs ev) s = .next (s.onDev fun d => ((d.heard p f).linkSram p ev (fun d => d.takeData p f)).pump p) :=
  State.rx_next hl hh (if_pos hvc)

theorem dataFlitIsTaken : Claims.DataFlitIsTaken := fun _ _ _ _ hl hh hvc => dataFlit_buffered .clean hl hh hvc

/-- A NAK with something to replay uses the replay buffer. -/
theorem nakFlit_buffered {p : Fin 4} {bs : List Byte} {f : LFlit} {s : State} (ev : SramEv) (hl : s.live = true)
    (hh : s.dev.hears p 4 bs f = true) (hreplay : ((s.dev.heard p f).port p).replay ≠ []) :
    exec (.nakFlit p bs ev) s = .next (s.onDev fun d => ((d.heard p f).linkSram p ev (fun d => d.replay p)).pump p) :=
  State.rx_next hl hh (if_neg (mt List.isEmpty_iff.mp hreplay))

theorem nakCausesReplay : Claims.NakCausesReplay := fun _ _ _ _ hl hh => State.rx_next hl hh rfl

theorem tickFlitSchedulesTheEdge : Claims.TickFlitSchedulesTheEdge := by
  dsimp only [Claims.TickFlitSchedulesTheEdge]
  intro p hd bs f s hl hh hmaster hen hport hearly hlat
  refine State.rx_next hl hh ?_
  generalize s.dev.heard p f = d at *
  have hfollows : ¬ (bit (d.reg Reg.HT_TICK) 0 || !bit (d.reg Reg.HT_TICK) 1 || decide (fld (d.reg Reg.HT_TICK) 2 2 ≠ p.val)) = true := by
    simp [hmaster, hen, hport]
  have hintime : ∀ c : Prop, ¬ (leNat ((f.pay.drop 4).take 3) ≤ (d.port p).lat ∧ c) := fun _ h => Nat.not_le.mpr hlat h.1
  cases hrelay : d.relay <;> simp only [if_neg hfollows, hearly, if_neg (hintime _), hrelay, Bool.false_eq_true, if_true, if_false]

/-! ## Gaps and replays (R309, R485) -/

theorem badFlitDrawsANak : Claims.BadFlitDrawsANak := by
  intro p hd bs ev s hl hup hnak r hr
  obtain ⟨act, hexec⟩ := exec_flitRows p hd bs ev s r hr
  refine ⟨fun hbad => ?_, fun f hflit hty hseq hp => ?_⟩
  · exact hexec.trans (State.runDev_next hl ((Dev.rx_badCrc hup hbad).trans (Dev.nak_first hnak)))
  · refine hexec.trans (State.runDev_next hl ((Dev.rx_outOfSequence hup hflit hty hseq).trans ?_))
    have hport := Dev.port_setPort_same { s.dev.port p with goodNs := s.dev.nowNs } hp
    rw [Dev.nak_first (by rw [hport]; exact hnak), hport]
    rfl

/-- 2 µs without progress use the replay buffer. -/
theorem replayTimeout_buffered {p : Fin 4} {s : State} (ev : SramEv) (hl : s.live = true) (hup : (s.dev.port p).up = true)
    (hreplay : (s.dev.port p).replay ≠ []) (hdue : (s.dev.port p).ackNs + 2000 ≤ s.dev.nowNs) :
    exec (.replayTimeout ⟨p, ev⟩) s = .next (s.onDev fun d => d.linkSram p ev (fun d => d.replay p)) := by
  refine State.runDev_next hl (if_pos ?_)
  simp only [hup, List.isEmpty_eq_false_iff.mpr hreplay, hdue, Bool.not_false, Bool.and_true, decide_true]

/-- A replay that is not the 16th of its flit sends every flit again. -/
theorem Dev.replay_again {d : Dev} {p : Nat} (h : (d.port p).tries < 15) :
    d.replay p =
      (let x := d.port p
       let again := x.replay.map (fun f => f.again ((x.rxSeq + 4095) % 4096) d.nowNs)
       (d.incReg (Reg.HT_P_REPLAY p) 1).setPort p { x with
         tries := x.tries + 1, replay := again, sent := x.sent ++ again, ackOut := false, ackNs := d.nowNs }) :=
  if_neg (by omega)

theorem timeoutReplays : Claims.TimeoutReplays := fun _ _ hl hup hreplay htries hdue =>
  (replayTimeout_buffered .clean hl hup hreplay hdue).trans (congrArg Host.Outcome.next (State.onDev_congr (Dev.replay_again htries)))

theorem linkBufferErrorsAct : Claims.LinkBufferErrorsAct := fun _ _ hl =>
  ⟨fun _ _ ev hh hvc => dataFlit_buffered ev hl hh hvc, fun _ _ ev hh hreplay => nakFlit_buffered ev hl hh hreplay,
    fun ev hup hreplay hdue => replayTimeout_buffered ev hl hup hreplay hdue⟩

/-! ## The statement -/

/-- Settles O37: each row of a flit is one receipt, which the port hears or discards; the other rows act once their condition holds. -/
theorem linkPortsComplete : Obligations.LinkPortsComplete :=
  ⟨trainedPortIsUp, thirdFailureStopsTraining, trainingIsRetried, silentPortGoesDown, idleFlitIsHeard, dataFlitIsTaken, tickFlitSchedulesTheEdge,
    noticeSpreads, nakCausesReplay, badFlitDrawsANak, timeoutReplays, linkBufferErrorsAct⟩

end Sys2Proof.Machine
end

section
/-! PROOF. What the loss of links leaves alone (R308, R315, R327, R328): fences, lost packets, lost ports and broken SYSTEM barriers touch no tile memory,
no DRAM and no flash. -/

namespace Sys2Proof.Machine

/-- The memories of a part: those of its tiles, DRAM and flash. -/
def Dev.memories (d : Dev) : TileMem × DramSt × FlashSt := (d.mem, d.dram, d.flash)

theorem Dev.memories_eq_iff (d d' : Dev) : d'.memories = d.memories ↔ d'.mem = d.mem ∧ d'.dram = d.dram ∧ d'.flash = d.flash := by
  simp only [Dev.memories, Prod.mk.injEq]

/-- A run of updates, each of which keeps the memories, keeps them. -/
theorem Dev.foldl_memories {α : Type} {f : Dev → α → Dev} (h : ∀ d x, (f d x).memories = d.memories) (xs : List α) (d : Dev) :
    (xs.foldl f d).memories = d.memories :=
  List.foldlRecOn xs f (motive := fun d' => d'.memories = d.memories) rfl (fun d' hd x _ => (h d' x).trans hd)

theorem Dev.ite_memories {d a b : Dev} {c : Prop} [Decidable c] (ha : a.memories = d.memories) (hb : b.memories = d.memories) :
    (if c then a else b).memories = d.memories := by
  split
  · exact ha
  · exact hb

/-! ## Ports and channels (R308, R315) -/

theorem Dev.foldl_setPort_memories (x : Dev → Nat → LPort) (ps : List Nat) (d : Dev) :
    (ps.foldl (fun d p => d.setPort p (x d p)) d).memories = d.memories :=
  Dev.foldl_memories (f := fun d p => d.setPort p (x d p)) (fun _ _ => rfl) ps d

@[simp] theorem Dev.tellAll_memories (d : Dev) : d.tellAll.memories = d.memories := Dev.foldl_setPort_memories _ _ d

@[simp] theorem Dev.giveBack_memories (d : Dev) (q vc n : Nat) : (d.giveBack q vc n).memories = d.memories :=
  Dev.ite_memories rfl rfl

@[simp] theorem Dev.pump_memories (d : Dev) (p : Nat) : (d.pump p).memories = d.memories := by
  refine Dev.ite_memories ?_ rfl
  rw [Dev.tellAll_memories, Dev.foldl_memories (fun d e => d.giveBack_memories _ _ _)]
  rfl

@[simp] theorem Dev.failReq_memories (d : Dev) (p code : Nat) (t : Tag) : (d.failReq p code t).memories = d.memories :=
  Dev.ite_memories rfl rfl

@[simp] theorem Dev.fenceSrc_memories (d : Dev) (kind cls peer code : Nat) : (d.fenceSrc kind cls peer code).memories = d.memories :=
  Dev.foldl_memories (f := fun d r => d.failReq _ code r) (fun d r => d.failReq_memories _ code r) _ d

/-! ## Ports that are lost (R327) -/

@[simp] theorem Dev.fencePort_memories (d : Dev) (p : Nat) : (d.fencePort p).memories = d.memories := by
  unfold Dev.fencePort
  refine Dev.foldl_memories (fun d e => ?_) _ d
  exact Dev.ite_memories (d.fenceSrc_memories _ _ _ _) rfl

@[simp] theorem Dev.undeliver_memories (d : Dev) (k : Pkt) : (d.undeliver k).memories = d.memories :=
  Dev.ite_memories (Dev.ite_memories (d.fenceSrc_memories _ _ _ _) rfl) (Dev.ite_memories (Dev.pump_memories _ _) rfl)

@[simp] theorem Dev.lostPkt_memories (d : Dev) (k : Pkt) (p : Nat) : (d.lostPkt k p).memories = d.memories := by
  have hroute : (if p < 4 then d else d.orReg Reg.HT_STAT 0x80).memories = d.memories := Dev.ite_memories rfl rfl
  exact (Dev.ite_memories rfl (Dev.undeliver_memories _ _)).trans hroute

@[simp] theorem Dev.losePorts_memories (d : Dev) (ps : List Nat) : (d.losePorts ps).memories = d.memories := by
  rw [Dev.losePorts, Dev.tellAll_memories, Dev.foldl_memories (fun d e => by rw [Dev.giveBack_memories, Dev.lostPkt_memories]),
    Dev.foldl_memories (fun d p => d.fencePort_memories p)]
  exact Dev.foldl_setPort_memories (fun d p => (d.port p).downed) ps d

@[simp] theorem Dev.silence_memories (d : Dev) : d.silence.memories = d.memories := by
  rw [Dev.silence, Dev.foldl_setPort_memories, Dev.losePorts_memories]

/-! ## Chips that are lost (R207, R328) -/

@[simp] theorem Dev.brel_memories (d : Dev) (tenant slot gen : Nat) (broken : Bool) : (d.brel tenant slot gen broken).memories = d.memories := by
  unfold Dev.brel
  refine Dev.foldl_memories (fun d r => ?_) _ d
  rfl

@[simp] theorem Dev.breakSystem_memories (d : Dev) : d.breakSystem.memories = d.memories := by
  refine Dev.foldl_memories (fun d k => Dev.ite_memories ?_ rfl) _ d
  exact Dev.foldl_memories (f := fun d g => d.brel (k / 64) (k % 64) g true) (fun d g => d.brel_memories _ _ g true) _ _

@[simp] theorem Dev.chipLost_memories (d : Dev) (chip : Nat) : (d.chipLost chip).memories = d.memories := Dev.breakSystem_memories _

@[simp] theorem Dev.dropPorts_memories (d : Dev) : d.dropPorts.memories = d.memories :=
  (Dev.foldl_memories (f := fun d c => d.chipLost c) (fun d c => d.chipLost_memories c) _ _).trans d.silence_memories

end Sys2Proof.Machine
end

section
/-! PROOF. Hertia channels (R312 to R318, R326, R327, R332, R333): how a packet reaches this chip's endpoint and what each kind does there, the timers and
commands of channel ends, and the reset of the link domain. From that the statement LinkChannelsComplete. -/

namespace Sys2Proof.Machine

/-! ## A packet at the endpoint (R313, R325) -/

/-- The core with another inbox: what a packet finds when it is taken, whether it arrives at once or has waited. -/
def Dev.withInbox (d : Dev) (ib : List InPkt) : Dev := { d with lk := { d.lk with inbox := ib } }

@[simp] theorem Dev.withInbox_returned (d : Dev) (ib : List InPkt) (k : Pkt) : (d.withInbox ib).returned k = d.returned k := rfl

/-- A packet that nothing like it precedes acts at once. -/
theorem Dev.fromInbox_direct {d : Dev} {k : Pkt} {act : Dev → Option Dev} (h : d.direct k = true) : d.fromInbox k act = (act d).getD d := by
  simp only [Dev.direct, Bool.and_eq_true, Bool.not_eq_true', List.any_eq_false] at h
  obtain ⟨⟨⟨hme, hknown⟩, hrelay⟩, hfirst⟩ := h
  have hnone : d.lk.inbox.find? (fun e => k.same e.pkt) = none := List.find?_eq_none.mpr hfirst
  simp only [Dev.fromInbox, hme, hknown, hrelay, hnone, Bool.not_true, Bool.or_false, Bool.false_eq_true, if_false]

/-- A packet that waits, first of its kind, acts once it is out of the inbox; its places are then free. -/
theorem Dev.fromInbox_waiting {d d' : Dev} {k : Pkt} {e : InPkt} {act : Dev → Option Dev} (h : d.waitsIn k e = true)
    (hact : act (d.taken e) = some d') : d.fromInbox k act = d'.freed e := by
  simp only [Dev.waitsIn, Bool.and_eq_true, Bool.not_eq_true', decide_eq_true_eq] at h
  obtain ⟨⟨⟨⟨hme, hknown⟩, hrelay⟩, hpkt⟩, hfound⟩ := h
  have hrelay' : (d.taken e).relay = false := hrelay
  unfold Dev.taken at hrelay' hact
  simp only [Dev.fromInbox, hme, hknown, hfound, hpkt, hrelay', hact, Bool.not_true, Bool.or_false, Bool.false_eq_true, if_false, if_true]
  rfl

/-- A row whose packet takes one effect whatever the inbox holds. -/
theorem State.packet_taken {s : State} {c : Instr} {k : Pkt} {f : Dev → Dev} {act : Dev → Option Dev} {act' : Dev → Dev} (hl : s.live = true)
    (hexec : exec c s = s.runDev f) (hf : ∀ d, f d = d.fromInbox k act)
    (hact : ∀ ib, act (s.dev.withInbox ib) = some (act' (s.dev.withInbox ib))) : Claims.Taken c k s act' := by
  constructor
  case left =>
    intro hdirect
    refine hexec.trans (State.runDev_next hl ((hf _).trans ?_))
    rw [Dev.fromInbox_direct hdirect, show act s.dev = some (act' s.dev) from hact s.dev.lk.inbox, Option.getD_some]
  case right =>
    intro e hwaits
    exact hexec.trans (State.runDev_next hl ((hf _).trans (Dev.fromInbox_waiting hwaits (hact (s.dev.lk.inbox.erase e)))))

/-! ## LINES, EACK, UNDELIV and FINISH (R312 to R315, R332) -/

/-- An end that takes no packets: closed or fenced. -/
theorem Chan.shut_iff {c : Chan} : (!c.opened || c.fenced) = true ↔ c.opened = false ∨ c.fenced = true := by simp

theorem Chan.not_shut {c : Chan} (hopen : c.opened = true) (hfence : c.fenced = false) : ¬ (!c.opened || c.fenced) = true := by
  simp [hopen, hfence]

theorem nextLinesAreDelivered : Claims.NextLinesAreDelivered := by
  dsimp only [Claims.NextLinesAreDelivered]
  intro k s hl hkind hepoch hopen hfence hseq hneed
  refine State.packet_taken hl rfl (fun _ => if_pos hkind) fun ib => ?_
  exact (if_neg (not_not_intro hepoch)).trans ((if_neg (Chan.not_shut hopen hfence)).trans ((if_pos hseq).trans (if_neg hneed)))

theorem otherLinesAreDropped : Claims.OtherLinesAreDropped := by
  dsimp only [Claims.OtherLinesAreDropped]
  intro k s hl hkind
  refine ⟨fun hepoch => ?stale, fun hepoch hshut => ?shut, fun hepoch hopen hfence hseq => ?gap⟩ <;>
    refine State.packet_taken hl rfl (fun _ => if_pos hkind) fun ib => ?_
  case stale => exact if_pos hepoch
  case shut => exact (if_neg (not_not_intro hepoch)).trans (if_pos (Chan.shut_iff.mpr hshut))
  case gap => exact (if_neg (not_not_intro hepoch)).trans ((if_neg (Chan.not_shut hopen hfence)).trans (if_neg hseq))

theorem eackRetires : Claims.EackRetires := by
  dsimp only [Claims.EackRetires]
  intro k s hl hkind ⟨u, hu, hseq⟩
  refine State.packet_taken hl rfl (fun _ => if_pos hkind) fun ib => congrArg some (if_pos ?_)
  exact List.any_eq_true.mpr ⟨u, hu, decide_eq_true hseq⟩

theorem undeliveredFences : Claims.UndeliveredFences := by
  intro k kind cls peer s hl hkind hreturned
  refine State.packet_taken hl rfl (fun _ => if_pos hkind) fun ib => ?_
  simp only [Dev.withInbox_returned, hreturned]

theorem finishIsNoted : Claims.FinishIsNoted :=
  fun _ _ hl hkind hmaster hseq => State.packet_taken hl rfl (fun _ => if_pos hkind) fun _ => congrArg some (if_pos ⟨hmaster, hseq⟩)

/-! ## The timers of a channel and of the tick (R314, R333) -/

theorem eackIsSent : Claims.EackIsSent := by
  dsimp only [Claims.EackIsSent]
  intro kind cls peer s hl hopen hfence hsince hdue
  refine State.runDev_next hl (if_pos ?_)
  simp only [hopen, hfence, hsince, hdue, Bool.not_false, Bool.and_true, and_self, decide_true]

theorem oldPacketFences : Claims.OldPacketFences := by
  dsimp only [Claims.OldPacketFences, srcKey]
  intro kind cls peer u s hl hhead hopen hfence hold
  obtain ⟨us, hunack⟩ := List.head?_eq_some_iff.mp hhead
  refine State.runDev_next hl ?_
  simp only [hunack, hopen, hfence, hold, Bool.not_false, Bool.and_true, decide_true, if_true]

theorem lostMasterFreesTheTick : Claims.LostMasterFreesTheTick := by
  intro s hl hsource hmaster hrelay hsync hrun hperiod hlost
  refine State.runDev_next hl (if_pos ?_)
  simp only [hsource, hmaster, hrelay, hsync, hrun, hperiod, hlost, Bool.not_false, and_self]

/-! ## Commands (R316 to R318) -/

/-- The end that a command of one class names is the only one that the command acts on. -/
theorem chanCmd_eq_endOf {v : Word} (hkind : fld v 6 2 < 3) (hcls : fld v 6 2 = 0 → fld v 4 2 ≠ 3) :
    chanCmd v = (fld v 6 2, fld v 8 1, [(Claims.endOf v).1], (Claims.endOf v).2.1) := by
  simp only [chanCmd, Claims.endOf, Nat.mod_eq_of_lt hkind]
  by_cases h : fld v 6 2 = 0
  · simp only [h, if_neg (hcls h), ne_eq, not_true_eq_false, if_false]
  · simp only [h, ne_eq, not_false_eq_true, if_true]

theorem openOpensOneEnd : Claims.OpenOpensOneEnd := by
  intro v s hl hop hkind hcls
  refine State.runDev_next hl ((if_pos hop).trans ?_)
  rw [chanCmd_eq_endOf hkind hcls]
  rfl

theorem closeClosesOneEnd : Claims.CloseClosesOneEnd := by
  intro v s hl hop hkind hcls
  refine State.runDev_next hl ((if_pos hop).trans ?_)
  rw [chanCmd_eq_endOf hkind hcls]
  rfl

theorem linkRegistersAreWritten : Claims.LinkRegistersAreWritten := by
  intro v s hl
  refine ⟨fun hv => State.runDev_next hl (if_pos hv), fun hdown => State.runDev_next hl ?_, fun hdown => State.runDev_next hl ?_,
    fun topo hup => State.runDev_next hl (if_pos hup)⟩
  all_goals simp only [Dev.chipWrite, hdown, Bool.false_eq_true, if_false, if_true]

/-! ## The reset of the link domain (R326, R327) -/

theorem linkResetSilences : Claims.LinkResetSilences := by
  intro s hl
  obtain ⟨hmem, hdram, hflash⟩ := (Dev.memories_eq_iff _ _).mp s.dev.dropPorts_memories
  exact ⟨_, State.runDev_live _ hl, rfl, rfl, rfl, rfl, hmem, hdram, hflash⟩

/-! ## The statement -/

/-- Settles O38: each packet is taken by the endpoint with one effect, whether it waited or not; the other rows act once their condition holds. -/
theorem linkChannelsComplete : Obligations.LinkChannelsComplete :=
  ⟨nextLinesAreDelivered, otherLinesAreDropped, eackRetires, eackIsSent, undeliveredFences, finishIsNoted, oldPacketFences, lostMasterFreesTheTick,
    openOpensOneEnd, closeClosesOneEnd, linkRegistersAreWritten, linkResetSilences⟩

end Sys2Proof.Machine
end

section
/-! PROOF. The droop detector of a tile (R372, R378): what DROOP_DETECT does when the rail lies below the tile's threshold, and when it does not. From that
the statement DroopStretchesTheTile. -/

namespace Sys2Proof.Machine

/-- What a droop leaves of the core: counted and logged, the tile's cycles so far settled at the old rate, and the end of its stretch set (R372). -/
def Dev.droopStretched (d : Dev) (t : Fin 64) : Dev :=
  let d1 := (d.incReg Reg.DROOP_CNT 1).logOnce 0x700A 0 nodePower
  (d1.retimeTile t).updTile t fun ts => { ts with droopUntil := d1.nowNs + d1.regN Reg.DROOP_CTRL * 1000 / d1.fclk }

/-- In S0 to S2 a rail below the threshold fires the detector. -/
theorem execDroopDetect_fires {t : Fin 64} {mv : Nat} {s : State} (hl : s.live = true) (hdepth : s.dev.pstate ≤ 2)
    (hlow : droops s.dev s.th t mv = true) : execDroopDetect t mv s = .next (s.onDev fun d => d.droopStretched t) :=
  (State.run_live _ hl).trans (congrArg Host.Outcome.next (if_pos ⟨hdepth, hlow⟩))

/-- A rail at or above the threshold changes nothing, whether or not the core runs. -/
theorem execDroopDetect_quiet {t : Fin 64} {mv : Nat} {s : State} (hhigh : droops s.dev s.th t mv = false) :
    execDroopDetect t mv s = .next s := by
  have hnot : ¬ (s.dev.pstate ≤ 2 ∧ droops s.dev s.th t mv = true) := fun ⟨_, hlow⟩ => Bool.false_ne_true (hhigh.symm.trans hlow)
  cases hl : s.live with
  | true => exact (State.run_live _ hl).trans (congrArg Host.Outcome.next (if_neg hnot))
  | false => exact State.run_dead _ hl

/-- Settles O23, by whether the rail lies below the tile's threshold. -/
theorem droopStretchesTheTile : Obligations.DroopStretchesTheTile :=
  fun _ _ _ hl hdepth => ⟨execDroopDetect_fires hl hdepth, execDroopDetect_quiet⟩

end Sys2Proof.Machine
end

section
/-! PROOF. The filtered value of a sensor (R374): the median's order is the library's insertion sort, so the median parts the valid samples into those not
above it, half of them, and those not below it. From that the statement FilteredValueIsTheMedian. -/

namespace Sys2Proof.Machine

theorem insertI_eq_orderedInsert (x : Int) (l : List Int) : insertI x l = l.orderedInsert (· ≤ ·) x := by
  induction l with
  | nil => rfl
  | cons y ys ih => rw [insertI, List.orderedInsert_cons, ih]

theorem sortI_eq_insertionSort (l : List Int) : sortI l = l.insertionSort (· ≤ ·) :=
  congrArg (fun insert => l.foldr insert []) (funext₂ insertI_eq_orderedInsert)

theorem sortI_perm (l : List Int) : (sortI l).Perm l :=
  sortI_eq_insertionSort l ▸ List.perm_insertionSort _ l

theorem sortI_pairwise (l : List Int) : (sortI l).Pairwise (· ≤ ·) :=
  sortI_eq_insertionSort l ▸ List.pairwise_insertionSort _ l

/-- `m` parts the values `v` at place `k`: `k` of them, none above `m`, come before it in a rising order, and none of those after it is below it. -/
def PartsAt (v : List Int) (k : Nat) (m : Int) : Prop :=
  ∃ lo hi, (lo ++ m :: hi).Perm v ∧ lo.length = k ∧ (∀ x ∈ lo, x ≤ m) ∧ ∀ x ∈ hi, m ≤ x

/-- The median parts the valid samples at half their number (R374). -/
theorem medianOf_partsAt {h : List (Option Int)} {m : Int} (hm : medianOf h = some m) :
    PartsAt (h.filterMap id) ((h.filterMap id).length / 2) m := by
  have hperm := sortI_perm (h.filterMap id)
  have hrise := sortI_pairwise (h.filterMap id)
  simp only [medianOf, hperm.length_eq] at hm
  obtain ⟨hlt, rfl⟩ := List.getElem?_eq_some_iff.mp hm
  rw [← List.take_append_drop ((h.filterMap id).length / 2) (sortI _), List.drop_eq_getElem_cons hlt] at hperm hrise
  obtain ⟨-, hhi, hlo⟩ := List.pairwise_append.mp hrise
  exact ⟨_, _, hperm, List.length_take_of_le hlt.le, fun x hx => hlo x hx _ List.mem_cons_self, (List.pairwise_cons.mp hhi).1⟩

section
variable {v : List Int} {k : Nat} {m : Int}

theorem PartsAt.mem : PartsAt v k m → m ∈ v
  | ⟨_, _, hperm, _⟩ => hperm.mem_iff.mp List.mem_append_cons_self

/-- Only values before the place are below the one that parts. -/
theorem PartsAt.countP_lt : PartsAt v k m → v.countP (· < m) ≤ k
  | ⟨lo, hi, hperm, hlen, _, hhi⟩ => by
    have hnone : (m :: hi).countP (· < m) = 0 := by simpa [List.countP_eq_zero] using hhi
    calc v.countP (· < m) = lo.countP (· < m) + 0 := by rw [← hperm.countP_eq, List.countP_append, hnone]
      _ ≤ k := hlen ▸ List.countP_le_length

/-- The values before the place and the one that parts are not above it. -/
theorem PartsAt.lt_countP_le : PartsAt v k m → k < v.countP (· ≤ m)
  | ⟨lo, hi, hperm, hlen, hlo, _⟩ => by
    have hall : lo.countP (· ≤ m) = k := hlen ▸ List.countP_eq_length.mpr (by simpa using hlo)
    have hself : 0 < (m :: hi).countP (· ≤ m) := List.countP_pos_iff.mpr ⟨m, List.mem_cons_self, by simp⟩
    rw [← hperm.countP_eq, List.countP_append, hall]
    omega

/-- The values above the one that parts are those that are not at or below it. -/
theorem PartsAt.countP_gt (hp : PartsAt v k m) : v.countP (m < ·) ≤ v.length - k - 1 := by
  have hsplit : v.length = v.countP (· ≤ m) + v.countP (m < ·) := by
    simpa using v.length_eq_countP_add_countP (· ≤ m)
  have := hp.lt_countP_le
  omega

end

/-- Settles O44: the median parts the valid samples at half their number, which bounds how many lie on either side. -/
theorem filteredValueIsTheMedian : Obligations.FilteredValueIsTheMedian := by
  intro h m hm
  have hp := medianOf_partsAt hm
  have hle := hp.lt_countP_le
  simp only [← List.countP_eq_length_filter]
  exact ⟨hp.mem, hp.countP_lt, by omega, hp.countP_gt⟩

end Sys2Proof.Machine
end

section
/-! PROOF. The bounds of the service ports and of the thermal unit (R383, R384, R442, R445) under each operation of theirs: which operations leave the
FIFOs, which only shorten them, and which ask for room before they add an entry; and what a judgment of the level can answer. -/

namespace Sys2Proof.Machine

/-! ## FIFOs that stay or get shorter (R442, R445) -/

/-- The FIFOs of a port. -/
def SpPort.fifos (p : SpPort) : List RxEntry × List (BitVec 9) := (p.rx, p.tx)

/-- Neither FIFO of `q` is longer than that of `p`. -/
def SpPort.ShrinksTo (p q : SpPort) : Prop := q.rx.length ≤ p.rx.length ∧ q.tx.length ≤ p.tx.length

theorem SpPort.bounded_iff (p : SpPort) : p.bounded = true ↔ p.rx.length ≤ 64 ∧ p.tx.length ≤ 64 := by simp [SpPort.bounded]

theorem SpPort.ShrinksTo.refl (p : SpPort) : p.ShrinksTo p := ⟨le_rfl, le_rfl⟩

theorem SpPort.ShrinksTo.trans {p q r : SpPort} (h : p.ShrinksTo q) (h' : q.ShrinksTo r) : p.ShrinksTo r :=
  ⟨h'.1.trans h.1, h'.2.trans h.2⟩

theorem SpPort.ShrinksTo.of_fifos {p q : SpPort} (h : q.fifos = p.fifos) : p.ShrinksTo q := by
  obtain ⟨hrx, htx⟩ := Prod.mk.inj h
  exact ⟨hrx ▸ le_rfl, htx ▸ le_rfl⟩

theorem SpPort.ShrinksTo.bounded {p q : SpPort} (h : p.ShrinksTo q) (hp : p.bounded = true) : q.bounded = true := by
  obtain ⟨hrx, htx⟩ := p.bounded_iff.mp hp
  exact q.bounded_iff.mpr ⟨h.1.trans hrx, h.2.trans htx⟩

/-! ## Levels, flags and the engine (R443, R444, R456 to R458) -/

@[simp] theorem SpPort.level_fifos (p : SpPort) : p.level.fifos = p.fifos := by
  unfold SpPort.level
  split
  · rfl
  · split <;> rfl

@[simp] theorem SpPort.level_rx (p : SpPort) : p.level.rx = p.rx := congrArg Prod.fst p.level_fifos

@[simp] theorem SpPort.level_tx (p : SpPort) : p.level.tx = p.tx := congrArg Prod.snd p.level_fifos

@[simp] theorem spFlags_fifos (n : Nat) (x : Dev × SpPort) (flags : Nat) : (spFlags n x flags).2.fifos = x.2.fifos := by
  unfold spFlags
  dsimp only
  rw [apply_ite Prod.snd, apply_ite SpPort.fifos]
  exact ite_self _

@[simp] theorem SpPort.release_fifos (p : SpPort) (d : Dev) : (p.release d).fifos = p.fifos := by
  unfold SpPort.release
  split
  · split <;> rfl
  · rfl

@[simp] theorem svcWork_fifos (cut : Bool) (n : Nat) (x : Dev × SpPort) : (svcWork cut n x).2.fifos = x.2.fifos := by
  induction n generalizing x with
  | zero => rfl
  | succ n ih =>
    obtain ⟨d, p⟩ := x
    simp only [svcWork]
    split
    · rfl
    · split
      · rfl
      · split
        · rfl
        · rw [ih]
          rfl

@[simp] theorem svcFeed_fifos (x : Dev × SpPort) (b : Byte) : (svcFeed x b).2.fifos = x.2.fifos := by
  unfold svcFeed
  dsimp only
  rw [svcWork_fifos]
  split
  · exact svcWork_fifos true _ x
  · rfl

@[simp] theorem svcEntry_fifos (x : Dev × SpPort) (e : RxEntry) : (svcEntry x e).2.fifos = x.2.fifos := by
  unfold svcEntry
  split
  · exact svcWork_fifos true _ x
  · exact svcFeed_fifos x _

/-- The engine takes entries out of the RX FIFO and adds none. -/
theorem svcDrain_shrinks (n : Nat) (x : Dev × SpPort) : x.2.ShrinksTo (svcDrain n x).2 := by
  induction n generalizing x with
  | zero => exact .refl _
  | succ n ih =>
    obtain ⟨d, p⟩ := x
    simp only [svcDrain]
    split
    · exact .refl _
    · split
      next => exact .refl _
      next e es hrx =>
        have hpop : p.ShrinksTo ({ p with rx := es } : SpPort).level := ⟨by simp [hrx], by simp⟩
        exact hpop.trans ((SpPort.ShrinksTo.of_fifos (svcEntry_fifos _ e)).trans (ih _))

theorem svcDone_shrinks (d : Dev) (p : SpPort) : p.ShrinksTo (svcDone d p).2 :=
  (SpPort.ShrinksTo.of_fifos (svcWork_fifos false _ (d, { p with exec := none }))).trans (svcDrain_shrinks 65 _)

theorem svcAnswer_shrinks (fr : SvcFrame) (st : Nat) (pay : List Byte) (d : Dev) (p : SpPort) : p.ShrinksTo (svcAnswer fr st pay d p).2 := by
  have hpost : p.ShrinksTo (p.respond fr.cmd fr.seq st pay) := .refl p
  unfold svcAnswer
  dsimp only
  split
  · exact hpost.trans (svcDone_shrinks _ _)
  · exact hpost.trans (svcDone_shrinks d { p.respond fr.cmd fr.seq st pay with svcCnt := _ })

@[simp] theorem SpPort.line_fifos (p : SpPort) (bs : List Byte) : (p.line bs).fifos = p.fifos := by
  unfold SpPort.line
  split <;> rfl

/-! ## Reception (R443) -/

/-- A character that finds the RX FIFO full is discarded; one that finds room takes a place. -/
theorem spTake_bounded {n : Nat} {d : Dev} {p : SpPort} {e : RxEntry} (h : p.bounded = true) : (spTake n d p e).2.bounded = true := by
  unfold spTake
  dsimp only
  split
  next => exact (SpPort.ShrinksTo.of_fifos (spFlags_fifos n (d, p.count 0 0 1 0) 4)).bounded h
  next hroom =>
    generalize hx : spFlags n (d, p.count (b2n e.pe) (b2n e.fe) 0 0) (b2n e.pe + 2 * b2n e.fe + 8 * b2n e.brk) = x
    have hfifos : x.2.fifos = p.fifos := by rw [← hx, spFlags_fifos]; rfl
    split
    next => exact (SpPort.ShrinksTo.of_fifos ((svcEntry_fifos x e).trans hfifos)).bounded h
    next hdirect =>
      refine (svcDrain_shrinks 65 _).bounded ?_
      obtain ⟨hrx, htx⟩ := Prod.mk.inj hfifos
      obtain ⟨-, htx64⟩ := p.bounded_iff.mp h
      have hlt : p.rx.length < 64 := by simpa [hdirect] using hroom
      simp only [SpPort.bounded_iff, SpPort.level_rx, SpPort.level_tx, hrx, htx, List.length_append, List.length_singleton]
      omega

theorem spReceive_bounded {n : Nat} {old : Bool} {sam : List RxSample} {d : Dev} {p : SpPort} (h : p.bounded = true) :
    (spReceive n old sam d p).2.bounded = true := by
  have hfree : (p.release d).bounded = true := (SpPort.ShrinksTo.of_fifos (p.release_fifos d)).bounded h
  unfold spReceive
  dsimp only
  split
  · exact hfree
  · split
    · exact hfree
    · exact spTake_bounded hfree

/-! ## Transmission (R448, R454) -/

@[simp] theorem spDrive_fifos (n : Nat) (d : Dev) (p : SpPort) (v : Nat) (back : List Bool) : (spDrive n d p v back).2.fifos = p.fifos := by
  unfold spDrive
  split
  · rfl
  · exact spFlags_fifos n _ _

theorem engineByte_fifos {p q : SpPort} {b : Nat} (h : engineByte p = some (b, q)) : q.fifos = p.fifos := by
  unfold engineByte at h
  split at h
  · contradiction
  · split at h
    · cases h
      rfl
    · split at h
      · cases h
        rfl
      · contradiction

/-- The transmitter takes words out of the TX FIFO and adds none. -/
theorem spTransmit_shrinks (n : Nat) (l : TxLine) (d : Dev) (p : SpPort) : p.ShrinksTo (spTransmit n l d p).2 := by
  unfold spTransmit
  dsimp only
  split
  · exact .refl _
  · split
    · exact .refl _
    · split
      · exact .refl _
      · split
        next hbyte =>
          have hout := engineByte_fifos hbyte
          exact .of_fifos ((spDrive_fifos n d _ _ l.back).trans hout)
        next =>
          split
          next v vs _ htx =>
            refine SpPort.ShrinksTo.trans ?_ (.of_fifos (spDrive_fifos n _ _ _ l.back))
            exact ⟨le_rfl, (congrArg List.length htx).ge.trans' (Nat.le_succ _)⟩
          next => exact .refl _

/-! ## Registers (Table 19-5) -/

@[simp] theorem SpPort.baudWrite_fifos (p : SpPort) (v : Word) : (p.baudWrite v).fifos = p.fifos := by
  unfold SpPort.baudWrite
  dsimp only
  split
  · rfl
  · split <;> rfl

theorem SpPort.dataWrite_bounded {p : SpPort} (v : Word) (h : p.bounded = true) : (p.dataWrite v).bounded = true := by
  obtain ⟨hrx, htx⟩ := p.bounded_iff.mp h
  unfold SpPort.dataWrite
  split
  next => exact h
  next hroom =>
    refine (SpPort.bounded_iff _).mpr ⟨hrx, ?_⟩
    rw [List.length_append, List.length_singleton]
    omega

@[simp] theorem SpPort.brkWrite_fifos (p : SpPort) (v : Word) : (p.brkWrite v).fifos = p.fifos := by
  unfold SpPort.brkWrite
  split
  · rfl
  · split <;> rfl

theorem SpPort.flushRx_shrinks (p : SpPort) : p.ShrinksTo p.flushRx := ⟨by simp [SpPort.flushRx], by simp [SpPort.flushRx]⟩

theorem SpPort.flushTx_shrinks (p : SpPort) : p.ShrinksTo p.flushTx := ⟨le_rfl, Nat.zero_le _⟩

theorem SpPort.dataRead_shrinks (p : SpPort) : p.ShrinksTo p.dataRead := by
  refine ⟨?_, by simp [SpPort.dataRead]⟩
  simp only [SpPort.dataRead, SpPort.level_rx]
  split
  · exact le_rfl
  · simp

theorem SpPort.readFx_shrinks (p : SpPort) (o : Nat) (ev : Word) : p.ShrinksTo (p.readFx o ev) := by
  unfold SpPort.readFx
  split
  case h_2 => exact p.dataRead_shrinks
  all_goals exact .refl _

/-- A write of a port's register adds an entry to the TX FIFO at most, and only while there is room. -/
theorem SpPort.write_bounded {p : SpPort} (d : Dev) (o : Nat) (v ev : Word) (h : p.bounded = true) : (p.write d o v ev).bounded = true := by
  unfold SpPort.write
  split
  case h_1 => exact (ShrinksTo.of_fifos (p.baudWrite_fifos v)).bounded h
  case h_4 => exact (ShrinksTo.of_fifos (SpPort.level_fifos { p with rxHigh := _, rxLow := _ })).bounded h
  case h_6 => exact SpPort.dataWrite_bounded v h
  case h_7 => exact (ShrinksTo.of_fifos (p.brkWrite_fifos v)).bounded h
  case h_8 =>
    dsimp only
    have hrx : (if bit v 0 then p.flushRx else p).bounded = true := by
      split
      · exact p.flushRx_shrinks.bounded h
      · exact h
    split
    · exact (SpPort.flushTx_shrinks _).bounded hrx
    · exact hrx
  all_goals exact h

/-! ## The thermal level (R382 to R387) -/

/-- What the bounds of the thermal unit speak of. -/
def ThSt.levels (th : ThSt) : Nat × Nat × Nat := (th.judged, th.level, th.dwell)

theorem ThSt.bounded_iff (th : ThSt) : th.bounded = true ↔ th.judged ≤ 4 ∧ th.level ≤ 4 ∧ th.dwell ≤ 65535 := by
  simp [ThSt.bounded, and_assoc]

theorem ThSt.bounded_congr {th th' : ThSt} (h : th'.levels = th.levels) : th'.bounded = th.bounded := by
  simp only [ThSt.levels, Prod.mk.injEq] at h
  obtain ⟨hjudged, hlevel, hdwell⟩ := h
  rw [ThSt.bounded, ThSt.bounded, hjudged, hlevel, hdwell]

theorem highestAbove_le {th : ThSt} {l j : Nat} {t : Int} (h : highestAbove th l t = some j) : j ≤ 4 := by
  have hmem : j ∈ [4, 3, 2, 1] := (List.mem_filter.mp (List.mem_of_mem_head? h)).1
  simp only [List.mem_cons, List.not_mem_nil, or_false] at hmem
  omega

/-- A judgment answers T4, a level that the table has, or a level no higher than the last (R384). -/
theorem judgeLevel_le {th : ThSt} {l : Nat} (dw : Nat) (t : Int) (h : l ≤ 4) : judgeLevel th l dw t ≤ 4 := by
  unfold judgeLevel
  split
  · exact le_rfl
  · split
    · exact h
    · split
      next hj => exact highestAbove_le hj
      next => split <;> omega

theorem usedLevel_le (force : Word) {judged : Nat} (h : judged ≤ 4) : usedLevel force judged ≤ 4 := by
  unfold usedLevel
  split <;> omega

theorem ThSt.judge_bounded {th : ThSt} (force : Word) (h : th.bounded = true) : (th.judge force).bounded = true := by
  obtain ⟨hjudged, -, -⟩ := th.bounded_iff.mp h
  have hlevel := judgeLevel_le (th := th) (min (th.dwell + 1) 65535) th.judgedTheta hjudged
  refine (ThSt.bounded_iff _).mpr ⟨hlevel, usedLevel_le force hlevel, ?_⟩
  simp only [ThSt.judge]
  split <;> omega

@[simp] theorem thCommit_levels (d : Dev) (th : ThSt) : (thCommit d th).2.levels = th.levels := by
  unfold thCommit
  split
  · split <;> rfl
  · rfl

theorem thermalInstant_bounded {d : Dev} {th : ThSt} (edge : Bool) (h : th.bounded = true) : (thermalInstant d th edge).2.bounded = true := by
  have hcommit : (thCommit d th).2.bounded = true := (ThSt.bounded_congr (thCommit_levels d th)).trans h
  have hguard : (if edge then { (thCommit d th).2 with guard := (thCommit d th).2.fault || bit ((thCommit d th).1.reg Reg.CAL_STAT) 0 }
      else (thCommit d th).2).bounded = true := by
    split <;> exact hcommit
  exact ThSt.judge_bounded _ hguard

@[simp] theorem ThSt.commit_levels (th : ThSt) (v : Word) : (th.commit v).levels = th.levels := by
  unfold ThSt.commit
  split <;> rfl

/-! ## Sampling leaves the levels (R373 to R381, R391) -/

@[simp] theorem ThSt.pref_levels (th : ThSt) (p : Nat) : (th.pref p).levels = th.levels := by
  unfold ThSt.pref
  split <;> rfl

@[simp] theorem ThSt.setTarget_levels (th : ThSt) (now tgt : Nat) : (th.setTarget now tgt).levels = th.levels := by
  unfold ThSt.setTarget
  dsimp only
  split <;> rfl

theorem foldl_sampleSensor_levels (raw : List (BitVec 16)) (ss : List Nat) (x : Dev × ThSt) :
    (ss.foldl (fun x s => sampleSensor x.1 x.2 s (raw.getD s 0)) x).2.levels = x.2.levels :=
  List.foldlRecOn ss _ (motive := fun y : Dev × ThSt => y.2.levels = x.2.levels) rfl fun _ h _ _ => h

@[simp] theorem sample_levels (d : Dev) (th : ThSt) (raw : List (BitVec 16)) (p : BitVec 16) : (sample d th raw p).2.levels = th.levels := by
  have hset : ∀ x : ThSt, ∀ now tgt : Nat, ∀ c : Bool, ({ x.setTarget now tgt with curveBad := c } : ThSt).levels = x.levels :=
    fun x now tgt _ => x.setTarget_levels now tgt
  unfold sample
  simp only [hset, ThSt.pref_levels]
  exact foldl_sampleSensor_levels raw (List.range 16) (d, th)

end Sys2Proof.Machine
end

section
/-! PROOF. What every command keeps: each answers a next state, in which the commands behind it still wait and the bounds of the service ports and the
thermal unit still hold (R383, R384, R442, R445). Most commands act on the core alone; the others are followed operation by operation. From that the
statements EveryCommandAnswersANextState, NoCommandTouchesTheQueue and PortAndThermalBoundsAreKeptByEveryStep. -/

namespace Sys2Proof.Machine

/-! ## What is kept -/

/-- What a command leaves of the rest: the queue is the same, and the bounds that held before it hold after it. -/
def State.Keeps (s t : State) : Prop := t.pending = s.pending ∧ (s.bounded = true → t.bounded = true)

/-- A command answers a next state that keeps these. -/
def State.Answers (s : State) (a : Answer) : Prop := ∃ t, a = .next t ∧ s.Keeps t

theorem State.bounded_iff (s : State) :
    s.bounded = true ↔ s.sp.p0.bounded = true ∧ s.sp.p1.bounded = true ∧ s.th.bounded = true := by
  simp [State.bounded, and_assoc]

theorem State.Keeps.refl (s : State) : s.Keeps s := ⟨rfl, id⟩

theorem State.Keeps.trans {s t u : State} (h : s.Keeps t) (h' : t.Keeps u) : s.Keeps u := ⟨h'.1.trans h.1, h'.2 ∘ h.2⟩

theorem State.Keeps.ite {s a b : State} {c : Prop} [Decidable c] (ha : s.Keeps a) (hb : s.Keeps b) : s.Keeps (if c then a else b) := by
  split
  · exact ha
  · exact hb

/-- The core, the page buffer and the test access port have no part in it. -/
theorem State.Keeps.of_units {s t : State} (hpend : t.pending = s.pending) (hp0 : t.sp.p0 = s.sp.p0) (hp1 : t.sp.p1 = s.sp.p1)
    (hth : s.th.bounded = true → t.th.bounded = true) : s.Keeps t := by
  refine ⟨hpend, fun h => ?_⟩
  obtain ⟨h0, h1, hthb⟩ := s.bounded_iff.mp h
  exact t.bounded_iff.mpr ⟨hp0 ▸ h0, hp1 ▸ h1, hth hthb⟩

theorem State.keeps_onDev (s : State) (f : Dev → Dev) : s.Keeps (s.onDev f) := ⟨rfl, id⟩

theorem State.keeps_dev (s : State) (d : Dev) : s.Keeps { s with dev := d } := ⟨rfl, id⟩

theorem State.keeps_tap (s : State) (x : TapSt) : s.Keeps { s with tap := x } := ⟨rfl, id⟩

theorem State.keeps_th {s : State} (d : Dev) {th : ThSt} (h : s.th.bounded = true → th.bounded = true) :
    s.Keeps { s with dev := d, th := th } := .of_units rfl rfl rfl h

/-! ## The gate -/

theorem State.run_answers {s : State} {f : State → State} (h : s.Keeps (f s)) : s.Answers (s.run f) := ⟨_, rfl, .ite h (.refl s)⟩

theorem State.runDev_answers (s : State) (f : Dev → Dev) : s.Answers (s.runDev f) := State.run_answers (s.keeps_onDev f)

/-! ## The service ports -/

theorem SpSt.setPort_cases (sp : SpSt) (n : Nat) (p : SpPort) :
    (sp.port n = sp.p0 ∧ (sp.setPort n p).p0 = p ∧ (sp.setPort n p).p1 = sp.p1) ∨
      (sp.port n = sp.p1 ∧ (sp.setPort n p).p0 = sp.p0 ∧ (sp.setPort n p).p1 = p) := by
  by_cases hn : n = 0 <;> simp [SpSt.port, SpSt.setPort, hn]

/-- A port that is stored keeps the bounds where it keeps its own. -/
theorem State.keeps_setPort {s : State} (d : Dev) {n : Nat} {p : SpPort} (h : (s.sp.port n).bounded = true → p.bounded = true) :
    s.Keeps { s with dev := d, sp := s.sp.setPort n p } := by
  refine ⟨rfl, fun hs => ?_⟩
  obtain ⟨h0, h1, hth⟩ := s.bounded_iff.mp hs
  rw [State.bounded_iff]
  rcases s.sp.setPort_cases n p with ⟨hport, hp0, hp1⟩ | ⟨hport, hp0, hp1⟩
  · exact ⟨(congrArg SpPort.bounded hp0).trans (h (hport ▸ h0)), hp1 ▸ h1, hth⟩
  · exact ⟨hp0 ▸ h0, (congrArg SpPort.bounded hp1).trans (h (hport ▸ h1)), hth⟩

theorem State.keeps_onPort {s : State} {n : Nat} {f : Dev → SpPort → Dev × SpPort}
    (h : (s.sp.port n).bounded = true → (f s.dev (s.sp.port n)).2.bounded = true) : s.Keeps (s.onPort n f) :=
  State.keeps_setPort _ h

theorem State.keeps_portRead (s : State) (n o : Nat) (ev : Word) : s.Keeps (s.portRead n o ev) :=
  State.keeps_setPort _ (SpPort.readFx_shrinks _ o ev).bounded

theorem State.keeps_portWrite (s : State) (n o : Nat) (v ev : Word) : s.Keeps (s.portWrite n o v ev) :=
  State.keeps_setPort s.dev (SpPort.write_bounded s.dev o v ev)

/-! ## Power-on reset -/

theorem State.keeps_porst (s : State) (env : BootEnv) : s.Keeps (s.porst env) :=
  ⟨rfl, fun _ => (State.bounded_iff _).mpr ⟨rfl, rfl, rfl⟩⟩

/-- Units that lose their supply in S4 and S5 come to their reset values (R464, R361). -/
theorem State.keeps_stopUnits (s : State) (before : Dev) : s.Keeps (s.stopUnits before) := by
  unfold State.stopUnits
  dsimp only
  split
  · exact .refl s
  · split
    · exact .refl s
    · exact ⟨rfl, fun _ => (State.bounded_iff _).mpr ⟨rfl, rfl, rfl⟩⟩

/-! ## Edges (R47 to R51, R330, R384) -/

theorem State.keeps_makeEdge (s : State) (env : EdgeEnv) : s.Keeps (s.makeEdge env) :=
  State.keeps_th _ (thermalInstant_bounded true)

theorem State.keeps_onDev_makeEdge (s : State) (f : Dev → Dev) (env : EdgeEnv) : s.Keeps ((s.onDev f).makeEdge env) :=
  (s.keeps_onDev f).trans (State.keeps_makeEdge _ env)

theorem State.keeps_masterEdge (s : State) (env : EdgeEnv) : s.Keeps (s.masterEdge env) := by
  unfold State.masterEdge
  split
  · exact .ite (s.keeps_onDev_makeEdge _ env) (.refl s)
  · refine .ite (s.keeps_onDev _) ?_
    exact (s.keeps_onDev Dev.decideEdge).trans (.ite (State.keeps_onDev_makeEdge _ _ env) (.refl _))

theorem State.keeps_edge (s : State) (env : EdgeEnv) : s.Keeps (s.edge env) := by
  refine (s.keeps_onDev Dev.promote).trans ?_
  unfold State.edge
  dsimp only
  generalize s.onDev Dev.promote = s₁
  refine .ite (.refl s₁) (.ite (s₁.keeps_onDev _) (.ite (s₁.keeps_masterEdge env) ?_))
  split
  · exact s₁.keeps_dev _
  · split
    · exact s₁.keeps_dev _
    · exact (s₁.keeps_dev _).trans (State.keeps_makeEdge _ env)

theorem State.keeps_onDev_edge (s : State) (f : Dev → Dev) (env : EdgeEnv) : s.Keeps ((s.onDev f).edge env) :=
  (s.keeps_onDev f).trans (State.keeps_edge _ env)

theorem State.keeps_request (s : State) (src : Nat) (env : EdgeEnv) : s.Keeps (s.request src env) := by
  unfold State.request
  refine .ite (.refl s) (.ite (s.keeps_onDev _) (.ite (.refl s) ?_))
  split
  · exact .ite (s.keeps_onDev_edge _ env) (.refl s)
  · exact .ite (s.keeps_onDev _) (.ite (s.keeps_onDev_edge _ env) (.ite (s.keeps_onDev _) (s.keeps_onDev _)))

/-! ## Accesses of BAR0 (R4 to R7, R38, R485) -/

theorem State.keeps_readFx (s : State) (off : Nat) (ev : Word) (x : Spot) : s.Keeps (s.readFx off ev x) := by
  cases x with
  | port n o => exact State.keeps_setPort s.dev (SpPort.readFx_shrinks _ o ev).bounded
  | reg r => exact s.keeps_onDev _
  | _ => exact .refl s

theorem State.keeps_read32 (s : State) (fn : Nat) (own : Bool) (off : Nat) (m : RegEnv) : s.Keeps (s.read32 fn own off m).2 := by
  unfold State.read32
  split
  · exact s.keeps_onDev _
  · exact (s.keeps_dev _).trans (State.keeps_readFx _ off m.ev _)

theorem State.keeps_answer (s : State) (bs : List Byte) : s.Keeps (s.answer bs) := s.keeps_onDev _

theorem State.keeps_hostRead (s : State) (fn off n : Nat) (m m2 : RegEnv) : s.Keeps (s.hostRead fn off n m m2) := by
  unfold State.hostRead
  refine .ite ?_ (.ite ?_ ?_)
  · exact (s.keeps_read32 fn false off m).trans (State.keeps_answer _ _)
  · exact (s.keeps_read32 fn false off m).trans ((State.keeps_read32 _ fn false (off + 4) m2).trans (State.keeps_answer _ _))
  · exact (s.keeps_dev _).trans (State.keeps_answer _ _)

theorem State.keeps_thCommit (s : State) (v : Word) : s.Keeps { s with th := s.th.commit v } :=
  State.keeps_th s.dev fun h => (ThSt.bounded_congr (s.th.commit_levels v)).trans h

theorem State.keeps_regWrite (s : State) (fn off : Nat) (v : Word) (m : RegEnv) (r : RegSpec) : s.Keeps (s.regWrite fn off v m r) :=
  .ite (s.keeps_onDev _) (.ite (.ite (s.keeps_request 2 m.edge) (.refl s)) (.ite (s.keeps_thCommit v) (s.keeps_onDev _)))

theorem State.keeps_spotWrite (s : State) (fn off : Nat) (v : Word) (m : RegEnv) (x : Spot) : s.Keeps (s.spotWrite fn off v m x) := by
  cases x with
  | reg r => exact s.keeps_regWrite fn off v m r
  | port n o => exact s.keeps_portWrite n o v m.ev
  | log => exact .refl s
  | pba => exact .refl s
  | _ => exact s.keeps_onDev _

theorem State.keeps_write32 (s : State) (fn : Nat) (own : Bool) (off : Nat) (v : Word) (m : RegEnv) : s.Keeps (s.write32 fn own off v m) := by
  unfold State.write32
  split
  · exact s.keeps_onDev _
  · exact (s.keeps_onDev _).trans (State.keeps_spotWrite _ fn off v m _)

theorem State.keeps_hostWrite (s : State) (fn off : Nat) (bs : List Byte) (m m2 : RegEnv) : s.Keeps (s.hostWrite fn off bs m m2) :=
  .ite (s.keeps_onDev _) (.ite (s.keeps_write32 _ _ _ _ _)
    (.ite ((s.keeps_write32 _ _ _ _ _).trans (State.keeps_write32 _ _ _ _ _ _)) (s.keeps_onDev _)))

theorem State.keeps_access {s : State} {m : RegEnv} {f : State → State} (h : ∀ s, State.Keeps s (f s)) : s.Keeps (s.access m f) := by
  unfold State.access
  refine .ite (.refl s) ?_
  split
  · exact s.keeps_dev _
  · exact (s.keeps_dev _).trans (h _)

/-! ## The boot table (R473, R476) -/

theorem State.keeps_bootRow {s : State} {op : Nat} {act : State → BootEntry → State} (h : ∀ e, s.Keeps (act s e)) : s.Keeps (s.bootRow op act) := by
  unfold State.bootRow
  split
  · exact h _
  · exact .refl s

theorem State.keeps_bootWrites (m : RegEnv) (ws : List (Nat × Word)) (s : State) : s.Keeps (s.bootWrites m ws).1 := by
  induction ws generalizing s with
  | nil => exact .refl s
  | cons w ws ih =>
    have hfirst : s.Keeps (s.bootWrite w.1 w.2 m) := .ite (s.keeps_write32 _ _ _ _ m) (s.keeps_onDev _)
    rw [State.bootWrites]
    split
    · exact hfirst
    · exact hfirst.trans (ih _)

theorem State.keeps_bootStore (s : State) (m : RegEnv) (ws : List (Nat × Word)) : s.Keeps (s.bootStore m ws) :=
  (s.keeps_bootWrites m ws).trans (.ite (State.keeps_onDev _ _) (.refl _))

theorem State.keeps_bootRead (s : State) (off : Nat) (m : RegEnv) : s.Keeps (s.bootRead off m).2 := by
  unfold State.bootRead
  split
  · exact s.keeps_read32 0 true off m
  · exact s.keeps_dev _

/-! ## Tests and the service protocol (R458 to R461, R497 to R505) -/

theorem State.keeps_privEnd (s : State) (code unit : Nat) (fail : Bool) (diag : BitVec 64) : s.Keeps (s.privEnd code unit fail diag) :=
  ⟨rfl, id⟩

theorem State.keeps_runEnd (s : State) (fails unit : Nat) : s.Keeps (s.runEnd fails unit) := by
  unfold State.runEnd
  dsimp only
  split
  · exact ⟨rfl, id⟩
  · refine State.Keeps.trans (t := { s with dev := _, tap := _ }) ⟨rfl, id⟩ (State.keeps_onPort fun hp => ?_)
    split
    · exact (svcDone_shrinks _ { SpPort.respond _ _ _ _ _ with svcCnt := _ }).bounded hp
    · exact hp

theorem State.keeps_testRequest (s : State) (sel : Nat) (port : Option Nat) : s.Keeps (s.testRequest sel port).2 := by
  unfold State.testRequest
  split
  · exact s.keeps_tap _
  · dsimp only
    split
    · exact s.keeps_tap _
    · exact (s.keeps_tap _).trans (State.keeps_onDev _ _)

/-- A command of the protocol keeps what its own effect keeps: its response only empties FIFOs. -/
theorem State.keeps_svcRow {s : State} {n cmd : Nat} {act : State → SvcFrame → SvcAnswer × State} (h : ∀ fr, s.Keeps (act s fr).2) :
    s.Keeps (s.svcRow n cmd act) := by
  unfold State.svcRow
  dsimp only
  split
  next fr _ =>
    refine .ite ?_ (.refl s)
    split
    next st pay t hact =>
      have ht : s.Keeps t := by simpa [hact] using h fr
      exact ht.trans (State.keeps_onPort (svcAnswer_shrinks fr st pay _ _).bounded)
    next t hact =>
      have ht : s.Keeps t := by simpa [hact] using h fr
      exact ht.trans (State.keeps_onPort id)
  next => exact .refl s

theorem State.keeps_svcApply (s : State) (n : Nat) (fr : SvcFrame) (env : BootEnv) : s.Keeps (s.svcApply n fr env) :=
  .ite (s.keeps_porst env) ((s.keeps_onDev _).trans (State.keeps_onPort (svcDone_shrinks _ _).bounded))

/-! ## The test access port (R489 to R496, R503, R505) -/

theorem State.keeps_loadIr (s : State) (code : Nat) (env : BootEnv) : s.Keeps (s.loadIr code env) :=
  (State.Keeps.ite (s.keeps_porst env) (.refl s)).trans (State.keeps_tap _ _)

theorem State.keeps_captureDr (s : State) (v : Nat) : s.Keeps (s.captureDr v) := s.keeps_tap _

theorem State.keeps_scanCells (s : State) (pins cells : BitVec 1212) (sup : BitVec 3) : s.Keeps (s.scanCells pins cells sup) := s.keeps_tap _

theorem State.keeps_privRequest (s : State) (code unit ms : Nat) : s.Keeps (s.privRequest code unit ms) :=
  .ite (.refl s) (.ite (s.keeps_tap _) (.ite (s.keeps_tap _) ((s.keeps_tap _).trans (State.keeps_onDev _ _))))

theorem State.keeps_privScan (s : State) (code : Nat) (v : BitVec 64) (env : BootEnv) : s.Keeps (s.privScan code v env) := by
  refine (s.keeps_loadIr code env).trans ?_
  unfold State.privScan
  dsimp only
  generalize s.loadIr code env = s₁
  exact .ite (s₁.keeps_captureDr 0) ((s₁.keeps_captureDr _).trans (.ite (State.keeps_privRequest _ _ _ _) (.refl _)))

end Sys2Proof.Machine
end

section
/-! PROOF. What every command keeps, continued: the commands that act on more than the core, and from all of them the statements of the whole
machine. -/

namespace Sys2Proof.Machine

/-! ## The thermal unit (R373 to R392) -/

theorem execSamplingInstant_answers (raw : List (BitVec 16)) (pref : BitVec 16) (s : State) : s.Answers (execSamplingInstant raw pref s) :=
  State.run_answers (.ite (State.keeps_th _ fun h => (ThSt.bounded_congr (sample_levels s.dev s.th raw pref)).trans h) (.refl s))

theorem execIdleInstant_answers (s : State) : s.Answers (execIdleInstant s) :=
  State.run_answers (.ite (State.keeps_th _ (thermalInstant_bounded false)) (.refl s))

theorem execThermalTrip_answers (sensor : Fin 16) (c1 c2 : BitVec 16) (s : State) : s.Answers (execThermalTrip sensor c1 c2 s) :=
  ⟨_, rfl, .ite (State.keeps_th _ id) (.refl s)⟩

theorem execFanTachWindow_answers (edges : Nat) (s : State) : s.Answers (execFanTachWindow edges s) :=
  State.run_answers (.ite (State.keeps_th _ id) (.refl s))

theorem execFanDutyFall_answers (s : State) : s.Answers (execFanDutyFall s) :=
  State.run_answers (.ite (State.keeps_th s.dev id) (.refl s))

theorem execThCommit_answers (v : Word) (s : State) : s.Answers (execThCommit v s) := State.run_answers (s.keeps_thCommit v)

/-! ## Power and edges (R47 to R51, R75, R352, R372) -/

theorem execTickEdge_answers (env : EdgeEnv) (s : State) : s.Answers (execTickEdge env s) :=
  State.run_answers (.ite (s.keeps_edge env) (.refl s))

theorem execHeldRequestDue_answers (env : EdgeEnv) (s : State) : s.Answers (execHeldRequestDue env s) :=
  State.run_answers (.ite (s.keeps_edge env) (.refl s))

theorem execOverrunAbort_answers (env : EdgeEnv) (s : State) : s.Answers (execOverrunAbort env s) :=
  State.run_answers (.ite (s.keeps_edge env) (.refl s))

theorem execTkKick_answers (v : Word) (env : EdgeEnv) (s : State) : s.Answers (execTkKick v env s) :=
  State.run_answers (.ite (s.keeps_request 2 env) (.refl s))

theorem execStateEntry_answers (n : Nat) (failing : List (Nat × Bool)) (s : State) : s.Answers (execStateEntry n failing s) :=
  State.run_answers ((s.keeps_dev _).trans (State.keeps_stopUnits _ s.dev))

theorem execDroopDetect_answers (t : Fin 64) (mv : Nat) (s : State) : s.Answers (execDroopDetect t mv s) :=
  State.run_answers (.ite (s.keeps_dev _) (.refl s))

theorem execTickInRequest_answers (env : EdgeEnv) (s : State) : s.Answers (execTickInRequest env s) :=
  State.run_answers ((s.keeps_onDev _).trans (.ite (State.keeps_request _ 1 env) (.refl _)))

theorem execTickSrcLost_answers (env : EdgeEnv) (s : State) : s.Answers (execTickSrcLost env s) :=
  State.run_answers (.ite (.ite ((s.keeps_dev _).trans (State.keeps_edge _ env)) (s.keeps_dev _)) (.refl s))

theorem execTableFinish_answers (env : EdgeEnv) (s : State) : s.Answers (execTableFinish env s) :=
  State.run_answers (.ite (.refl s) ((s.keeps_dev _).trans (.ite (State.keeps_edge _ env) (.refl _))))

/-! ## Accesses of BAR0 (R4 to R10) -/

theorem execBar0IrregularAccess_answers (fn : Fin 9) (off : BitVec 26) (acc : HostAcc) (m m2 : RegEnv) (s : State) :
    s.Answers (execBar0IrregularAccess fn off acc m m2 s) := by
  refine State.run_answers (State.keeps_access fun s => ?_)
  cases acc with
  | read n => exact s.keeps_hostRead _ _ n m m2
  | write bs => exact s.keeps_hostWrite _ _ bs m m2

theorem execRegisterWrite_answers (fn : Fin 9) (off : BitVec 26) (v : Word) (m : RegEnv) (s : State) :
    s.Answers (execRegisterWrite fn off v m s) :=
  State.run_answers (State.keeps_access fun s => s.keeps_hostWrite _ _ _ _ _)

theorem execReadClear_answers (fn : Fin 9) (off : BitVec 26) (m : RegEnv) (s : State) : s.Answers (execReadClear fn off m s) :=
  State.run_answers (State.keeps_access fun s => s.keeps_hostRead _ _ _ _ _)

theorem execTkCountRead_answers (s : State) : s.Answers (execTkCountRead s) :=
  State.run_answers (State.keeps_access fun s => s.keeps_hostRead _ _ _ _ _)

theorem execPwAonTimeRead_answers (s : State) : s.Answers (execPwAonTimeRead s) :=
  State.run_answers (State.keeps_access fun s => s.keeps_hostRead _ _ _ _ _)

theorem execSyncCounterWindowWrite_answers (fn : Fin 9) (t : Fin 64) (i : Fin 2048) (v : Word) (s : State) :
    s.Answers (execSyncCounterWindowWrite fn t i v s) :=
  State.run_answers (State.keeps_access fun s => s.keeps_write32 _ _ _ _ _)

/-! ## The service ports (R438 to R457) -/

theorem execSpBaudWrite_answers (n : Fin 2) (v : Word) (s : State) : s.Answers (execSpBaudWrite n v s) :=
  State.run_answers (s.keeps_portWrite n 0 v 0)

theorem execSpDataRead_answers (n : Fin 2) (s : State) : s.Answers (execSpDataRead n s) :=
  State.run_answers (s.keeps_portRead n 0x14 0)

theorem execSpDataWrite_answers (n : Fin 2) (v : Word) (s : State) : s.Answers (execSpDataWrite n v s) :=
  State.run_answers (s.keeps_portWrite n 0x14 v 0)

theorem execSpBrkTx_answers (n : Fin 2) (v : Word) (s : State) : s.Answers (execSpBrkTx n v s) :=
  State.run_answers (s.keeps_portWrite n 0x18 v 0)

theorem execFlushRx_answers (n : Fin 2) (s : State) : s.Answers (execFlushRx n s) := State.run_answers (s.keeps_portWrite n 0x20 1 0)

theorem execFlushTx_answers (n : Fin 2) (s : State) : s.Answers (execFlushTx n s) := State.run_answers (s.keeps_portWrite n 0x20 2 0)

theorem execCharacterReceive_answers (n : Fin 2) (old : Bool) (sam : List RxSample) (s : State) :
    s.Answers (execCharacterReceive n old sam s) :=
  State.run_answers (State.keeps_onPort spReceive_bounded)

theorem execCharacterTransmit_answers (n : Fin 2) (l : TxLine) (s : State) : s.Answers (execCharacterTransmit n l s) :=
  State.run_answers (State.keeps_onPort (spTransmit_shrinks n l _ _).bounded)

theorem execStartBitAbandon_answers (n : Fin 2) (sam : List RxSample) (s : State) : s.Answers (execStartBitAbandon n sam s) :=
  State.run_answers (State.keeps_onPort fun h => by split <;> exact h)

theorem execBreakEnd_answers (n : Fin 2) (bits : Nat) (s : State) : s.Answers (execBreakEnd n bits s) :=
  State.run_answers (State.keeps_onPort fun h => by split <;> exact h)

theorem execServiceFrameTimeout_answers (n : Fin 2) (s : State) : s.Answers (execServiceFrameTimeout n s) := by
  refine State.run_answers (State.keeps_onPort fun h => ?_)
  dsimp only
  split
  · exact ((SpPort.ShrinksTo.of_fifos (svcWork_fifos true _ _)).trans (svcDrain_shrinks 65 _)).bounded h
  · exact h

theorem execTelemetryLine_answers (n : Fin 2) (s : State) : s.Answers (execTelemetryLine n s) := by
  refine State.run_answers (State.keeps_onPort fun h => ?_)
  split
  · dsimp only
    split
    · exact (SpPort.ShrinksTo.of_fifos (SpPort.line_fifos { s.sp.port n with telSec := _ } _)).bounded h
    · exact h
  · exact h

theorem execSpStatRead_answers (n : Fin 2) (ctsHigh : Bool) (s : State) : s.Answers (execSpStatRead n ctsHigh s) :=
  State.run_answers ((State.keeps_setPort s.dev (p := { s.sp.port n with ctsHigh := ctsHigh }) id).trans (State.keeps_portRead _ n 0x10 0))

/-! ## The boot table (R473, R476) -/

theorem execBootEnd_answers (s : State) : s.Answers (execBootEnd s) :=
  State.run_answers (State.keeps_bootRow fun _ => s.keeps_onDev _)

theorem execBootWrite32_answers (m : RegEnv) (s : State) : s.Answers (execBootWrite32 m s) :=
  State.run_answers (State.keeps_bootRow fun _ => s.keeps_bootStore m _)

theorem execBootDelay_answers (s : State) : s.Answers (execBootDelay s) :=
  State.run_answers (State.keeps_bootRow fun _ => s.keeps_onDev _)

theorem execBootLoad_answers (evs : List PageEv) (s : State) : s.Answers (execBootLoad evs s) :=
  State.run_answers (State.keeps_bootRow fun _ => s.keeps_onDev _)

theorem execBootValidate_answers (s : State) : s.Answers (execBootValidate s) :=
  State.run_answers (State.keeps_bootRow fun _ => s.keeps_onDev _)

theorem execBootPoll32_answers (m : RegEnv) (s : State) : s.Answers (execBootPoll32 m s) :=
  State.run_answers (State.keeps_bootRow fun e => (s.keeps_bootRead e.a m).trans (State.keeps_onDev _ _))

theorem execBootCopy_answers (dr : DramEv) (m : RegEnv) (s : State) : s.Answers (execBootCopy dr m s) := by
  refine State.run_answers (State.keeps_bootRow fun e => .ite (s.keeps_onDev _) (.ite (s.keeps_onDev _) (.ite (s.keeps_onDev _) ?_)))
  split
  · exact s.keeps_dev _
  · exact (s.keeps_dev _).trans (State.keeps_bootStore _ m _)

/-! ## Tests and the service protocol (R458 to R461, R497 to R504) -/

theorem execTestRunEnd_answers (fails unit : BitVec 8) (diag : BitVec 64) (s : State) : s.Answers (execTestRunEnd fails unit diag s) := by
  refine State.run_answers (.ite (.refl s) (State.Keeps.trans ?_ (State.keeps_onDev _ _)))
  split
  · exact s.keeps_privEnd _ _ _ diag
  · exact s.keeps_runEnd _ _

theorem execRead32_answers (n : Fin 2) (m : RegEnv) (s : State) : s.Answers (execRead32 n m s) := by
  refine State.run_answers (State.keeps_svcRow fun fr => ?_)
  dsimp only
  split
  · exact .refl s
  · exact s.keeps_read32 0 false _ m

theorem execWrite32_answers (n : Fin 2) (m : RegEnv) (s : State) : s.Answers (execWrite32 n m s) := by
  refine State.run_answers (State.keeps_svcRow fun fr => ?_)
  dsimp only
  split
  · exact .refl s
  · exact s.keeps_write32 0 false _ _ m

theorem execFlashRead_answers (n : Fin 2) (ev : PageEv) (s : State) : s.Answers (execFlashRead n ev s) := by
  refine State.run_answers (.ite (.refl s) (State.keeps_svcRow fun fr => ?_))
  dsimp only
  split
  · exact .refl s
  · split
    · exact s.keeps_dev _
    · split <;> exact s.keeps_dev _

theorem execFlashProgram_answers (n : Fin 2) (eraseOk progOk : Bool) (s : State) : s.Answers (execFlashProgram n eraseOk progOk s) := by
  refine State.run_answers (.ite (.refl s) (State.keeps_svcRow fun fr => ?_))
  dsimp only
  split
  · exact s.keeps_dev _
  · split <;> exact .of_units rfl rfl rfl id

theorem execBistRun_answers (n : Fin 2) (s : State) : s.Answers (execBistRun n s) := by
  refine State.run_answers (State.keeps_svcRow fun fr => ?_)
  have hreq := s.keeps_testRequest (leAt fr.payload 0 2) (some n)
  dsimp only
  split
  next hrefused => simpa [hrefused] using hreq
  next haccepted => simpa [haccepted] using hreq

theorem execTelemetryNow_answers (n : Fin 2) (s : State) : s.Answers (execTelemetryNow n s) :=
  State.run_answers (State.keeps_svcRow fun _ => .refl s)

theorem execSvcReset_answers (n : Fin 2) (env : BootEnv) (s : State) : s.Answers (execSvcReset n env s) := by
  refine State.run_answers ?_
  dsimp only
  split
  · exact .ite (.ite (State.keeps_onPort id) (.ite (s.keeps_svcApply n _ env) (.refl s))) (.refl s)
  · exact .refl s

/-! ## The test access port (R489 to R496, R503) -/

theorem execPorstN_answers (env : BootEnv) (s : State) : s.Answers (execPorstN env s) :=
  ⟨_, rfl, (s.keeps_porst env).trans (State.keeps_tap _ _)⟩

theorem execTrstN_answers (env : BootEnv) (s : State) : s.Answers (execTrstN env s) :=
  ⟨_, rfl, (State.Keeps.ite (s.keeps_porst env) (.refl s)).trans (State.keeps_tap _ _)⟩

theorem State.scan_answers (s : State) (code : Nat) (pins cells : BitVec 1212) (sup : BitVec 3) (env : BootEnv) :
    s.Answers (.next ((s.loadIr code env).scanCells pins cells sup)) :=
  ⟨_, rfl, (s.keeps_loadIr code env).trans (State.keeps_scanCells _ pins cells sup)⟩

theorem State.capture_answers (s : State) (code v : Nat) (env : BootEnv) : s.Answers (.next ((s.loadIr code env).captureDr v)) :=
  ⟨_, rfl, (s.keeps_loadIr code env).trans (State.keeps_captureDr _ v)⟩

theorem execTapBypass_answers (code : BitVec 8) (env : BootEnv) (s : State) : s.Answers (execTapBypass code env s) :=
  ⟨_, rfl, (s.keeps_loadIr code.toNat env).trans (.ite (State.keeps_captureDr _ 0) (.refl _))⟩

theorem execFieldTest_answers (v : BitVec 40) (env : BootEnv) (s : State) : s.Answers (execFieldTest v env s) :=
  ⟨_, rfl, (s.keeps_loadIr 0x10 env).trans ((State.keeps_captureDr _ _).trans (.ite (State.keeps_testRequest _ _ none) (.refl _)))⟩

/-! ## All commands -/

/-- Every command answers a next state, with the queue behind it as it was and the bounds kept. -/
theorem exec_answers (c : Instr) (s : State) : s.Answers (exec c s) := by
  cases c with
  | samplingInstant raw pref => exact execSamplingInstant_answers raw pref s
  | idleInstant => exact execIdleInstant_answers s
  | thermalTrip sensor c1 c2 => exact execThermalTrip_answers sensor c1 c2 s
  | fanTachWindow edges => exact execFanTachWindow_answers edges s
  | fanDutyFall => exact execFanDutyFall_answers s
  | thCommit v => exact execThCommit_answers v s
  | tickEdge env => exact execTickEdge_answers env s
  | heldRequestDue env => exact execHeldRequestDue_answers env s
  | overrunAbort env => exact execOverrunAbort_answers env s
  | tkKick v env => exact execTkKick_answers v env s
  | stateEntry n failing => exact execStateEntry_answers n failing s
  | droopDetect t mv => exact execDroopDetect_answers t mv s
  | tickInRequest env => exact execTickInRequest_answers env s
  | tickSrcLost env => exact execTickSrcLost_answers env s
  | tableFinish env => exact execTableFinish_answers env s
  | bar0IrregularAccess fn off acc m m2 => exact execBar0IrregularAccess_answers fn off acc m m2 s
  | registerWrite fn off v m => exact execRegisterWrite_answers fn off v m s
  | readClear fn off m => exact execReadClear_answers fn off m s
  | tkCountRead => exact execTkCountRead_answers s
  | pwAonTimeRead => exact execPwAonTimeRead_answers s
  | syncCounterWindowWrite fn t i v => exact execSyncCounterWindowWrite_answers fn t i v s
  | spBaudWrite n v => exact execSpBaudWrite_answers n v s
  | spDataRead n => exact execSpDataRead_answers n s
  | spDataWrite n v => exact execSpDataWrite_answers n v s
  | spBrkTx n v => exact execSpBrkTx_answers n v s
  | flushRx n => exact execFlushRx_answers n s
  | flushTx n => exact execFlushTx_answers n s
  | characterReceive n old sam => exact execCharacterReceive_answers n old sam s
  | characterTransmit n l => exact execCharacterTransmit_answers n l s
  | startBitAbandon n sam => exact execStartBitAbandon_answers n sam s
  | breakEnd n bits => exact execBreakEnd_answers n bits s
  | serviceFrameTimeout n => exact execServiceFrameTimeout_answers n s
  | telemetryLine n => exact execTelemetryLine_answers n s
  | spStatRead n ctsHigh => exact execSpStatRead_answers n ctsHigh s
  | bootEnd => exact execBootEnd_answers s
  | bootWrite32 m => exact execBootWrite32_answers m s
  | bootDelay => exact execBootDelay_answers s
  | bootLoad evs => exact execBootLoad_answers evs s
  | bootValidate => exact execBootValidate_answers s
  | bootPoll32 m => exact execBootPoll32_answers m s
  | bootCopy dr m => exact execBootCopy_answers dr m s
  | testRunEnd fails unit diag => exact execTestRunEnd_answers fails unit diag s
  | read32 n m => exact execRead32_answers n m s
  | write32 n m => exact execWrite32_answers n m s
  | flashRead n ev => exact execFlashRead_answers n ev s
  | flashProgram n eraseOk progOk => exact execFlashProgram_answers n eraseOk progOk s
  | bistRun n => exact execBistRun_answers n s
  | telemetryNow n => exact execTelemetryNow_answers n s
  | svcReset n env => exact execSvcReset_answers n env s
  | porstN env => exact execPorstN_answers env s
  | trstN env => exact execTrstN_answers env s
  | tapBypass code env => exact execTapBypass_answers code env s
  | fieldTest v env => exact execFieldTest_answers v env s
  | tapExtest pins cells sup env => exact s.scan_answers 0x00 pins cells sup env
  | samplePreload pins cells sup env => exact s.scan_answers 0x01 pins cells sup env
  | extestPulse pins cells sup env => exact s.scan_answers 0x05 pins cells sup env
  | extestTrain pins cells sup env => exact s.scan_answers 0x06 pins cells sup env
  | tapIdcode env => exact s.capture_answers 0x02 0x272609B3 env
  | tapClamp env => exact s.capture_answers 0x03 0 env
  | tapHighz env => exact s.capture_answers 0x04 0 env
  | leaveExtest code env => exact ⟨_, rfl, s.keeps_loadIr code.toNat env⟩
  | mbist v env => exact ⟨_, rfl, s.keeps_privScan 0x40 v env⟩
  | lbist v env => exact ⟨_, rfl, s.keeps_privScan 0x41 v env⟩
  | serdesLb v env => exact ⟨_, rfl, s.keeps_privScan 0x42 v env⟩
  | _ => exact s.runDev_answers _

/-- What any command's next state keeps. -/
theorem exec_keeps {c : Instr} {s t : State} (h : exec c s = .next t) : s.Keeps t := by
  obtain ⟨t', hnext, hkeeps⟩ := exec_answers c s
  cases hnext.symm.trans h
  exact hkeeps

/-! ## One step -/

theorem step_nil {s : State} (h : s.pending = []) : step s = .next s.idle := by rw [step, h]

theorem step_cons {s : State} {c : Instr} {cs : List Instr} (h : s.pending = c :: cs) : step s = exec c (s.withPending cs) := by rw [step, h]

/-! ## The statements -/

/-- Settles O3: each command is the effect of its row on a running core, or on the test access port and the resets, and both answer a next state. -/
theorem everyCommandAnswersANextState : Obligations.EveryCommandAnswersANextState := fun c s =>
  let ⟨t, hnext, _⟩ := exec_answers c s
  ⟨t, hnext⟩

/-- Settles O4: no operation of a command stores the queue. -/
theorem noCommandTouchesTheQueue : Obligations.NoCommandTouchesTheQueue := fun _ _ _ h => (exec_keeps h).1

/-- Settles O6, by the queue: an idle step leaves the ports and the thermal unit, and the front command keeps their bounds. -/
theorem portAndThermalBoundsAreKeptByEveryStep : Obligations.PortAndThermalBoundsAreKeptByEveryStep := by
  intro s t hs hstep
  cases hq : s.pending with
  | nil =>
    cases (step_nil hq).symm.trans hstep
    exact hs
  | cons c cs => exact (exec_keeps ((step_cons hq).symm.trans hstep)).2 hs

/-- Settles O5: the FIFOs are empty and the level is T0. -/
theorem portAndThermalBoundsHoldAtReset : Obligations.PortAndThermalBoundsHoldAtReset := State.reset.bounded_iff.mpr ⟨rfl, rfl, rfl⟩

/-- Settles O1, by the definition of a step. -/
theorem stepRunsTheFrontCommand : Obligations.StepRunsTheFrontCommand := fun _ _ _ h => step_cons h

/-- Settles O2: the idle step adds 10 ns to the core's time and nothing else. -/
theorem stepOnAnEmptyQueueLetsTimePass : Obligations.StepOnAnEmptyQueueLetsTimePass := fun _ h =>
  ⟨step_nil h, rfl, rfl, rfl, rfl, rfl⟩

end Sys2Proof.Machine
end

section
/-! PROOF. Doorbells (R425 to R427): what the log, a corrected event and a wake event leave alone, and from that the statement DoorbellsTouchOneRing. -/

namespace Sys2Proof.Machine

/-! ## What a note of an event leaves (R353, R437, R483, R486) -/

/-- The core without what notes of events go to: the registers, the log, the tick unit, the power unit, and of the host port all but its rings. -/
def Dev.unnoted (d : Dev) : Dev :=
  { d with regs := [], log := [], dropPend := false, tick := TickSt.reset, pwr := Dev.reset.pwr,
           host := { HostSt.reset with rings := d.host.rings } }

theorem Dev.ite_unnoted {d a b : Dev} {c : Prop} [Decidable c] (ha : a.unnoted = d.unnoted) (hb : b.unnoted = d.unnoted) :
    (if c then a else b).unnoted = d.unnoted := by
  split
  · exact ha
  · exact hb

@[simp] theorem Dev.orReg_unnoted (d : Dev) (o b : Nat) : (d.orReg o b).unnoted = d.unnoted := rfl
@[simp] theorem Dev.incReg_unnoted (d : Dev) (o n : Nat) : (d.incReg o n).unnoted = d.unnoted := rfl
@[simp] theorem Dev.mark_unnoted (d : Dev) (sid : Nat) : (d.mark sid).unnoted = d.unnoted := rfl

@[simp] theorem Dev.upstream_unnoted (d : Dev) (q : Nat) (x : UpTlp) : (d.upstream q x).unnoted = d.unnoted := Dev.ite_unnoted rfl rfl

@[simp] theorem Dev.msi_unnoted (d : Dev) (q fn v : Nat) : (d.msi q fn v).unnoted = d.unnoted :=
  Dev.ite_unnoted rfl (Dev.ite_unnoted rfl (d.upstream_unnoted q _))

@[simp] theorem Dev.countErr_unnoted (d : Dev) (code sev : Nat) : (d.countErr code sev).unnoted = d.unnoted :=
  Dev.ite_unnoted rfl (Dev.ite_unnoted rfl rfl)

@[simp] theorem Dev.writeLog_unnoted (d : Dev) (code sev : Nat) (e : ErrAt) : (d.writeLog code sev e).unnoted = d.unnoted :=
  Dev.ite_unnoted rfl (Dev.ite_unnoted (Dev.msi_unnoted _ _ _ _) rfl)

@[simp] theorem Dev.logSev_unnoted (d : Dev) (code sev : Nat) (e : ErrAt) : (d.logSev code sev e).unnoted = d.unnoted := by
  rw [Dev.logSev, Dev.writeLog_unnoted, Dev.countErr_unnoted]

@[simp] theorem Dev.logC_unnoted (d : Dev) (code node : Nat) : (d.logC code node).unnoted = d.unnoted := d.logSev_unnoted _ _ _

@[simp] theorem Dev.logT_unnoted (d : Dev) (code node tenant : Nat) : (d.logT code node tenant).unnoted = d.unnoted := d.logSev_unnoted _ _ _

@[simp] theorem Dev.withdraw_unnoted (d : Dev) (tenant : Option Nat) : (d.withdraw tenant).unnoted = d.unnoted := by cases tenant <;> rfl

@[simp] theorem Dev.logS_unnoted (d : Dev) (code : Nat) (e : ErrAt) : (d.logS code e).unnoted = d.unnoted := by
  rw [Dev.logS, Dev.withdraw_unnoted, Dev.logSev_unnoted]
  exact Dev.ite_unnoted rfl rfl

@[simp] theorem Dev.once_unnoted (d : Dev) (key : Nat × Nat) : (d.once key).2.unnoted = d.unnoted := by
  unfold Dev.once
  split <;> rfl

@[simp] theorem Dev.logOnce_unnoted (d : Dev) (code n node : Nat) : (d.logOnce code n node).unnoted = d.unnoted :=
  Dev.ite_unnoted ((Dev.logC_unnoted _ code node).trans (d.once_unnoted _)) (d.once_unnoted _)

@[simp] theorem Dev.sramCe_unnoted (d : Dev) (node : Nat) : (d.sramCe node).unnoted = d.unnoted := by
  rw [Dev.sramCe, Dev.logOnce_unnoted, Dev.incReg_unnoted]

@[simp] theorem Dev.badAccess_unnoted (d : Dev) : d.badAccess.unnoted = d.unnoted := by rw [Dev.badAccess, Dev.logC_unnoted, Dev.orReg_unnoted]

@[simp] theorem Dev.wake_unnoted (d : Dev) (b : Nat) (tickReq : Bool) : (d.wake b tickReq).unnoted = d.unnoted :=
  Dev.ite_unnoted rfl (Dev.ite_unnoted rfl rfl)

@[simp] theorem Dev.wakeBy_unnoted (d : Dev) (b top : Nat) (tickReq : Bool) : (d.wakeBy b top tickReq).unnoted = d.unnoted :=
  Dev.ite_unnoted (d.wake_unnoted b tickReq) rfl

/-! ## Doorbells (R425 to R427, R485) -/

/-- Between two cores no ring but `r` changes, no memory and no tile. -/
def Dev.OneRing (r : Nat) (d d' : Dev) : Prop := (∀ q, q ≠ r → d'.ring q = d.ring q) ∧ d'.memories = d.memories ∧ d'.tiles = d.tiles

section
variable {r : Nat} {d d' d'' : Dev}

theorem Dev.OneRing.of_unnoted (h : d'.unnoted = d.unnoted) : Dev.OneRing r d d' :=
  ⟨fun q _ => (congrArg (fun e : Dev => e.ring q) h :), (congrArg Dev.memories h :), (congrArg Dev.tiles h :)⟩

theorem Dev.OneRing.setRing (d : Dev) (r : Nat) (x : Ring) : Dev.OneRing r d (d.setRing r x) :=
  ⟨fun q hq => (d.ring_setRing r q x).trans (if_neg hq), rfl, rfl⟩

theorem Dev.OneRing.trans (h : Dev.OneRing r d d') (h' : Dev.OneRing r d' d'') : Dev.OneRing r d d'' :=
  ⟨fun q hq => (h'.1 q hq).trans (h.1 q hq), h'.2.1.trans h.2.1, h'.2.2.trans h.2.2⟩

theorem Dev.OneRing.ite {c : Prop} [Decidable c] (h : Dev.OneRing r d d') (h' : Dev.OneRing r d d'') :
    Dev.OneRing r d (if c then d' else d'') := by
  split
  · exact h
  · exact h'

end

theorem Dev.dbDrop_oneRing (d : Dev) (r code b : Nat) : Dev.OneRing r d (d.dbDrop r code b) :=
  .of_unnoted (by rw [Dev.dbDrop, Dev.logT_unnoted, Dev.orReg_unnoted])

/-- A doorbell is dropped with a note, or taken into its ring (R427). -/
theorem Dev.doorbell_oneRing (d : Dev) (r : Nat) (v : Word) : Dev.OneRing r d (d.doorbell r v) := by
  have hdrop := d.dbDrop_oneRing r
  have htake := Dev.OneRing.setRing d r
  exact .ite (hdrop _ _) (.ite (hdrop _ _) (.ite (.ite (hdrop _ _) (htake _)) (.ite (hdrop _ _) (htake _))))

/-- An uncorrectable error of the ring's context marks that ring (R485). -/
theorem Dev.ringUe_oneRing (d : Dev) (r : Nat) : Dev.OneRing r d (d.ringUe r) :=
  (Dev.OneRing.setRing d r { d.ring r with ue := true }).trans (.of_unnoted ((Dev.logS_unnoted _ _ _).trans (Dev.mark_unnoted _ (r / 4))))

theorem Dev.dbWrite_oneRing (d : Dev) (r : Nat) (v : Word) (ecc : SramEv) : Dev.OneRing r d (d.dbWrite r v ecc) := by
  refine Dev.OneRing.trans ?_ (.of_unnoted (Dev.wakeBy_unnoted _ 1 3 false))
  cases ecc with
  | clean => exact d.doorbell_oneRing r v
  | corrected => exact (Dev.OneRing.of_unnoted (d.sramCe_unnoted nodeHost)).trans (Dev.doorbell_oneRing _ r v)
  | uncorrectable => exact d.ringUe_oneRing r

/-- A command of the core alone answers its effect on the core, or nothing happens. -/
theorem State.runDev_cases {s t : State} {f : Dev → Dev} (h : s.runDev f = .next t) : t = s.onDev f ∨ t = s := by
  rcases State.run_cases h with ⟨-, ht⟩ | ⟨-, ht⟩
  · exact .inl ht
  · exact .inr ht

/-- Settles O49: a doorbell's only stores are notes of events and the ring that it names. -/
theorem doorbellsTouchOneRing : Obligations.DoorbellsTouchOneRing := by
  intro fn r v ecc s t h
  have hdev : Dev.OneRing r s.dev t.dev ∧ t.sp = s.sp ∧ t.th = s.th ∧ t.tap = s.tap := by
    rcases State.runDev_cases h with rfl | rfl
    · exact ⟨.ite (.of_unnoted rfl) (.ite (.of_unnoted s.dev.badAccess_unnoted) (s.dev.dbWrite_oneRing r v ecc)), rfl, rfl, rfl⟩
    · exact ⟨.of_unnoted rfl, rfl, rfl, rfl⟩
  obtain ⟨⟨hrings, hmem, htiles⟩, hsp, hth, htap⟩ := hdev
  obtain ⟨hmem, hdram, hflash⟩ := (Dev.memories_eq_iff _ _).mp hmem
  exact ⟨hrings, hmem, hdram, hflash, htiles, hsp, hth, htap⟩

end Sys2Proof.Machine
end

section
/-! PROOF. The fuses (R412): what raising an error, a Clearing and the key commands leave of the security unit, and from that the statement
SecurityCommandsNeverUnblowAFuse. -/

namespace Sys2Proof.Machine

/-! ## The error log leaves the security unit (R437, R483, R486) -/

@[simp] theorem Dev.logSev_sec (d : Dev) (code sev : Nat) (e : ErrAt) : (d.logSev code sev e).sec = d.sec :=
  (congrArg Dev.sec (d.logSev_unnoted code sev e) :)

@[simp] theorem Dev.logC_sec (d : Dev) (code node : Nat) : (d.logC code node).sec = d.sec := d.logSev_sec _ _ _

@[simp] theorem Dev.logT_sec (d : Dev) (code node tenant : Nat) : (d.logT code node tenant).sec = d.sec := d.logSev_sec _ _ _

@[simp] theorem Dev.logS_sec (d : Dev) (code : Nat) (e : ErrAt) : (d.logS code e).sec = d.sec :=
  (congrArg Dev.sec (d.logS_unnoted code e) :)

@[simp] theorem Dev.notReady_sec (d : Dev) (node : Nat) : (d.notReady node).sec = d.sec := d.logC_sec _ _

/-- A run of updates, each of which keeps the security unit, keeps it. -/
theorem Dev.foldl_sec {α : Type} {f : Dev → α → Dev} (h : ∀ d x, (f d x).sec = d.sec) (xs : List α) (d : Dev) : (xs.foldl f d).sec = d.sec :=
  List.foldlRecOn xs f (motive := fun d' => d'.sec = d.sec) rfl (fun d' hd x _ => (h d' x).trans hd)

theorem Dev.ite_sec {d a b : Dev} {c : Prop} [Decidable c] (ha : a.sec = d.sec) (hb : b.sec = d.sec) : (if c then a else b).sec = d.sec := by
  split
  · exact ha
  · exact hb

/-! ## Halts and the loss of ports (R49, R99, R315, R327, R435, R482) -/

@[simp] theorem Dev.failBound_sec (d : Dev) (i : Inst) (code : Nat) (b : Bound) : (d.failBound i code b).sec = d.sec :=
  Dev.ite_sec rfl (Dev.ite_sec rfl rfl)

@[simp] theorem Dev.stopTiles_sec (d : Dev) (i code : Nat) (pc : Option Nat) : (d.stopTiles i code pc).sec = d.sec := by
  unfold Dev.stopTiles
  refine Dev.foldl_sec (fun _ _ => ?_) _ d
  exact Dev.ite_sec rfl rfl

@[simp] theorem Dev.haltQuiet_sec (d : Dev) (i code : Nat) (pc : Option Nat) : (d.haltQuiet i code pc).sec = d.sec := by
  unfold Dev.haltQuiet
  split
  · rfl
  · refine Dev.ite_sec ?_ rfl
    rw [Dev.foldl_sec (fun d b => d.failBound_sec _ code b), Dev.stopTiles_sec]
    rfl

@[simp] theorem Dev.haltAll_sec (d : Dev) (code : Nat) : (d.haltAll code).sec = d.sec := Dev.foldl_sec (fun d i => d.haltQuiet_sec i code none) _ d

@[simp] theorem Dev.unreserveAll_sec (d : Dev) (i : Inst) : (d.unreserveAll i).sec = d.sec := by
  unfold Dev.unreserveAll
  refine Dev.foldl_sec (fun _ _ => ?_) _ d
  exact Dev.ite_sec rfl rfl

@[simp] theorem Dev.cancelNext_sec (d : Dev) : d.cancelNext.sec = d.sec :=
  Dev.foldl_sec (f := fun d x => d.unreserveAll x) (fun d x => d.unreserveAll_sec x) d.tick.nxt d

theorem Dev.foldl_setPort_sec (x : Dev → Nat → LPort) (ps : List Nat) (d : Dev) : (ps.foldl (fun d p => d.setPort p (x d p)) d).sec = d.sec :=
  Dev.foldl_sec (f := fun d p => d.setPort p (x d p)) (fun _ _ => rfl) ps d

@[simp] theorem Dev.tellAll_sec (d : Dev) : d.tellAll.sec = d.sec := Dev.foldl_setPort_sec _ _ d

@[simp] theorem Dev.giveBack_sec (d : Dev) (q vc n : Nat) : (d.giveBack q vc n).sec = d.sec := Dev.ite_sec rfl rfl

@[simp] theorem Dev.pump_sec (d : Dev) (p : Nat) : (d.pump p).sec = d.sec := by
  refine Dev.ite_sec ?_ rfl
  rw [Dev.tellAll_sec, Dev.foldl_sec (fun d e => d.giveBack_sec _ _ _)]
  rfl

@[simp] theorem Dev.fenceSrc_sec (d : Dev) (kind cls peer code : Nat) : (d.fenceSrc kind cls peer code).sec = d.sec :=
  Dev.foldl_sec (f := fun d r => d.failReq _ code r) (fun _ _ => Dev.ite_sec rfl rfl) _ d

@[simp] theorem Dev.fencePort_sec (d : Dev) (p : Nat) : (d.fencePort p).sec = d.sec := by
  unfold Dev.fencePort
  refine Dev.foldl_sec (fun d e => ?_) _ d
  exact Dev.ite_sec (d.fenceSrc_sec e.1 e.2.1 e.2.2 0x6006) rfl

@[simp] theorem Dev.undeliver_sec (d : Dev) (k : Pkt) : (d.undeliver k).sec = d.sec :=
  Dev.ite_sec (Dev.ite_sec (d.fenceSrc_sec _ _ _ _) rfl) (Dev.ite_sec (Dev.pump_sec _ _) rfl)

@[simp] theorem Dev.lostPkt_sec (d : Dev) (k : Pkt) (p : Nat) : (d.lostPkt k p).sec = d.sec := by
  have hroute : (if p < 4 then d else d.orReg Reg.HT_STAT 0x80).sec = d.sec := Dev.ite_sec rfl rfl
  exact (Dev.ite_sec rfl (Dev.undeliver_sec _ _)).trans hroute

@[simp] theorem Dev.losePorts_sec (d : Dev) (ps : List Nat) : (d.losePorts ps).sec = d.sec := by
  rw [Dev.losePorts, Dev.tellAll_sec, Dev.foldl_sec (fun d e => by rw [Dev.giveBack_sec, Dev.lostPkt_sec]),
    Dev.foldl_sec (fun d p => d.fencePort_sec p)]
  exact Dev.foldl_setPort_sec (fun d p => (d.port p).downed) ps d

@[simp] theorem Dev.silence_sec (d : Dev) : d.silence.sec = d.sec := by rw [Dev.silence, Dev.foldl_setPort_sec, Dev.losePorts_sec]

/-! ## The fatal state (R478, R482) -/

@[simp] theorem Dev.enterFatal_sec (d : Dev) (code node : Nat) : (d.enterFatal code node).sec = d.sec := by
  have hhalts : ((d.haltAll code).cancelNext.orReg Reg.ERR_STAT 1).sec = d.sec := by simp
  have hcode : ∀ d' : Dev, ∀ v, (if bit (d'.reg Reg.ERR_FATAL) 31 then d' else d'.setReg Reg.ERR_FATAL v).sec = d'.sec :=
    fun _ _ => Dev.ite_sec rfl rfl
  have hlinks : ∀ d' : Dev, (if d'.anyUp then d'.silence else d').sec = d'.sec := fun d' => Dev.ite_sec d'.silence_sec rfl
  have hboot : ∀ d' : Dev, ∀ v, (if bit (d'.reg Reg.RB_STAT) 0 then (d'.setReg Reg.RB_ERR v).bootEnd false else d').sec = d'.sec :=
    fun _ _ => Dev.ite_sec rfl rfl
  exact (hboot _ _).trans ((hlinks _).trans ((hcode _ _).trans hhalts))

@[simp] theorem Dev.raise_sec (d : Dev) (code : Nat) (e : ErrAt) : (d.raise code e).sec = d.sec :=
  Dev.ite_sec ((Dev.enterFatal_sec _ _ _).trans (d.logSev_sec _ _ _)) (Dev.ite_sec (d.logS_sec _ _) (d.logSev_sec _ _ _))

/-! ## The fuses (R412) -/

/-- The fuses as they are programmed, and as they are in effect. -/
def SecSt.fuses (e : SecSt) : (BitVec 384 × Bool × Bool × Nat) × (BitVec 384 × Bool × Bool × Nat) :=
  ((e.rootHash, e.lock, e.debugDis, e.rollback), (e.rootUse, e.lockUse, e.dbgUse, e.rollUse))

/-- Between two states of the unit fuses are only blown, and what is in effect stays. -/
def SecSt.OnlyBlows (e e' : SecSt) : Prop :=
  (e.lock = true → e'.lock = true) ∧ (e.debugDis = true → e'.debugDis = true) ∧ e.rollback ≤ e'.rollback ∧
  (e.rootHash ≠ 0 → e'.rootHash = e.rootHash) ∧ e'.lockUse = e.lockUse ∧ e'.dbgUse = e.dbgUse ∧ e'.rootUse = e.rootUse ∧ e'.rollUse = e.rollUse

theorem SecSt.OnlyBlows.of_fuses {e e' : SecSt} (h : e'.fuses = e.fuses) : e.OnlyBlows e' := by
  simp only [SecSt.fuses, Prod.mk.injEq] at h
  obtain ⟨⟨hroot, hlock, hdebug, hroll⟩, hrootUse, hlockUse, hdebugUse, hrollUse⟩ := h
  exact ⟨hlock.trans, hdebug.trans, hroll.ge, fun _ => hroot, hlockUse, hdebugUse, hrootUse, hrollUse⟩

theorem SecSt.OnlyBlows.of_sec {e e' : SecSt} (h : e' = e) : e.OnlyBlows e' := .of_fuses (congrArg SecSt.fuses h)

theorem SecSt.OnlyBlows.ite {d a b : Dev} {c : Prop} [Decidable c] (ha : c → d.sec.OnlyBlows a.sec) (hb : ¬ c → d.sec.OnlyBlows b.sec) :
    d.sec.OnlyBlows (if c then a else b).sec := by
  split
  next hc => exact ha hc
  next hc => exact hb hc

theorem Dev.fuseRefuse_sec (d : Dev) : d.fuseRefuse.sec = d.sec := d.logC_sec _ _

theorem Dev.fuseRoot_onlyBlows (d : Dev) : d.sec.OnlyBlows d.fuseRoot.sec :=
  .ite (fun _ => .of_sec d.fuseRefuse_sec) fun hblank => ⟨id, id, le_rfl, fun h => absurd (.inl h) hblank, rfl, rfl, rfl, rfl⟩

theorem Dev.fuseLock_onlyBlows (d : Dev) : d.sec.OnlyBlows d.fuseLock.sec :=
  .ite (fun _ => .of_sec d.fuseRefuse_sec) fun _ => ⟨fun _ => rfl, id, le_rfl, fun _ => rfl, rfl, rfl, rfl, rfl⟩

theorem Dev.fuseDebug_onlyBlows (d : Dev) : d.sec.OnlyBlows d.fuseDebug.sec :=
  ⟨id, fun _ => rfl, le_rfl, fun _ => rfl, rfl, rfl, rfl, rfl⟩

theorem Dev.fuseRoll_onlyBlows (d : Dev) : d.sec.OnlyBlows d.fuseRoll.sec := by
  unfold Dev.fuseRoll
  split
  · exact .of_sec d.fuseRefuse_sec
  · exact ⟨id, id, Nat.le_add_right _ 1, fun _ => rfl, rfl, rfl, rfl, rfl⟩

/-! ## Keys (R402 to R405, R407) -/

theorem Dev.scramble_sec (d : Dev) (lo hi : Nat) : (d.scramble lo hi).sec = d.sec := rfl

theorem Dev.rekeyed_sec (d : Dev) (slot : Nat) : (d.rekeyed slot).sec = d.sec := by
  by_cases hslot : slot < 8
  · simp only [Dev.rekeyed, if_pos hslot]
    by_cases hstand : (d.standRange slot).1 < (d.standRange slot).2
    · rw [if_pos hstand, Dev.scramble_sec]
    · rw [if_neg hstand]
  · rw [Dev.rekeyed, if_neg hslot]

theorem Dev.rotate_fuses (d : Dev) (slot : Nat) (fail : Bool) : (d.rotate slot fail).sec.fuses = d.sec.fuses := by
  unfold Dev.rotate
  split
  · rw [Dev.raise_sec]
  · rw [Dev.rekeyed_sec]
    rfl

theorem Dev.keyFail_sec (d : Dev) (code : Nat) : (d.keyFail code).sec = d.sec := Dev.raise_sec _ _ _

theorem Dev.keyGen_fuses (d : Dev) (slot : Nat) (entropyFail : Bool) : (d.keyGen slot entropyFail).sec.fuses = d.sec.fuses := by
  unfold Dev.keyGen
  split
  · rw [Dev.keyFail_sec]
  · split
    · rw [Dev.keyFail_sec]
    · exact d.rotate_fuses slot false

theorem Dev.keyUnwrap_fuses (d : Dev) (slot : Nat) : (d.keyUnwrap slot).sec.fuses = d.sec.fuses := by
  unfold Dev.keyUnwrap
  split
  · rw [Dev.keyFail_sec]
  · split
    · rw [Dev.keyFail_sec]
    · split
      · rw [Dev.keyFail_sec]
      · dsimp only
        split
        · rfl
        · rw [Dev.rekeyed_sec]
          rfl

theorem Dev.keyExport_sec (d : Dev) (slot : Nat) : (d.keyExport slot).sec = d.sec := by
  unfold Dev.keyExport
  refine Dev.foldl_sec (fun _ _ => ?_) _ d
  rfl

/-! ## Stands and Clearing (R395, R406 to R408) -/

theorem Dev.standGo_fuses (d : Dev) (v : Word) : (d.standGo v).sec.fuses = d.sec.fuses := by
  unfold Dev.standGo
  split <;> rfl

theorem Dev.unpack_sec (d : Dev) (t : Nat) : (d.unpack t).sec = d.sec :=
  Dev.foldl_sec (f := fun d x => d.unreserveAll x) (fun d x => d.unreserveAll_sec x) _ d

theorem Dev.clearWrite_fuses (d : Dev) (v : Word) : (d.clearWrite v).sec.fuses = d.sec.fuses := by
  unfold Dev.clearWrite Dev.clearAsk
  split
  · split
    · rw [Dev.logT_sec]
    · rw [Dev.unpack_sec]
      rfl
  · rfl

theorem Dev.wqEmpty_sec (d : Dev) (chs : List Nat) : (d.wqEmpty chs).sec = d.sec := by
  unfold Dev.wqEmpty
  refine Dev.foldl_sec (fun _ _ => ?_) _ d
  rfl

theorem Dev.clearQuiesce_fuses (d : Dev) (t : Nat) (fail : Bool) : (d.clearQuiesce t fail).sec.fuses = d.sec.fuses := by
  have hrotate : ∀ (d' : Dev) (c : Bool) (slot : Nat), (if c then d'.rotate slot fail else d').sec.fuses = d'.sec.fuses := by
    intro d' c slot
    split
    · exact d'.rotate_fuses slot fail
    · rfl
  unfold Dev.clearQuiesce
  dsimp only
  rw [hrotate, hrotate, Dev.wqEmpty_sec]
  rfl

theorem Dev.clearScrub_sec (d : Dev) (t : Nat) : (d.clearScrub t).sec = d.sec :=
  Dev.ite_sec rfl (Dev.ite_sec (Dev.notReady_sec _ _) (Dev.ite_sec rfl rfl))

theorem Dev.resetRegs_sec (d : Dev) (offs : List Nat) : (d.resetRegs offs).sec = d.sec := by
  unfold Dev.resetRegs
  refine Dev.foldl_sec (fun _ _ => ?_) _ d
  rfl

theorem Dev.clearRelease_fuses (d : Dev) (t : Nat) : (d.clearRelease t).sec.fuses = d.sec.fuses :=
  (congrArg SecSt.fuses (d.resetRegs_sec (tenantRegs t)) :)

/-! ## The statement -/

/-- Settles O46: only the four fuse commands write fuses, and each sets what it writes or writes a hash that was blank. -/
theorem securityCommandsNeverUnblowAFuse : Obligations.SecurityCommandsNeverUnblowAFuse := by
  intro v n slot entropyFail s t c hc h
  have hstep : ∃ f : Dev → Dev, exec c s = s.runDev f ∧ s.dev.sec.OnlyBlows (f s.dev).sec := by
    simp only [Claims.securityRows, List.mem_cons, List.not_mem_nil, or_false] at hc
    rcases hc with rfl | rfl | rfl | rfl | rfl | rfl | rfl | rfl | rfl | rfl | rfl
    · exact ⟨_, rfl, .of_fuses (s.dev.standGo_fuses v)⟩
    · exact ⟨_, rfl, .of_fuses (s.dev.clearWrite_fuses v)⟩
    · exact ⟨_, rfl, .ite (fun _ => .of_fuses (Dev.clearQuiesce_fuses _ n entropyFail)) fun _ => .of_sec rfl⟩
    · exact ⟨_, rfl, .ite (fun _ => .of_fuses ((Dev.clearRelease_fuses _ n).trans (congrArg _ (s.dev.clearScrub_sec n)))) fun _ => .of_sec rfl⟩
    · exact ⟨_, rfl, .of_fuses (s.dev.keyGen_fuses slot entropyFail)⟩
    · exact ⟨_, rfl, .of_fuses (s.dev.keyUnwrap_fuses slot)⟩
    · exact ⟨_, rfl, .of_sec (s.dev.keyExport_sec slot)⟩
    · exact ⟨_, rfl, s.dev.fuseRoot_onlyBlows⟩
    · exact ⟨_, rfl, s.dev.fuseLock_onlyBlows⟩
    · exact ⟨_, rfl, s.dev.fuseDebug_onlyBlows⟩
    · exact ⟨_, rfl, s.dev.fuseRoll_onlyBlows⟩
  obtain ⟨f, hexec, hblows⟩ := hstep
  rcases State.runDev_cases (hexec.symm.trans h) with rfl | rfl
  · exact hblows
  · exact SecSt.OnlyBlows.of_sec (e := t.dev.sec) rfl

end Sys2Proof.Machine
end

section
/-! PROOF. Power-on reset and boot (R410 to R412, R466, R474): the statements PowerOnResetTakesTheFuses, LockedPartExecutesNoUnverifiedImage and
ImageSearchTakesTheFirstGoodCopy. -/

namespace Sys2Proof.Machine

/-! ## A power-on reset (R412, R466) -/

theorem Dev.undefPages_sec (page : Nat → Nat) (xs : List Nat) (d : Dev) : (xs.foldl (fun d i => d.undefPage (page i)) d).sec = d.sec :=
  Dev.foldl_sec (f := fun d i => d.undefPage (page i)) (fun _ _ => rfl) xs d

/-- What a flash command leaves undefined when it loses its supply is no fuse. -/
theorem Dev.flashCut_sec (d : Dev) : d.flashCut.sec = d.sec := by
  unfold Dev.flashCut
  split
  · exact Dev.ite_sec rfl (Dev.ite_sec rfl (Dev.ite_sec (Dev.undefPages_sec _ _ d) (Dev.ite_sec rfl rfl)))
  · rfl

theorem Dev.flashCut_of_idle {d : Dev} (h : d.flash.cmd = none) : d.flashCut = d := by rw [Dev.flashCut, h]

/-- The security unit after a power-on reset: only the fuses stay, and they are in effect. -/
def SecSt.rearmed (e : SecSt) : SecSt :=
  { SecSt.reset with rootHash := e.rootHash, lock := e.lock, debugDis := e.debugDis, rollback := e.rollback,
                     rootUse := e.rootHash, lockUse := e.lock, dbgUse := e.debugDis, rollUse := e.rollback }

theorem Dev.porReset_sec (d : Dev) : d.porReset.sec = d.sec.rearmed := by
  rw [← d.flashCut_sec]
  unfold Dev.porReset
  dsimp only
  split <;> rfl

theorem Dev.porReset_cells (d : Dev) : d.porReset.flash.cells = d.flashCut.flash.cells := by
  unfold Dev.porReset
  dsimp only
  split <;> rfl

/-- Settles O47: the reset's record of the security unit takes each fuse twice, and the flash keeps its cells. -/
theorem powerOnResetTakesTheFuses : Obligations.PowerOnResetTakesTheFuses := by
  intro d
  refine ⟨?_, fun hidle => ?_⟩
  · rw [Dev.porReset_sec]
    exact ⟨rfl, rfl, rfl, rfl, rfl, rfl, rfl, rfl⟩
  · rw [Dev.porReset_cells, Dev.flashCut_of_idle hidle]

/-! ## The copies of the image (R410, R411, R474, R475) -/

/-- With LOCK in effect an image that passes R411 has verified. -/
theorem Dev.judgeImage_of_lock {d : Dev} {img : List Byte} {v : Bool} (hlock : d.sec.lockUse = true) (h : d.judgeImage img = (none, v)) :
    d.imageFault img = none ∧ v = true := by
  unfold Dev.judgeImage at h
  split at h
  case h_1 hfault => exact ⟨hfault, (Prod.mk.inj h).2.symm⟩
  case h_2 => simp [hlock] at h

/-- A copy that is executed has been judged, and its table is valid. -/
theorem Dev.readCopy_ok {d : Dev} {blk : Nat} {bad : Bool} {img : List Byte} {v : Bool} (h : d.readCopy blk bad = .ok (img, v)) :
    d.judgeImage img = (none, v) ∧ bootTableOk (img.drop 256) = true := by
  unfold Dev.readCopy at h
  dsimp only at h
  split at h
  · cases h
  · split at h
    · cases h
    · split at h
      · cases h
      · split at h
        · cases h
        next hjudge =>
          split at h
          next htable =>
            cases h
            exact ⟨hjudge, htable⟩
          · cases h

/-- Settles O57: what `readCopy` answers has been judged, and the judgement with LOCK in effect passes verified images alone. -/
theorem lockedPartExecutesNoUnverifiedImage : Obligations.LockedPartExecutesNoUnverifiedImage := by
  intro d blk bad img hlock
  have hexecuted : ∀ v, d.readCopy blk bad = .ok (img, v) → d.imageFault img = none ∧ v = true ∧ bootTableOk (img.drop 256) = true := by
    intro v h
    obtain ⟨hjudge, htable⟩ := Dev.readCopy_ok h
    obtain ⟨hfault, hv⟩ := Dev.judgeImage_of_lock hlock hjudge
    exact ⟨hfault, hv, htable⟩
  refine ⟨fun h => ?_, fun hbad v h => ?_⟩
  · exact absurd (hexecuted false h).2.1 (by decide)
  · obtain ⟨hfault, -, htable⟩ := hexecuted v h
    rcases hbad with hbad | hbad
    · exact hbad hfault
    · rw [htable] at hbad
      cases hbad

/-! ## The search for an image (R474) -/

section
variable {d : Dev} {env : BootEnv} {failed : Option Nat} {img : List Byte} {v : Bool}

theorem Dev.bootB_of_copy (hthere : d.copyBlank 1 = false) (hcopy : d.readCopy 1 env.badB = .ok (img, v)) :
    d.bootB failed env = d.bootTable 2 img v := by
  unfold Dev.bootB
  rw [if_neg (by rw [hthere]; decide), hcopy]

theorem Dev.bootB_of_blank (hblank : d.copyBlank 1 = true) : d.bootB none env = (d.orReg Reg.RB_STAT 8).bootEnd false := by
  unfold Dev.bootB
  rw [if_pos hblank]

theorem Dev.bootSearch_of_blank (hflash : env.noFlash = false) (hblank : d.copyBlank 0 = true) : d.bootSearch env = d.bootB none env := by
  unfold Dev.bootSearch
  rw [if_neg (by rw [hflash]; decide), if_pos hblank]

theorem Dev.bootSearch_of_copy (hflash : env.noFlash = false) (hthere : d.copyBlank 0 = false) (hcopy : d.readCopy 0 env.badA = .ok (img, v)) :
    d.bootSearch env = d.bootTable 1 img v := by
  unfold Dev.bootSearch
  rw [if_neg (by rw [hflash]; decide), if_neg (by rw [hthere]; decide), hcopy]

theorem Dev.bootSearch_of_fail {c : Nat} (hflash : env.noFlash = false) (hthere : d.copyBlank 0 = false)
    (hcopy : d.readCopy 0 env.badA = .error c) : d.bootSearch env = (d.copyFail 0 c).bootB (some c) env := by
  unfold Dev.bootSearch
  rw [if_neg (by rw [hflash]; decide), if_neg (by rw [hthere]; decide), hcopy]

end

/-- Settles O56: copy A decides, and where it does not copy B does. -/
theorem imageSearchTakesTheFirstGoodCopy : Obligations.ImageSearchTakesTheFirstGoodCopy := by
  intro d env img v hflash
  refine ⟨Dev.bootSearch_of_copy hflash, fun hA hB hcopy => ?_, fun c hA hfail hB hcopy => ?_, fun hA hB => ?_⟩
  · rw [Dev.bootSearch_of_blank hflash hA, Dev.bootB_of_copy hB hcopy]
  · rw [Dev.bootSearch_of_fail hflash hA hfail, Dev.bootB_of_copy hB hcopy]
  · rw [Dev.bootSearch_of_blank hflash hA, Dev.bootB_of_blank hB]

end Sys2Proof.Machine
end

section
/-! PROOF. Frames and characters of the service ports (R440, R441, R456, R457): what the scan of the bytes of a frame and the samples of a driven character
read, and from that the statements ServiceFramesScanBack and CharactersReadBack. -/

namespace Sys2Proof.Machine

/-! ## The check of a frame (R456) -/

theorem crc16Bit_lt (c : Nat) : crc16Bit c < 2 ^ 16 := by
  have hshift : c * 2 % 0x10000 < 2 ^ 16 := Nat.mod_lt _ (by decide)
  unfold crc16Bit
  split
  · exact Nat.xor_lt_two_pow hshift (by decide)
  · exact hshift

theorem crc16_lt (bs : List Byte) : crc16 bs < 2 ^ 16 :=
  List.foldlRecOn bs crc16Byte (motive := fun c => c < 2 ^ 16) (by decide) (fun _ _ _ _ => crc16Bit_lt _)

/-! ## A frame in its bytes (R456, R457) -/

/-- What the CRC of a frame covers: its length, its command, its sequence byte and its payload. -/
def svcBody (cmd : Nat) (seq : Byte) (pay : List Byte) : List Byte := leBytes 2 (2 + pay.length) ++ ([BitVec.ofNat 8 cmd, seq] ++ pay)

theorem svcFrame_eq (cmd : Nat) (seq : Byte) (pay : List Byte) :
    svcFrame cmd seq pay = 0x7E :: (svcBody cmd seq pay ++ leBytes 2 (crc16 (svcBody cmd seq pay))) := by
  rw [svcBody, ← List.append_assoc]
  rfl

theorem length_svcBody (cmd : Nat) (seq : Byte) (pay : List Byte) : (svcBody cmd seq pay).length = pay.length + 4 := by
  simp [svcBody, length_leBytes]
  omega

section
variable (cmd : Nat) (seq : Byte) (pay more : List Byte)

theorem svcBody_len (h : pay.length ≤ 1031) : leAt (svcBody cmd seq pay ++ more) 0 2 = pay.length + 2 := by
  rw [svcBody, List.append_assoc, leAt_leBytes_append]
  omega

theorem svcBody_cmd (h : cmd < 256) : leAt (svcBody cmd seq pay ++ more) 2 1 = cmd := by
  rw [svcBody, List.append_assoc, leAt_append _ _ (length_leBytes 2 _).le, length_leBytes]
  simp only [leAt, leNat, Nat.sub_self, List.drop_zero, List.cons_append, List.take_succ_cons, List.take_zero, BitVec.toNat_ofNat]
  omega

theorem svcBody_seq : (svcBody cmd seq pay ++ more).getD 3 0 = seq := rfl

theorem svcBody_pay : (svcBody cmd seq pay ++ more).drop 4 = pay ++ more := rfl

end

/-- Settles O52: the length leads to the CRC, which is that of the body before it. -/
theorem serviceFramesScanBack : Obligations.ServiceFramesScanBack := by
  intro cmd seq pay rest cut n hcmd hpay
  have hbody := length_svcBody cmd seq pay
  have hlen := svcBody_len cmd seq pay (leBytes 2 (crc16 (svcBody cmd seq pay)) ++ rest) hpay
  rw [svcFrame_eq, List.cons_append, List.append_assoc, svcScan]
  simp only [hlen, List.length_append, hbody, length_leBytes]
  rw [if_neg (by decide), if_neg (by omega), if_neg (by omega), if_neg, svcBody_cmd cmd seq pay _ hcmd, svcBody_seq, svcBody_pay]
  · rw [show pay.length + 2 + 4 = (svcBody cmd seq pay).length + (leBytes 2 (crc16 (svcBody cmd seq pay))).length by
        rw [hbody, length_leBytes], Nat.add_sub_cancel, List.take_left' rfl, ← List.drop_drop, List.drop_left' rfl, List.drop_left' rfl]
  · rw [show pay.length + 2 + 2 = (svcBody cmd seq pay).length from hbody.symm, List.take_left' rfl, leAt_append _ _ le_rfl, Nat.sub_self,
      leAt_leBytes_append, Nat.mod_eq_of_lt (show _ < 256 ^ 2 from crc16_lt _)]
    exact fun h => h rfl

/-! ## The bits of a character in its samples (R440, R441) -/

/-- In a line that holds each bit for `n` samples, sample `k` of bit `i` is that bit. -/
theorem getD_flatMap_replicate {α : Type} {n k : Nat} (hk : k < n) (bits : List α) (i : Nat) (a : α) :
    (bits.flatMap (List.replicate n)).getD (n * i + k) a = bits.getD i a := by
  induction bits generalizing i with
  | nil => rfl
  | cons b bits ih =>
    cases i with
    | zero =>
      rw [List.flatMap_cons, Nat.mul_zero, Nat.zero_add, List.getD_append _ _ _ _ (by rwa [List.length_replicate]), List.getD_replicate _ hk,
        List.getD_cons_zero]
    | succ i =>
      have hi : n * (i + 1) + k = n * i + k + n := by ring
      rw [List.flatMap_cons, hi, List.getD_append_right _ _ _ _ (by rw [List.length_replicate]; omega), List.length_replicate,
        Nat.add_sub_cancel, ih, List.getD_cons_succ]

/-- The samples of a line that is driven with some bits, each for `n` of them. -/
def driven (n : Nat) (bits : List Bool) : List RxSample := bits.flatMap fun b => List.replicate n { level := b, low2 := !b, high2 := b }

theorem map_sampleVal_driven {ctrl : Word} (hirda : bit ctrl 5 = false) (n : Nat) (bits : List Bool) :
    (driven n bits).map (sampleVal ctrl) = bits.flatMap (List.replicate n) := by
  simp [driven, List.map_flatMap, sampleVal, hirda]

theorem maj_self (b : Bool) : maj b b b = b := by cases b <;> rfl

theorem osOf_cases {ctrl : Word} (hirda : bit ctrl 5 = false) (baud : Word) : osOf baud ctrl = 16 ∨ osOf baud ctrl = 8 ∨ osOf baud ctrl = 3 := by
  have hfld : fld baud 16 2 < 4 := Nat.mod_lt _ (by decide)
  rw [osOf, if_neg (by rw [hirda]; decide)]
  interval_cases fld baud 16 2 <;> decide

/-- The samples taken of each bit read that bit, and the idle level behind the last. -/
theorem bitVal_driven {ctrl : Word} (hirda : bit ctrl 5 = false) (baud : Word) (bits : List Bool) (i : Nat) :
    bitVal baud ctrl (driven (osOf baud ctrl) bits) i = bits.getD i true := by
  unfold bitVal
  rw [if_neg (by rw [hirda]; decide), map_sampleVal_driven hirda]
  dsimp only
  rcases osOf_cases hirda baud with h | h | h
  all_goals
    simp only [h]
    repeat rw [getD_flatMap_replicate (by decide)]
  · exact maj_self _
  · exact maj_self _

/-! ## The data of a character (R441) -/

theorem natOfBits_testBits (n v : Nat) : natOfBits ((List.range n).map v.testBit) = v % 2 ^ n := by
  induction n generalizing v with
  | zero => simp [natOfBits, Nat.mod_one]
  | succ n ih =>
    have htail : (List.range n).map (v.testBit ∘ Nat.succ) = (List.range n).map (v / 2).testBit :=
      List.map_congr_left fun i _ => Nat.testBit_succ v i
    have hhead : b2n (v.testBit 0) = v % 2 := by
      rw [Nat.testBit_zero]
      rcases Nat.mod_two_eq_zero_or_one v with h | h <;> simp [b2n, h]
    rw [List.range_succ_eq_map, List.map_cons, List.map_map, htail, natOfBits, ih, hhead, Nat.pow_succ, Nat.mul_comm (2 ^ n), Nat.mod_mul]

/-- The data bits of a character as they are sent. -/
def dataBits (fmt : Word) (v : Nat) : List Bool := (List.range (dbitsOf fmt)).map v.testBit

theorem length_dataBits (fmt : Word) (v : Nat) : (dataBits fmt v).length = dbitsOf fmt := by simp [dataBits]

/-- A character as it is sent, with its stop bit. -/
theorem charBits_stop (fmt : Word) (v : Nat) :
    charBits fmt v ++ [true] = false :: (dataBits fmt v ++ ((parityOf fmt (dataBits fmt v)).toList ++ [true])) := by
  have hdata : (List.range (dbitsOf fmt)).map (fun i => v.testBit i) = dataBits fmt v := rfl
  simp only [charBits, hdata, List.cons_append, List.append_assoc]
  cases parityOf fmt (dataBits fmt v) <;> rfl

section
variable (xs tail : List Bool)

/-- The data bits lie behind the start bit. -/
theorem data_behind_start : (List.range xs.length).map (fun i => (false :: (xs ++ tail)).getD (i + 1) true) = xs := by
  refine List.ext_getElem (by simp) fun i _ hi => ?_
  simp only [List.getElem_map, List.getElem_range, List.getD_cons_succ]
  rw [List.getD_append _ _ _ _ hi, List.getD_eq_getElem _ _ hi]

/-- The other bits lie behind the data. -/
theorem tail_behind_data (k : Nat) : (false :: (xs ++ tail)).getD (xs.length + 1 + k) true = tail.getD k true := by
  rw [Nat.add_right_comm, List.getD_cons_succ, List.getD_append_right _ _ _ _ (Nat.le_add_right _ k), Nat.add_sub_cancel_left]

end

/-- Settles O53: each bit reads as it was driven, so the data, the parity bit and the stop bit are those sent. -/
theorem charactersReadBack : Obligations.CharactersReadBack := by
  intro baud fmt ctrl v hirda hv
  have hdata : natOfBits (dataBits fmt v) = v := by rw [dataBits, natOfBits_testBits, Nat.mod_eq_of_lt hv]
  change charOf baud fmt ctrl (driven (osOf baud ctrl) (charBits fmt v ++ [true])) = _
  simp only [charOf, bitVal_driven hirda]
  rw [charBits_stop, ← length_dataBits fmt v, data_behind_start, hdata]
  have hgot := tail_behind_data (dataBits fmt v) ((parityOf fmt (dataBits fmt v)).toList ++ [true]) 0
  have hstop := tail_behind_data (dataBits fmt v) ((parityOf fmt (dataBits fmt v)).toList ++ [true])
    (b2n (parityOf fmt (dataBits fmt v)).isSome)
  rw [Nat.add_zero] at hgot
  rw [hgot, hstop]
  cases parityOf fmt (dataBits fmt v) <;> simp [b2n]

end Sys2Proof.Machine
end

section
/-! PROOF. The commands of the service ports (R438 to R457, R462): what each leaves of a port, and from that the statement ServicePortCommandsComplete. -/

namespace Sys2Proof.Machine

/-! ## Ports as they are stored -/

@[simp] theorem SpSt.port_setPort (sp : SpSt) (n : Nat) (p : SpPort) : (sp.setPort n p).port n = p := by
  unfold SpSt.port SpSt.setPort
  split <;> rfl

@[simp] theorem SpSt.setPort_setPort (sp : SpSt) (n : Nat) (p q : SpPort) : (sp.setPort n p).setPort n q = sp.setPort n q := by
  unfold SpSt.setPort
  split <;> rfl

/-- A command of a port on a running core. -/
theorem State.run_onPort {s : State} {n : Nat} {f : State → Dev → SpPort → Dev × SpPort} {d : Dev} {p : SpPort} (hlive : s.live = true)
    (h : f s s.dev (s.sp.port n) = (d, p)) : (s.run fun s => s.onPort n (f s)) = .next { s with dev := d, sp := s.sp.setPort n p } := by
  rw [State.run_live _ hlive, State.onPort, h]

/-! ## Counts and flags (R443, R444) -/

theorem satAdd_zero (v : Word) : satAdd v 0 = v := by
  have hmax : v.toNat ≤ 0xFFFFFFFF := Nat.le_pred_of_lt v.isLt
  rw [satAdd, Nat.add_zero, min_eq_left hmax, w32, BitVec.ofNat_toNat, BitVec.setWidth_eq]

@[simp] theorem SpPort.count_zero (p : SpPort) : p.count 0 0 0 0 = p := by simp [SpPort.count, satAdd_zero]

/-- No flag is no event. -/
@[simp] theorem spFlags_zero (n : Nat) (x : Dev × SpPort) : spFlags n x 0 = x := by
  have hall : x.2.seen &&& 0xFFFFFFFF#32 = x.2.seen := BitVec.and_allOnes
  simp [spFlags, w32, hall]

/-- An event of the line sets its flags, and perhaps a message and a note in the log. -/
theorem spFlags_port (n : Nat) (x : Dev × SpPort) (flags : Nat) :
    ∃ sec, (spFlags n x flags).2 = { x.2 with stat := x.2.stat ||| w32 flags, seen := x.2.seen &&& ~~~ w32 flags, lineSec := sec } := by
  unfold spFlags
  dsimp only
  rw [apply_ite Prod.snd]
  split_ifs <;> exact ⟨_, rfl⟩

/-! ## Writes of a port's registers (R438, R439, R442, R445, R448) -/

theorem SpPort.baudWrite_keeps (p : SpPort) (v : Word) :
    (p.baudWrite v).baud = v &&& 0x3FFFF ∧ (p.baudWrite v).tx = p.tx ∧ (p.baudWrite v).rx = p.rx := by
  refine ⟨?_, (congrArg Prod.snd (p.baudWrite_fifos v) :), (congrArg Prod.fst (p.baudWrite_fifos v) :)⟩
  unfold SpPort.baudWrite
  dsimp only
  split
  · rfl
  · split <;> rfl

theorem State.run_portWrite {s : State} (n o : Nat) (v : Word) (hlive : s.live = true) :
    (s.run fun s => s.portWrite n o v 0) = .next { s with sp := s.sp.setPort n ((s.sp.port n).write s.dev o v 0) } :=
  State.run_live _ hlive

theorem baudIsWritten : Claims.BaudIsWritten := fun n v s hlive => ⟨State.run_portWrite n 0 v hlive, (s.sp.port n).baudWrite_keeps v⟩

theorem dataWriteQueues : Claims.DataWriteQueues := by
  intro n v s hlive
  have hexec : exec (.spDataWrite n v) s = .next { s with sp := s.sp.setPort n ((s.sp.port n).dataWrite v) } := State.run_portWrite n 0x14 v hlive
  refine ⟨fun hroom => ?_, fun hfull => ?_⟩
  · rw [hexec, SpPort.dataWrite, if_neg (Nat.not_le_of_lt hroom)]
  · rw [hexec, SpPort.dataWrite, if_pos hfull]

theorem breakIsAskedFor : Claims.BreakIsAskedFor := by
  intro n v s hlive hlen
  have hexec : exec (.spBrkTx n v) s = .next { s with sp := s.sp.setPort n ((s.sp.port n).brkWrite v) } := State.run_portWrite n 0x18 v hlive
  refine ⟨fun hidle => ?_, fun hpending => ?_⟩
  · rw [hexec, SpPort.brkWrite, if_neg hlen, if_neg (not_not_intro hidle)]
  · rw [hexec, SpPort.brkWrite, if_neg hlen, if_pos hpending]

theorem flushEmptiesTheFifo : Claims.FlushEmptiesTheFifo := fun n _ hlive => ⟨State.run_portWrite n 0x20 1 hlive, State.run_portWrite n 0x20 2 hlive⟩

/-! ## Reads of a port's registers (R442, R444) -/

theorem exec_spDataRead {s : State} (n : Fin 2) (hlive : s.live = true) :
    exec (.spDataRead n) s =
      .next { (s.answer (leBytes 4 (s.sp.port n).dataWord.toNat)) with sp := s.sp.setPort n (s.sp.port n).dataRead } :=
  State.run_live (fun s => s.portRead n 0x14 0) hlive

theorem dataReadPopsTheOldest : Claims.DataReadPopsTheOldest := by
  intro n s e es hlive hengine hrx
  simp [exec_spDataRead n hlive, SpPort.dataWord, SpPort.dataRead, hengine, hrx]

theorem emptyDataReadsZero : Claims.EmptyDataReadsZero := by
  intro n s hlive hrx
  have hword : (s.sp.port n).dataWord = 0 := by simp [SpPort.dataWord, hrx]
  refine ⟨_, exec_spDataRead n hlive, ?_, ?_, ?_⟩
  · rw [hword]
    rfl
  · simp [SpPort.dataRead, hrx]
  · simp [SpPort.dataRead]

theorem statReadShowsTheFlags : Claims.StatReadShowsTheFlags := by
  intro n cts s hlive
  change execSpStatRead n cts s = _
  rw [execSpStatRead, State.run_live _ hlive]
  simp only [State.portRead, SpSt.port_setPort, SpSt.setPort_setPort]
  rfl

/-! ## Reception (R440, R443, R449) -/

/-- A character of the settings in use completes. -/
theorem spReceive_of_char {n : Nat} {sam : List RxSample} {d : Dev} {p : SpPort} {e : RxEntry} (hon : p.on d = true) (hbreak : p.rxBreak = false)
    (hidle : p.exec = none) (hchar : charOf p.baud p.fmt p.ctrl sam = some e) :
    spReceive n false sam d p =
      spTake n d { p.boundary with lastTx := false, rxBreak := e.brk } (if e.brk then { e with data := 0 } else e) := by
  have hrelease : p.release d = p := by rw [SpPort.release, hidle]
  simp [spReceive, hrelease, hon, hbreak, hchar]

theorem spTake_of_full {n : Nat} {d : Dev} {p : SpPort} (e : RxEntry) (hengine : bit p.ctrl 10 = false) (hfull : 64 ≤ p.rx.length) :
    spTake n d p e = spFlags n (d, p.count 0 0 1 0) 4 := by
  simp [spTake, hengine, hfull]

/-- The engine takes nothing while it is off. -/
theorem svcDrain_of_off {d : Dev} {p : SpPort} (hengine : bit p.ctrl 10 = false) (k : Nat) : svcDrain k (d, p) = (d, p) := by
  cases k with
  | zero => rfl
  | succ k => simp [svcDrain, hengine]

@[simp] theorem SpPort.level_ctrl (p : SpPort) : p.level.ctrl = p.ctrl := by
  unfold SpPort.level
  split
  · rfl
  · split <;> rfl

theorem spTake_of_room {n : Nat} {d : Dev} {p : SpPort} {e : RxEntry} (hengine : bit p.ctrl 10 = false) (hroom : p.rx.length < 64)
    (hpe : e.pe = false) (hfe : e.fe = false) (hbrk : e.brk = false) :
    spTake n d p e = (if p.rx = [] then spMsi d p 0 else d, ({ p with rx := p.rx ++ [e] } : SpPort).level) := by
  simp [spTake, hengine, Nat.not_le_of_lt hroom, hpe, hfe, hbrk, b2n, svcDrain_of_off]

theorem characterIsReceived : Claims.CharacterIsReceived := by
  intro n sam s e hlive
  dsimp only
  intro hon hbreak hidle hengine hroom hchar hpe hfe hbrk
  change execCharacterReceive n false sam s = _
  refine State.run_onPort hlive ?_
  rw [spReceive_of_char hon hbreak hidle hchar, hbrk]
  exact spTake_of_room hengine hroom hpe hfe hbrk

theorem fullFifoDiscards : Claims.FullFifoDiscards := by
  intro n sam s e hlive
  dsimp only
  intro hon hbreak hidle hengine hfull hchar
  have hreceive := (spReceive_of_char (n := n) hon hbreak hidle hchar).trans (spTake_of_full _ hengine hfull.ge)
  obtain ⟨sec, hport⟩ := spFlags_port n (s.dev, ({ (s.sp.port n).boundary with lastTx := false, rxBreak := e.brk } : SpPort).count 0 0 1 0) 4
  generalize spFlags n _ 4 = x at hreceive hport
  obtain ⟨d', q⟩ := x
  refine ⟨_, State.run_onPort (f := fun _ => spReceive n false sam) hlive hreceive, ?_⟩
  simp only at hport
  simp only [SpSt.port_setPort, hport]
  refine ⟨rfl, ?_, rfl⟩
  simp [bit, w32]

theorem startBitIsAbandoned : Claims.StartBitIsAbandoned := by
  intro n sam s hlive
  dsimp only
  intro hon hbreak hstart
  change execStartBitAbandon n sam s = _
  exact State.run_onPort hlive (by simp [hon, hbreak, hstart, SpPort.boundary])

theorem breakLengthIsRecorded : Claims.BreakLengthIsRecorded := by
  intro n bits s hlive hon hbreak
  change execBreakEnd n bits s = _
  exact State.run_onPort hlive (by simp [hon, hbreak])

/-! ## Transmission (R448, R454, R455) -/

theorem characterIsSent : Claims.CharacterIsSent := by
  intro n l s v vs hlive
  dsimp only
  intro hon hhalt hcts hwire hout hqueue
  simp only [SpPort.on, ne_eq, decide_not, Bool.and_eq_true, Bool.not_eq_true', decide_eq_true_eq, decide_eq_false_iff_not] at hon
  obtain ⟨hdiv, hstate⟩ := hon
  refine ⟨fun hidle htx => ?_, fun hbreak => ?_⟩
  · change execCharacterTransmit n l s = _
    refine State.run_onPort hlive ?_
    simp [spTransmit, SpPort.on, hdiv, hstate, hhalt, hidle, mayStart, hcts, hwire, engineByte, hout, hqueue, htx, spDrive]
    rfl
  · change execCharacterTransmit n l s = _
    refine State.run_onPort hlive ?_
    simp [spTransmit, SpPort.on, hdiv, hstate, hhalt, hbreak]

theorem telemetryLineIsQueued : Claims.TelemetryLineIsQueued := by
  intro n s hlive
  dsimp only
  intro htelem hon hengine hdue hs0 hqueue
  change execTelemetryLine n s = _
  refine State.run_onPort hlive ?_
  simp [htelem, hon, hengine, hdue, hs0, SpPort.line, SpPort.post, hqueue, ascii]

/-! ## Frames that are too old (R457) -/

/-- With the engine idle and nothing received the engine takes nothing. -/
theorem svcDrain_of_empty {d : Dev} {p : SpPort} (hrx : p.rx = []) (k : Nat) : svcDrain k (d, p) = (d, p) := by
  cases k with
  | zero => rfl
  | succ k => simp [svcDrain, hrx]

/-- A lone SOF is no frame. -/
theorem svcCut_of_sof {d : Dev} {p : SpPort} (hidle : p.exec = none) (hframe : p.frame = [0x7E]) :
    svcCut (d, p) = (d, { p with frame := [], svcBad := satAdd p.svcBad 1 }) := by
  have hscan : svcScan true 2 [0x7E#8] = (1, .wait []) := by decide
  simp [svcCut, svcWork, hidle, hframe, hscan]

theorem staleFrameIsDiscarded : Claims.StaleFrameIsDiscarded := by
  intro n s hlive
  dsimp only
  intro hidle hframe hold hrx
  have hexec : exec (.serviceFrameTimeout n) s =
      .next { s with sp := s.sp.setPort n { s.sp.port n with frame := [], svcBad := satAdd (s.sp.port n).svcBad 1 } } := by
    change execServiceFrameTimeout n s = _
    refine State.run_onPort hlive ?_
    simp only [hidle, hframe, hold, Option.isNone_none, List.isEmpty_cons, Bool.not_false, decide_true, Bool.and_self, if_true,
      svcCut_of_sof hidle hframe]
    exact svcDrain_of_empty (p := { s.sp.port n with exec := none, frame := [], svcBad := satAdd (s.sp.port n).svcBad 1 }) hrx 65
  refine ⟨_, hexec, ?_⟩
  simp [hidle]

/-- Settles O50: each command of a port is the operation of that port on a running core, which the clause's conditions decide. -/
theorem servicePortCommandsComplete : Obligations.ServicePortCommandsComplete :=
  ⟨baudIsWritten, dataReadPopsTheOldest, emptyDataReadsZero, statReadShowsTheFlags, dataWriteQueues, breakIsAskedFor, flushEmptiesTheFifo,
    characterIsReceived, fullFifoDiscards, startBitIsAbandoned, breakLengthIsRecorded, characterIsSent, telemetryLineIsQueued, staleFrameIsDiscarded⟩

end Sys2Proof.Machine
end

section
/-! PROOF. The service protocol (R456 to R461, R504): the execution of a frame that a port holds, once, and from that the statement
ServiceProtocolCommandsComplete. -/

namespace Sys2Proof.Machine

/-! ## The frame that a port executes (R457, R458, R464) -/

theorem State.svcReady_iff {s : State} {n cmd : Nat} {fr : SvcFrame} :
    s.svcReady n cmd fr = true ↔ (s.sp.port n).exec = some fr ∧ fr.cmd = cmd ∧ fr.begun = false ∧ (s.sp.port n).on s.dev = true := by
  simp [State.svcReady, and_assoc]

section
variable {s s' : State} {n cmd : Nat} {fr : SvcFrame} {act : State → SvcFrame → SvcAnswer × State} (hready : s.svcReady n cmd fr = true)
include hready

/-- The flash interface serves the port: it is not idle (R285, R464). -/
theorem State.pstate_of_svcReady : ¬ 3 ≤ s.dev.pstate := by
  obtain ⟨-, -, -, hon⟩ := State.svcReady_iff.mp hready
  simp only [SpPort.on, Bool.and_eq_true, decide_eq_true_eq] at hon
  omega

/-- A frame whose execution ends at once is answered. -/
theorem State.svcRow_of_answer {st : Nat} {pay : List Byte} (hact : act s fr = (some (st, pay), s')) :
    s.svcRow n cmd act = s'.onPort n (svcAnswer fr st pay) := by
  obtain ⟨hexec, hcmd, hbegun, hon⟩ := State.svcReady_iff.mp hready
  simp only [State.svcRow, hexec]
  rw [if_pos ⟨hcmd, hbegun, hon⟩, hact]

/-- A frame whose execution goes on waits for its end. -/
theorem State.svcRow_of_wait (hact : act s fr = (none, s')) :
    s.svcRow n cmd act = s'.onPort n fun d p => (d, { p with exec := some { fr with begun := true } }) := by
  obtain ⟨hexec, hcmd, hbegun, hon⟩ := State.svcReady_iff.mp hready
  simp only [State.svcRow, hexec]
  rw [if_pos ⟨hcmd, hbegun, hon⟩, hact]

end

/-! ## READ32 and WRITE32 (R459) -/

theorem serviceReadAnswers : Claims.ServiceReadAnswers := by
  intro n m s fr hlive hready
  dsimp only
  intro haddr
  change execRead32 n m s = _
  rw [execRead32, State.run_live _ hlive]
  refine congrArg Host.Outcome.next (State.svcRow_of_answer hready ?_)
  simp only [haddr]

theorem serviceWriteAnswers : Claims.ServiceWriteAnswers := by
  intro n m s fr hlive hready
  dsimp only
  intro haddr
  change execWrite32 n m s = _
  rw [execWrite32, State.run_live _ hlive]
  refine congrArg Host.Outcome.next (State.svcRow_of_answer hready ?_)
  simp only [haddr]

theorem serviceAddressIsRefused : Claims.ServiceAddressIsRefused := by
  intro n m s fr c hlive haddr
  refine ⟨fun hready => ?_, fun hready => ?_⟩
  · change execRead32 n m s = _
    rw [execRead32, State.run_live _ hlive]
    refine congrArg Host.Outcome.next (State.svcRow_of_answer hready ?_)
    simp only [haddr]
  · change execWrite32 n m s = _
    rw [execWrite32, State.run_live _ hlive]
    refine congrArg Host.Outcome.next (State.svcRow_of_answer hready ?_)
    simp only [haddr]

/-! ## FLASH_READ and FLASH_PROGRAM (R460) -/

theorem serviceReadsFlash : Claims.ServiceReadsFlash := by
  intro n ev s fr bs d' hlive hready
  dsimp only
  intro hlen hpage hread
  change execFlashRead n ev s = _
  rw [execFlashRead, State.run_live _ hlive, if_neg (State.pstate_of_svcReady hready)]
  refine congrArg Host.Outcome.next (State.svcRow_of_answer hready ?_)
  simp only [if_neg hlen, hpage, hread]

theorem Dev.svcProgram_of_program {d : Dev} {pg : Nat} (slc eraseOk : Bool) (data : List Byte) (hprogram : d.svcRefusal 2 pg = none) :
    d.svcProgram pg slc false eraseOk true data = (0, d.programPage pg data slc) := by
  simp [Dev.svcProgram, hprogram]

theorem Dev.svcProgram_of_erase {d : Dev} {pg : Nat} (slc : Bool) (data : List Byte) (herase : d.svcRefusal 3 pg = none)
    (hprogram : d.svcRefusal 2 pg = none) :
    d.svcProgram pg slc true true true data = (0, (d.eraseBlock pg slc).programPage pg data slc) := by
  simp [Dev.svcProgram, herase, hprogram]

theorem serviceProgramsFlash : Claims.ServiceProgramsFlash := by
  intro n s fr hlive hready hlock
  have hrow : ∀ x y, exec (.flashProgram n x y) s = _ := fun x y => by
    change execFlashProgram n x y s = _
    rw [execFlashProgram, State.run_live _ hlive, if_neg (State.pstate_of_svcReady hready)]
  refine ⟨fun hmore x y => ?_, fun hfinal hkeep hprogram x => ?_, fun hfinal herase hblock hprogram => ?_⟩
  · refine (hrow x y).trans (congrArg Host.Outcome.next (State.svcRow_of_answer hready ?_))
    simp only [hlock, hmore, Bool.false_eq_true, if_false, Bool.not_false, if_true]
  · refine (hrow x true).trans (congrArg Host.Outcome.next (State.svcRow_of_answer hready ?_))
    simp only [hlock, hfinal, hkeep, Dev.svcProgram_of_program _ _ _ hprogram, Bool.false_eq_true, if_false, Bool.not_true, true_or, if_true]
  · refine (hrow true true).trans (congrArg Host.Outcome.next (State.svcRow_of_answer hready ?_))
    simp only [hlock, hfinal, herase, Dev.svcProgram_of_erase _ _ hblock hprogram, Bool.false_eq_true, if_false, Bool.not_true, true_or, if_true]

/-! ## TELEMETRY_NOW, BIST_RUN and RESET (R456, R461, R504) -/

theorem serviceShowsTelemetry : Claims.ServiceShowsTelemetry := by
  intro n s fr hlive hready
  change execTelemetryNow n s = _
  rw [execTelemetryNow, State.run_live _ hlive]
  exact congrArg Host.Outcome.next (State.svcRow_of_answer hready rfl)

/-- A selection that the engine accepts starts its run (R498). -/
theorem State.testRequest_of_ok {s : State} {sel : Nat} (port : Option Nat) (hsel : sel ≠ 0) (hok : s.dev.testOk (decide (sel % 8 ≠ 0)) = true) :
    s.testRequest sel port =
      (true, { s with dev := s.dev.testStart { busy := true, ran := s.dev.testSet sel, priv := none, port := port },
                      tap := { s.tap with refused := false, done := false, result := 0 } }) := by
  simp only [State.testRequest, hok, hsel, Bool.not_true, Bool.false_eq_true, if_false, decide_false]
  rfl

theorem serviceStartsATest : Claims.ServiceStartsATest := by
  intro n s fr hlive hready
  dsimp only
  intro hsel hok
  change execBistRun n s = _
  have hstart := State.testRequest_of_ok (some n.val) hsel hok
  rw [execBistRun, State.run_live _ hlive, State.svcRow_of_wait hready (by simp only [hstart, if_neg hsel]; rfl)]
  rfl

/-- RESET on a running core. -/
theorem exec_svcReset {n : Fin 2} {env : BootEnv} {s : State} {fr : SvcFrame} (hlive : s.live = true) (hexec : (s.sp.port n).exec = some fr)
    (hcmd : fr.cmd = 7) (hon : (s.sp.port n).on s.dev = true) :
    exec (.svcReset n env) s = .next
      (if !fr.begun then
        s.onPort n fun d p => (d, { p.respond 7 fr.seq 0 [] with exec := some { fr with begun := true }, svcCnt := satAdd p.svcCnt 1 })
      else if (s.sp.port n).quiet then s.svcApply n fr env else s) := by
  change execSvcReset n env s = _
  rw [execSvcReset, State.run_live _ hlive]
  simp only [hexec, hcmd, hon, and_self, if_true]

theorem serviceResets : Claims.ServiceResets := by
  intro n env s fr hlive
  dsimp only
  intro hexec hcmd hon
  rw [exec_svcReset hlive hexec hcmd hon, State.svcApply]
  refine ⟨fun hnew => ?_, fun hbegun hquiet hkind => ?_, fun hbegun hquiet hkind => ?_, fun hbegun hbusy => ?_⟩
  · rw [if_pos (by rw [hnew]; rfl)]
    rfl
  · rw [if_neg (by rw [hbegun]; decide), if_pos hquiet, if_pos hkind]
  · rw [if_neg (by rw [hbegun]; decide), if_pos hquiet, if_neg hkind]
  · rw [if_neg (by rw [hbegun]; decide), if_neg (by rw [hbusy]; decide)]

/-- Settles O51: each command is the execution of the frame that the port holds, with the response that its effect names. -/
theorem serviceProtocolCommandsComplete : Obligations.ServiceProtocolCommandsComplete :=
  ⟨serviceReadAnswers, serviceWriteAnswers, serviceAddressIsRefused, serviceReadsFlash, serviceProgramsFlash, serviceShowsTelemetry,
    serviceStartsATest, serviceResets⟩

end Sys2Proof.Machine
end

section
/-! PROOF. The entries of a boot table (R473, R475 to R477): the entry that is executed, once, and from that the statement BootEntriesComplete. -/

namespace Sys2Proof.Machine

/-! ## The entry that is executed -/

/-- A command of an entry's operation takes a step of it. -/
theorem State.run_bootRow {s : State} {op : Nat} {e : BootEntry} (act : State → BootEntry → State) (hlive : s.live = true)
    (hat : s.dev.bootAt op = some e) : (s.run fun s => s.bootRow op act) = .next (act s e) := by
  rw [State.run_live _ hlive, State.bootRow, hat]

/-! ## END (R476) -/

/-- RB_STAT after a boot whose table has run to its end. -/
theorem Dev.bootEnd_stat (d : Dev) : (d.bootEnd true).reg Reg.RB_STAT = d.reg Reg.RB_STAT &&& ~~~ w32 1 ||| w32 4 := by
  change (((d.clrReg Reg.RB_STAT 1).orReg Reg.RB_STAT 4).setReg Reg.RB_BOOT_MS _).reg Reg.RB_STAT = _
  rw [Dev.reg_setReg, if_neg (by decide), Dev.reg_orReg, if_pos rfl, Dev.reg_clrReg, if_pos rfl]

theorem endEntryEndsTheBoot : Claims.EndEntryEndsTheBoot := by
  intro s e hlive hat
  have hstat := s.dev.bootEnd_stat
  refine ⟨_, State.run_bootRow (fun s _ => s.onDev (·.bootEnd true)) hlive hat, ?_, ?_, ?_, rfl, rfl, rfl, rfl, rfl, rfl⟩
  · simp [State.onDev, Dev.booting, hstat, bit, w32]
  · simp [State.onDev, hstat, bit, w32]
  · simp [State.onDev, hstat, bit, w32]

/-! ## WRITE32, POLL32 and DELAY (Table 20-6) -/

theorem writeEntryWrites : Claims.WriteEntryWrites := by
  intro m s e hlive hat halign hboot
  refine (State.run_bootRow (fun s e => s.bootStore m [(e.a, w32 e.b)]) hlive hat).trans ?_
  simp [State.bootStore, State.bootWrites, State.bootWrite, hboot, halign]

/-- POLL32 on a running core. -/
theorem exec_bootPoll32 {m : RegEnv} {s s1 : State} {e : BootEntry} {v : Word} (hlive : s.live = true) (hat : s.dev.bootAt 2 = some e)
    (halign : e.a % 4 = 0) (hread : s.read32 0 true e.a m = (v, s1)) :
    exec (.bootPoll32 m) s = .next (s1.onDev fun d =>
      if v &&& w32 e.b = w32 e.c then d.bootDone
      else if s.dev.boot.waitNs.getD s.dev.nowNs + e.tmo * 1000000 ≤ d.nowNs then d.bootFail 0xB003
      else { d with boot := { d.boot with waitNs := some (s.dev.boot.waitNs.getD s.dev.nowNs) } }) := by
  have hbytes : s.bootRead e.a m = (v, s1) := by rw [State.bootRead, if_pos halign, hread]
  change execBootPoll32 m s = _
  rw [execBootPoll32, State.run_bootRow _ hlive hat, hbytes]

theorem pollEntryWaits : Claims.PollEntryWaits := by
  intro m s e v s1 hlive hat halign hread
  rw [exec_bootPoll32 hlive hat halign hread, State.onDev]
  refine ⟨fun hmet => ?_, fun hnot hlate => ?_, fun hnot hearly => ?_⟩
  · rw [if_pos hmet, State.onDev]
  · rw [if_neg hnot, if_pos hlate, State.onDev]
  · rw [if_neg hnot, if_neg (Nat.not_le_of_lt hearly), State.onDev]

/-- DELAY on a running core. -/
theorem exec_bootDelay {s : State} {e : BootEntry} (hlive : s.live = true) (hat : s.dev.bootAt 3 = some e) :
    exec .bootDelay s = .next (s.onDev fun d =>
      if d.boot.waitNs.getD d.nowNs + e.a * 1000 ≤ d.nowNs then d.bootDone
      else { d with boot := { d.boot with waitNs := some (d.boot.waitNs.getD d.nowNs) } }) := by
  change execBootDelay s = _
  rw [execBootDelay, State.run_bootRow _ hlive hat]

theorem delayEntryWaits : Claims.DelayEntryWaits := by
  intro s e hlive hat
  rw [exec_bootDelay hlive hat, State.onDev]
  refine ⟨fun b hbegun hover => ?_, fun b hbegun hearly => ?_, fun hnew hlong => ?_⟩
  · rw [hbegun, Option.getD_some, if_pos hover, State.onDev]
  · rw [hbegun, Option.getD_some, if_neg (Nat.not_le_of_lt hearly), ← hbegun]
  · rw [hnew, Option.getD_none, if_neg (by omega), State.onDev]

/-! ## LOAD (R477) -/

theorem exec_bootLoad {evs : List PageEv} {s : State} {e : BootEntry} (hlive : s.live = true) (hat : s.dev.bootAt 4 = some e) :
    exec (.bootLoad evs) s = .next (s.onDev (·.bootLoad e evs)) :=
  State.run_bootRow (fun s e => s.onDev (·.bootLoad e evs)) hlive hat

/-- An image is judged by what R411 finds of it, and by LOCK. -/
theorem Dev.loadCheck_eq (d : Dev) (e : BootEntry) :
    d.loadCheck e =
      if e.b * 16384 < 256 + leNat (d.dramBytes (e.c * 64 + 0xC) 4) then d.bootFail 0xB003
      else match d.imageFault (d.dramBytes (e.c * 64) (256 + leNat (d.dramBytes (e.c * 64 + 0xC) 4))) with
        | none => d.bootDone
        | some c => if d.sec.lockUse = true then (d.logC c nodeSec).bootFail 0xB003 else (d.logC 0x800B nodeSec).bootDone := by
  unfold Dev.loadCheck Dev.judgeImage
  dsimp only
  split
  · rfl
  · cases d.imageFault (d.dramBytes (e.c * 64) (256 + leNat (d.dramBytes (e.c * 64 + 0xC) 4))) with
    | none => rfl
    | some c => cases d.sec.lockUse <;> rfl

theorem loadEntryLoads : Claims.LoadEntryLoads := by
  intro evs s e d' hlive hat hb hflash hdram hrange hunits
  have hload : s.dev.bootLoad e evs = d'.loadCheck e := by
    unfold Dev.bootLoad
    rw [if_neg hb, if_neg (by rw [hflash]; decide), if_neg (by rw [hdram]; decide), if_neg (by rw [hrange]; decide), hunits]
  rw [exec_bootLoad hlive hat, State.onDev, hload]
  exact congrArg (fun d1 => Host.Outcome.next { s with dev := d1 }) (d'.loadCheck_eq e)

theorem loadEntryFails : Claims.LoadEntryFails := by
  intro evs s e hlive hat
  rw [exec_bootLoad hlive hat, State.onDev, Dev.bootLoad]
  refine ⟨fun hnone => ?_, fun hsome hflash => ?_⟩
  · rw [if_pos hnone, State.onDev]
  · rw [if_neg hsome, if_pos (by rw [hflash]; decide), State.onDev]

/-! ## COPY and VALIDATE (Table 20-6) -/

theorem copyWords_of_one {e : BootEntry} (bs : List Byte) (hone : e.c = 1) :
    copyWords e bs =
      if e.flags.testBit 0 then (List.range 64).map (fun t => (0x1000000 + t * 0x40000 + e.b, w32 (leAt bs 0 4)))
      else [(e.b, w32 (leAt bs 0 4))] := by
  simp [copyWords, hone, ← List.map_eq_flatMap]

theorem copyEntryCopies : Claims.CopyEntryCopies := by
  intro dr m s e d' hlive hat hc hdram hrange hread
  refine ⟨?_, fun bs hone hplain => ?_, fun bs hone hall => ?_⟩
  · change execBootCopy dr m s = _
    rw [execBootCopy, State.run_bootRow _ hlive hat]
    simp only [if_neg hc, hdram, hrange, hread, Bool.not_true, Bool.false_eq_true, if_false]
  · rw [copyWords_of_one bs hone, if_neg (by rw [hplain]; decide)]
  · rw [copyWords_of_one bs hone, if_pos hall]

theorem validateEntryValidates : Claims.ValidateEntryValidates := by
  intro s e hlive hat hidle
  change execBootValidate s = _
  rw [execBootValidate, State.run_bootRow _ hlive hat, State.onDev, State.onDev, Dev.validateAll, if_pos hidle]
  by_cases hb : e.b = 0
  · rw [if_pos hb, hb]
    rfl
  · rw [if_neg hb]

/-! ## The end of a boot and the order of its entries (R476) -/

theorem longBootTimesOut : Claims.LongBootTimesOut := by
  intro s hlive hboot
  have hexec : exec .bootTimeout s = .next (s.onDev fun d =>
      if d.booting && decide (d.boot.startNs + max (d.regN Reg.RB_BOOT_TO) 10 * 1000000 ≤ d.nowNs) then d.bootFail 0xB005 else d) := by
    change execBootTimeout s = _
    exact State.runDev_live _ hlive
  rw [hexec, State.onDev]
  refine ⟨fun hlate => ?_, fun hearly => ?_⟩
  · rw [if_pos (by simp [hboot, hlate]), State.onDev]
  · rw [if_neg (by simp [hearly])]

theorem entriesFollowInOrder : Claims.EntriesFollowInOrder := by
  intro d hrun
  have hdone : d.bootDone = ({ d with boot := { d.boot with next := d.boot.next + 1, waitNs := none } } : Dev).bootNext
      (d.boot.entries.drop (d.boot.next + 1)) := by
    rw [Dev.bootDone, if_neg (by rw [hrun]; decide)]
  refine ⟨fun x hx hcold hok => ?_, fun hlast => ?_⟩
  · obtain ⟨hlt, hget⟩ := List.getElem?_eq_some_iff.mp hx
    rw [hdone, List.drop_eq_getElem_cons hlt, hget, Dev.bootNext]
    rcases hcold with hcold | hcold <;> simp [hcold, hok]
  · rw [hdone, List.drop_of_length_le hlast.le, Dev.bootNext]

/-- Settles O55: each command is the step of the entry that is executed, with what follows it. -/
theorem bootEntriesComplete : Obligations.BootEntriesComplete :=
  ⟨endEntryEndsTheBoot, writeEntryWrites, pollEntryWaits, delayEntryWaits, loadEntryLoads, loadEntryFails, copyEntryCopies,
    validateEntryValidates, longBootTimesOut, entriesFollowInOrder⟩

end Sys2Proof.Machine
end

section
/-! PROOF. The field tests (R489 to R491, R497 to R505): a scan that leaves the core running, the requests of tests and the result of a run, and from that
the statement FieldTestCommandsComplete. -/

namespace Sys2Proof.Machine

/-! ## Scans (R489, R490) -/

/-- The state after an instruction and a capture have been scanned in a port that does not hold the core. -/
def State.scanned (s : State) (code cap : Nat) : State :=
  { s with tap := { s.tap with
      ir := code, irCap := BitVec.ofNat 8 (1 + 4 * b2n s.dev.sec.dbgUse + 8 * b2n s.dev.test.busy), drLen := drLength code s.dev.sec.dbgUse,
      held := holdCode code, hiz := decide (code = 4), acTest := if code = 5 then 1 else if code = 6 then 2 else 0, drCap := cap } }

theorem State.captureDr_loadIr {s : State} (code cap : Nat) (env : BootEnv) (hfree : s.tap.held = false) :
    (s.loadIr code env).captureDr cap = s.scanned code cap := by
  rw [State.loadIr, hfree]
  rfl

theorem State.live_iff {s : State} : s.live = true ↔ s.th.tripped = false ∧ s.tap.held = false := by simp [State.live]

/-- A scan of an instruction that does not hold the core lets it run. -/
theorem State.live_scanned {s : State} {code : Nat} (cap : Nat) (hcode : holdCode code = false) (hlive : s.live = true) :
    (s.scanned code cap).live = true :=
  State.live_iff.mpr ⟨(State.live_iff.mp hlive).1, hcode⟩

theorem State.loadIr_dev {s : State} (code : Nat) (env : BootEnv) (hfree : s.tap.held = false) : (s.loadIr code env).dev = s.dev := by
  rw [State.loadIr, hfree]
  rfl

/-! ## FIELD_TEST (R497, R498, R503) -/

theorem exec_fieldTest {v : BitVec 40} {env : BootEnv} {s : State} (hfree : s.tap.held = false) :
    exec (.fieldTest v env) s = .next
      (if bit v 39 && decide (fld v 16 23 = 0) && (s.scanned 0x10 s.testWord).live then
        ((s.scanned 0x10 s.testWord).testRequest (fld v 0 8) none).2
      else s.scanned 0x10 s.testWord) := by
  have hword : (s.loadIr 0x10 env).testWord = s.testWord := by
    rw [State.loadIr, hfree]
    rfl
  change execFieldTest v env s = _
  rw [execFieldTest, hword, State.captureDr_loadIr _ _ _ hfree]

theorem State.testRequest_of_refusal {s : State} {sel : Nat} (port : Option Nat) (hrefused : s.dev.testOk (decide (sel % 8 ≠ 0)) = false) :
    s.testRequest sel port = (false, { s with tap := { s.tap with refused := true } }) := by
  rw [State.testRequest, if_pos (by rw [hrefused]; rfl)]

theorem fieldTestStartsARun : Claims.FieldTestStartsARun := by
  intro v env s hlive hgo hclear hsel
  have hexec : exec (.fieldTest v env) s = .next ((s.scanned 0x10 s.testWord).testRequest (fld v 0 8) none).2 := by
    rw [exec_fieldTest (State.live_iff.mp hlive).2, if_pos]
    rw [hgo, hclear, State.live_scanned _ (by decide) hlive]
    rfl
  refine ⟨fun hok => ?_, fun hrefused => ?_⟩
  · rw [hexec, State.testRequest_of_ok (s := s.scanned 0x10 s.testWord) none hsel hok]
    exact ⟨_, rfl, rfl, rfl, rfl, rfl, rfl, rfl, rfl⟩
  · rw [hexec, State.testRequest_of_refusal (s := s.scanned 0x10 s.testWord) none hrefused]
    exact ⟨_, rfl, rfl, rfl, rfl, rfl⟩

theorem fieldTestShowsTheResult : Claims.FieldTestShowsTheResult := by
  intro v env s hfree hgo
  rw [exec_fieldTest hfree, if_neg (by rw [hgo]; exact Bool.false_ne_true)]
  exact ⟨_, rfl, rfl, rfl, rfl, rfl, rfl, rfl⟩

/-! ## MBIST, LBIST and SERDES_LB (R491, R505) -/

/-- The request of a unit's test that the engine accepts. -/
theorem State.privRequest_of_ok {s : State} {code unit ms : Nat} (hunit : privUnit code unit = true) (hok : s.dev.testOk (decide (code ≠ 0x42)) = true)
    (hruns : s.dev.privRuns code unit = true) (hms : code ≠ 0x42 ∨ ms ≠ 0) :
    s.privRequest code unit ms = { s with
      dev := s.dev.testStart
        { busy := true, ran := if code = 0x40 then 1 else if code = 0x41 then 4 else 16, priv := some (code, unit, ms), port := none }
      tap := { s.tap with refused := false, done := false, result := 0, diag := BitVec.ofNat 64 (unit * 65536) } } := by
  have hlasts : (decide (code = 0x42) && decide (ms = 0)) = false := by
    rcases hms with h | h <;> simp [h]
  rw [State.privRequest, if_neg (by rw [hunit]; decide), if_neg (by rw [hok]; decide)]
  dsimp only
  rw [if_neg (by rw [hruns, hlasts]; decide)]
  rfl

theorem State.privScan_of_go {s : State} {code : Nat} {v : BitVec 64} (env : BootEnv) (hcode : holdCode code = false) (hlive : s.live = true)
    (hdebug : s.dev.sec.dbgUse = false) (hgo : bit v 0 = true) :
    s.privScan code v env = (s.scanned code s.tap.diag.toNat).privRequest code (fld v 8 8) (fld v 16 8) := by
  have hfree := (State.live_iff.mp hlive).2
  have hdiag : (s.loadIr code env).tap.diag = s.tap.diag := by
    rw [State.loadIr, hfree]
    rfl
  rw [State.privScan, if_neg (by rw [State.loadIr_dev _ _ hfree, hdebug]; decide), hdiag, State.captureDr_loadIr _ _ _ hfree]
  dsimp only
  rw [if_pos (by rw [hgo, State.live_scanned _ hcode hlive]; rfl)]

theorem privateTestsStart : Claims.PrivateTestsStart := by
  intro v env s c code ran hc hlive hdebug hgo hunit hok hruns hms
  have hcommand : exec c s = .next (s.privScan code v env) ∧ holdCode code = false ∧
      ran = if code = 0x40 then 1 else if code = 0x41 then 4 else 16 := by
    simp only [List.mem_cons, List.not_mem_nil, or_false, Prod.mk.injEq] at hc
    rcases hc with ⟨rfl, rfl, rfl⟩ | ⟨rfl, rfl, rfl⟩ | ⟨rfl, rfl, rfl⟩ <;> exact ⟨rfl, rfl, rfl⟩
  obtain ⟨hexec, hcode, rfl⟩ := hcommand
  rw [hexec, State.privScan_of_go env hcode hlive hdebug hgo,
    State.privRequest_of_ok (s := s.scanned code s.tap.diag.toNat) hunit hok hruns hms]
  exact ⟨_, rfl, rfl, rfl, rfl, rfl, rfl, rfl⟩

theorem State.privScan_of_debugDis {s : State} {code : Nat} {v : BitVec 64} (env : BootEnv) (hfree : s.tap.held = false)
    (hdebug : s.dev.sec.dbgUse = true) : s.privScan code v env = s.scanned code 0 := by
  rw [State.privScan, if_pos (by rw [State.loadIr_dev _ _ hfree, hdebug]), State.captureDr_loadIr _ _ _ hfree]

theorem debugDisHidesPrivateTests : Claims.DebugDisHidesPrivateTests := by
  intro v env s c hc hdebug hfree
  have hcommand : ∃ code, exec c s = .next (s.privScan code v env) ∧ drLength code true = 1 := by
    simp only [List.mem_cons, List.not_mem_nil, or_false] at hc
    rcases hc with rfl | rfl | rfl <;> exact ⟨_, rfl, rfl⟩
  obtain ⟨code, hexec, hlen⟩ := hcommand
  rw [hexec, State.privScan_of_debugDis env hfree hdebug]
  refine ⟨_, rfl, rfl, rfl, rfl, ?_, rfl⟩
  rw [← hlen, ← hdebug]
  rfl

/-! ## RESULT (R499, Table 22-5) -/

/-- The first of the set bits below `n` is set, and none below it is. -/
theorem bitsOf_head {x n t : Nat} {ts : List Nat} (h : bitsOf x n = t :: ts) : t < n ∧ x.testBit t = true ∧ ∀ i < t, x.testBit i = false := by
  have hmem : ∀ i, i ∈ t :: ts ↔ i < n ∧ x.testBit i = true := fun i => by rw [← h, bitsOf, List.mem_filter, List.mem_range]
  have hsorted : (t :: ts).Pairwise (· < ·) := h ▸ List.pairwise_lt_range.filter _
  obtain ⟨htn, htx⟩ := (hmem t).mp (List.mem_cons_self ..)
  refine ⟨htn, htx, fun i hi => ?_⟩
  by_contra hset
  rcases List.mem_cons.mp ((hmem i).mpr ⟨hi.trans htn, by simpa using hset⟩) with rfl | hmore
  · exact lt_irrefl i hi
  · exact lt_asymm hi (List.rel_of_pairwise_cons hsorted hmore)

theorem bitsOf_zero (n : Nat) : bitsOf 0 n = [] := by simp [bitsOf]

theorem bitsOf_ne_nil {x n : Nat} (hx : x ≠ 0) (hn : x < 2 ^ n) : bitsOf x n ≠ [] := by
  intro h
  refine hx (Nat.eq_of_testBit_eq fun i => ?_)
  rw [Nat.zero_testBit]
  by_cases hi : i < n
  · simpa using List.filter_eq_nil_iff.mp h i (List.mem_range.mpr hi)
  · exact Nat.testBit_lt_two_pow (hn.trans_le (Nat.pow_le_pow_right (by decide) (Nat.le_of_not_lt hi)))

theorem resultParts : Claims.ResultParts := by
  intro ran fails unit hran hunit
  refine ⟨fun hpass => ?_, fun hfail => ?_⟩
  · rw [resultOf, hpass, bitsOf_zero]
  · have hfew : ran &&& fails < 256 := Nat.and_le_left.trans_lt hran
    obtain ⟨t, ts, hbits⟩ := List.exists_cons_of_ne_nil (bitsOf_ne_nil hfail (n := 8) hfew)
    have hresult : resultOf ran fails unit = ran + (ran &&& fails) * 256 + unit * 65536 + t * 16777216 := by simp only [resultOf, hbits]
    have htop : resultOf ran fails unit / 16777216 = t := by omega
    obtain ⟨-, hset, hlow⟩ := bitsOf_head hbits
    exact ⟨by omega, by omega, by omega, by rwa [htop], by rwa [htop]⟩

/-! ## TEST_RUN_END (R499, R500) -/

theorem Dev.promote_of_none {d : Dev} (h : d.pwr.heldReq = none) : d.promote = d := by rw [Dev.promote, h]

@[simp] theorem Dev.testScrub_pwr (d : Dev) : d.testScrub.pwr = d.pwr := rfl

theorem runEndShowsTheResult : Claims.RunEndShowsTheResult := by
  intro fails unit diag s hlive hbusy hpriv hport hsensors hran hheld w hw
  have hfew : (s.dev.test.ran &&& fails.toNat % 128) % 128 = s.dev.test.ran &&& fails.toNat % 128 :=
    Nat.mod_eq_of_lt (Nat.and_le_right.trans_lt (Nat.mod_lt _ (by decide)))
  have hunit : unit.toNat % 256 = unit.toNat := Nat.mod_eq_of_lt unit.isLt
  have hend : s.runEnd fails.toNat unit.toNat = { s with
      dev := { (if s.dev.test.ran % 8 = 0 then s.dev else s.dev.testScrub) with test := TestSt.idle },
      tap := { s.tap with done := true, result := w32 w } } := by
    simp only [State.runEnd, hsensors, hport, hw, hfew, hunit, Bool.false_eq_true, if_false, Option.isSome_none, b2n, Nat.mul_zero,
      Nat.add_zero, Option.getD_none]
    rfl
  change execTestRunEnd fails unit diag s = _
  rw [execTestRunEnd, State.run_live _ hlive, if_neg (by rw [hbusy]; decide)]
  simp only [hpriv, hend, State.onDev]
  rw [Dev.promote_of_none]
  dsimp only
  split
  · exact hheld
  · exact (congrArg PwrSt.heldReq s.dev.testScrub_pwr).trans hheld

/-- Settles O59: a scan captures and lets the core run, a request that is accepted starts its run, and its end shows RESULT. -/
theorem fieldTestCommandsComplete : Obligations.FieldTestCommandsComplete :=
  ⟨fieldTestStartsARun, fieldTestShowsTheResult, privateTestsStart, debugDisHidesPrivateTests, runEndShowsTheResult, resultParts⟩

end Sys2Proof.Machine
end

section
/-! PROOF. The tick (R47 to R52, R75, R76): when a due edge is made, what a request does by its time since the previous edge, what a write of the
period does, and what the end of a table does. From that the statement TickRequestsAndEdgesComplete. -/

namespace Sys2Proof.Machine

/-! ## Whether a due edge is made (R75, R76, R330, R352, R366) -/

/-- The part makes edges of its own: it waits in no power state and on no request for one, and it is no tick master. -/
def Dev.edgeOpen (d : Dev) : Prop :=
  d.pwr.heldReq = none ∧ d.entering = false ∧ d.exiting = false ∧ d.pstate = 0 ∧ d.tickOn = true ∧ d.isMaster = false

theorem Dev.edgeFree_iff (d : Dev) :
    d.edgeFree = true ↔ d.edgeOpen ∧ d.tableRunning = false ∧ d.pwr.req = none ∧ d.edgeWaits = none := by
  simp only [Dev.edgeFree, Dev.edgeOpen, Bool.and_eq_true, Bool.not_eq_true', decide_eq_true_eq, Option.isNone_iff_eq_none]
  tauto

/-- A due edge of such a part is made where the table has ended or the policy is ABORT, once what still runs is halted and neither a power state nor
a voltage holds it back. -/
theorem State.edge_eq_makeEdge {s : State} {env : EdgeEnv} (hopen : s.dev.edgeOpen) (hslip : s.dev.tableRunning = true → s.dev.tick.abort = true)
    (hreq : s.dev.haltAtEdge.pwr.req = none) (hwaits : s.dev.haltAtEdge.edgeWaits = none) :
    s.edge env = (s.onDev Dev.haltAtEdge).makeEdge env := by
  obtain ⟨hheld, hentering, hexiting, hpower, hon, hmaster⟩ := hopen
  have hpromote : s.onDev Dev.promote = s := by rw [State.onDev, Dev.promote_of_none hheld]
  have hruns : (s.dev.tableRunning && !s.dev.tick.abort) = false := by
    cases hrun : s.dev.tableRunning
    · rfl
    · rw [hslip hrun]; rfl
  simp only [State.edge, hpromote, hentering, hexiting, hpower, hon, hruns, hmaster, hreq, hwaits, Bool.false_or, Bool.not_true, Bool.false_and,
    Bool.false_eq_true, if_false, show ¬ 1 ≤ 0 by decide, decide_false]
  rfl

theorem Dev.haltAtEdge_of_ended {d : Dev} (h : d.tableRunning = false) : d.haltAtEdge = d := by simp [Dev.haltAtEdge, h]

theorem Dev.haltAtEdge_of_running {d : Dev} (h : d.tableRunning = true) : d.haltAtEdge = d.abortTable := by simp [Dev.haltAtEdge, h]

theorem freeEdgeIsMade : Claims.FreeEdgeIsMade := by
  intro env s hfree
  obtain ⟨hopen, hended, hreq, hwaits⟩ := s.dev.edgeFree_iff.mp hfree
  have hhalt := Dev.haltAtEdge_of_ended hended
  rw [State.edge_eq_makeEdge hopen (by simp [hended]) (by rwa [hhalt]) (by rwa [hhalt]), State.onDev, hhalt]

theorem dueEdgeIsMade : Claims.DueEdgeIsMade := by
  intro env s hl hdue hfree
  change execTickEdge env s = _
  rw [execTickEdge, State.run_live _ hl, if_pos hdue, freeEdgeIsMade env s hfree]

theorem heldRequestMakesItsEdge : Claims.HeldRequestMakesItsEdge := by
  intro env s hl hfree hheld hslip htime
  have hdue : (s.dev.tick.held && s.dev.tick.slipDue.isNone && decide (s.dev.perNs * 17 ≤ s.dev.sinceEdge * 20)) = true := by
    simp [hheld, hslip, htime]
  change execHeldRequestDue env s = _
  rw [execHeldRequestDue, State.run_live _ hl, if_pos hdue, freeEdgeIsMade env s hfree]

theorem overrunAbortsTheTable : Claims.OverrunAbortsTheTable := by
  intro env s hl hdue hruns habort hheld hentering hexiting hpower hon hreq hwaits hmaster
  have hhalt := Dev.haltAtEdge_of_running hruns
  have hgo : (s.dev.edgeDue && s.dev.tableRunning && s.dev.tick.abort) = true := by simp [hdue, hruns, habort]
  have hopen : s.dev.edgeOpen := ⟨hheld, hentering, hexiting, hpower, hon, hmaster⟩
  change execOverrunAbort env s = _
  rw [execOverrunAbort, State.run_live _ hl, if_pos hgo,
    State.edge_eq_makeEdge hopen (fun _ => habort) (by rwa [hhalt]) (by rwa [hhalt]), State.onDev, hhalt]
  rfl

/-! ## The end of a table (R75, R371) -/

theorem Dev.once_of_mem {d : Dev} {key : Nat × Nat} (h : key ∈ d.tick.onced) : d.once key = (false, d) :=
  if_pos (List.contains_iff_mem.mpr h)

theorem Dev.once_of_notMem {d : Dev} {key : Nat × Nat} (h : key ∉ d.tick.onced) :
    d.once key = (true, { d with tick := { d.tick with onced := d.tick.onced ++ [key] } }) :=
  if_neg (mt List.contains_iff_mem.mp h)

theorem tableFinishMakesTheHeldEdge : Claims.TableFinishMakesTheHeldEdge := by
  intro env s hl hended hstarted hagain hslip hfree
  change execTableFinish env s = _
  rw [execTableFinish, State.run_live _ hl]
  simp only [hended, hstarted, Dev.once_of_mem hagain, hslip, freeEdgeIsMade env s hfree, Bool.not_true, Bool.or_self, Bool.false_eq_true, if_false,
    if_true]

theorem tableFinishGatesTheClocks : Claims.TableFinishGatesTheClocks := by
  intro env s hl hended hstarted hfirst hslip hsource
  change execTableFinish env s = _
  rw [Dev.source] at hsource
  rw [execTableFinish, State.run_live _ hl]
  simp only [State.onDev, hended, hstarted, Dev.once_of_notMem hfirst, Dev.source, hsource, hslip, decide_false, Option.isSome_none, Bool.not_true,
    Bool.or_self, Bool.false_and, Bool.false_eq_true, if_false, if_true]

/-! ## Requests (R47, R50) -/

theorem droppedRequestIsCounted : Claims.DroppedRequestIsCounted := by
  intro d
  refine ⟨?_, fun o ho => ?_, rfl⟩
  · rw [Dev.dropReq, Dev.reg_incReg, if_pos rfl]
  · rw [Dev.dropReq, Dev.reg_incReg, if_neg ho]

/-- A request that the tick unit takes is dropped before 0.5 P, held before 0.85 P, and makes the edge from then on. -/
theorem State.request_taken {s : State} {src : Nat} (env : EdgeEnv) (htakes : s.dev.takesRequests src = true) (hstarted : s.dev.tick.started = true) :
    s.request src env =
      if s.dev.sinceEdge * 2 < s.dev.perNs then s.onDev Dev.dropReq
      else if s.dev.sinceEdge * 20 < s.dev.perNs * 17 then
        s.onDev fun d => { d with tick := { d.tick with fallback := false, srcLost := false, held := true } }
      else (s.onDev Dev.acceptReq).edge env := by
  simp only [Dev.takesRequests, Bool.and_eq_true, decide_eq_true_eq, Bool.not_eq_true', Option.isNone_iff_eq_none] at htakes
  obtain ⟨⟨⟨⟨⟨⟨⟨⟨⟨hsource, hperiod⟩, hboot⟩, hrelay⟩, hasleep⟩, hpower⟩, hexit⟩, hheld⟩, hslip⟩, hdue⟩ := htakes
  have hgate : ¬ (s.dev.source ≠ src ∨ s.dev.tick.periodUse = 0 ∨ s.dev.booting = true ∨ s.dev.relay = true) := by
    simp [hsource, hperiod, hboot, hrelay]
  have hpend : (s.dev.tick.held || s.dev.tick.slipDue.isSome || s.dev.lk.due.isSome) = false := by simp [hheld, hslip, hdue]
  rw [State.request, if_neg hgate]
  simp only [hasleep, hpower, hexit, hpend, hstarted, Bool.not_true, Bool.false_or, Bool.false_eq_true, if_false, decide_eq_true_eq,
    show ¬ 1 ≤ 0 by decide]
  by_cases hlate : s.dev.perNs * 17 ≤ s.dev.sinceEdge * 20
  · rw [if_pos hlate, if_neg (by omega), if_neg (by omega)]
  · rw [if_neg hlate, if_pos (Nat.lt_of_not_le hlate)]
    rfl

theorem tickInRequestByTime : Claims.TickInRequestByTime := by
  intro env s hl s'
  have hball : exec (.tickInRequest env) s = .next (if bit s.dev.tick.ctrlUse 4 = s.dev.pins.tickIn then s'.request 1 env else s') := by
    change execTickInRequest env s = _
    rw [execTickInRequest, State.run_live _ hl]
    rfl
  refine ⟨fun hother => ?_, fun hedge htakes hstarted => ?_⟩
  · rw [hball, if_neg hother]
  · rw [hball, if_pos hedge, State.request_taken env htakes hstarted]
    rfl

theorem kickByTime : Claims.KickByTime := by
  intro v env s hl htakes hstarted
  have hkick : exec (.tkKick v env) s = .next (if bit v 0 then s.request 2 env else s) := State.run_live _ hl
  rw [hkick, bit, State.request_taken env htakes hstarted]
  cases v.getLsbD 0 <;> rfl

/-! ## The loss of the source (R51) -/

theorem sourceLossFallsBack : Claims.SourceLossFallsBack := by
  intro env s hl hsource hon hpower hentering hfallback hheld hslip hboot htime hfirst
  have hlost : s.dev.source = 1 ∧ s.dev.tickOn = true ∧ s.dev.pstate = 0 ∧ s.dev.entering = false ∧ s.dev.tick.fallback = false ∧
      s.dev.tick.held = false ∧ s.dev.tick.slipDue.isNone = true ∧ s.dev.booting = false ∧
      s.dev.perNs * 3 ≤ (s.dev.nowNs - s.dev.tick.timerNs) * 2 :=
    ⟨hsource, hon, hpower, hentering, hfallback, hheld, by rw [hslip]; rfl, hboot, htime⟩
  change execTickSrcLost env s = _
  rw [execTickSrcLost, State.run_live _ hl, if_pos hlost, hfirst]
  rfl

/-! ## The period (R48, R49, R52) -/

/-- A period and a fraction in range are used as they are written. -/
theorem periodIn_of_inRange {p q : Nat} (hp : p = 0 ∨ (250 ≤ p ∧ p ≤ 40000)) (hq : 50 ≤ q ∧ q ≤ 98) : periodIn (w32 (p + q * 65536)) = (p, q, 0) := by
  have hperiod : fld (w32 (p + q * 65536)) 0 16 = p := by simp only [fld, fldN, w32, BitVec.toNat_ofNat]; omega
  have hpct : fld (w32 (p + q * 65536)) 16 7 = q := by simp only [fld, fldN, w32, BitVec.toNat_ofNat]; omega
  have hp' : (if p = 0 then 0 else clampN 250 40000 p) = p := by unfold clampN; split_ifs <;> omega
  have hq' : clampN 50 98 q = q := by unfold clampN; split_ifs <;> omega
  simp [periodIn, hperiod, hpct, hp', hq', b2n]

/-- Whether a chip follows a tick master does not hang on its own period. -/
theorem Dev.setPeriod_follows (d : Dev) (v : Word) :
    ((d.setReg Reg.TK_PERIOD v).fromMaster (d.setReg Reg.TK_PERIOD v).source && !(d.setReg Reg.TK_PERIOD v).isMaster) =
      (d.fromMaster d.source && !d.isMaster) := by
  have hmaster : (d.setReg Reg.TK_PERIOD v).isMaster = d.isMaster := by
    rw [Dev.isMaster, Dev.reg_setReg, if_neg (by decide), Dev.isMaster]
  rw [Dev.fromMaster, hmaster]
  rfl

/-- A chip that follows a tick master stores a value in range. -/
theorem Dev.periodWrite_following {d : Dev} {p q : Nat} (hp : p = 0 ∨ (250 ≤ p ∧ p ≤ 40000)) (hq : 50 ≤ q ∧ q ≤ 98)
    (hfollows : (d.fromMaster d.source && !d.isMaster) = true) :
    d.periodWrite (w32 (p + q * 65536)) = d.setReg Reg.TK_PERIOD (w32 (p + q * 65536)) := by
  simp only [Dev.periodWrite, periodIn_of_inRange hp hq, List.range_zero, List.foldl_nil, Dev.setPeriod_follows, hfollows, if_true]

/-- On a chip that uses its own period it stops the tick, waits for the edge, or starts the tick again. -/
theorem Dev.periodWrite_own {d : Dev} {p q : Nat} (hp : p = 0 ∨ (250 ≤ p ∧ p ≤ 40000)) (hq : 50 ≤ q ∧ q ≤ 98)
    (hown : (d.fromMaster d.source && !d.isMaster) = false) :
    d.periodWrite (w32 (p + q * 65536)) =
      (let d' := d.setReg Reg.TK_PERIOD (w32 (p + q * 65536))
       if p = 0 then
         { d'.cancelNext with
           tick := { d'.cancelNext.tick with periodUse := 0, held := false, slipDue := none }, lk := { d'.cancelNext.lk with due := none } }
       else if d.tick.periodUse = 0 then
         { d' with tick := { d.tick with
             periodUse := p, pctUse := q, timerNs := d.nowNs, ctrlUse := d'.reg Reg.TK_CTRL, fallback := false, srcLost := false, unsync := false } }
       else d') := by
  simp only [Dev.periodWrite, periodIn_of_inRange hp hq, List.range_zero, List.foldl_nil, Dev.setPeriod_follows, hown, Bool.false_eq_true, if_false,
    Dev.setReg_tick, Dev.setReg_nowNs]

theorem periodWriteTakesEffect : Claims.PeriodWriteTakesEffect := by
  intro p q s hl hq hq'
  refine ⟨fun hfollows hp => ?_, fun hown => ⟨fun ⟨hlo, hhi, hticks⟩ => ?_, fun _ => ?_, fun ⟨hlo, hhi, hstopped⟩ => ?_⟩⟩
  · exact State.runDev_next hl (Dev.periodWrite_following hp ⟨hq, hq'⟩ hfollows)
  · refine State.runDev_next hl ((Dev.periodWrite_own (.inr ⟨hlo, hhi⟩) ⟨hq, hq'⟩ hown).trans ?_)
    exact (if_neg (by omega)).trans (if_neg hticks)
  · have hstop := Dev.periodWrite_own (.inl rfl) ⟨hq, hq'⟩ hown
    rw [if_pos rfl, Nat.zero_add] at hstop
    exact State.runDev_next hl hstop
  · refine State.runDev_next hl ((Dev.periodWrite_own (.inr ⟨hlo, hhi⟩) ⟨hq, hq'⟩ hown).trans ?_)
    exact (if_neg (by omega)).trans (if_pos hstopped)

/-! ## The statement -/

/-- Settles O12: a due edge that nothing holds back is made, and each request, write or end of a table comes to that or to what holds it. -/
theorem tickRequestsAndEdgesComplete : Obligations.TickRequestsAndEdgesComplete :=
  ⟨dueEdgeIsMade, heldRequestMakesItsEdge, tickInRequestByTime, kickByTime, droppedRequestIsCounted, freeEdgeIsMade, sourceLossFallsBack,
    periodWriteTakesEffect, tableFinishMakesTheHeldEdge, tableFinishGatesTheClocks, overrunAbortsTheTable⟩

end Sys2Proof.Machine
end

section
/-! PROOF. The composer's commands (R53, R55 to R57, R63, R71, R351): the end of a packing, the commands of the fragment store and what they leave of the
valid bits, the rules and the counters. From that the statement ComposerCommandsComplete. -/

namespace Sys2Proof.Machine

/-! ## The end of a packing (R71, R351) -/

theorem tableBecomesFinal : Claims.TableBecomesFinal := by
  intro s hl hstarted hfinal hpower hon htime htrunc
  have hdue : (s.dev.tick.started && !s.dev.tick.final && decide (s.dev.pstate = 0) && s.dev.tickOn &&
      decide (s.dev.perNs * 17 ≤ s.dev.sinceEdge * 20)) = true := by simp [hstarted, hfinal, hpower, hon, htime]
  change execTableFinal s = _
  refine State.runDev_next hl ?_
  rw [if_pos hdue, htrunc]
  rfl

/-- The core with TRUNC set and the end of the allowance noted for this packing. -/
def Dev.truncShown (d : Dev) : Dev := { d with tick := { d.tick with onced := d.tick.onced ++ [(0xF002, 0)], trunc := true } }

/-- The end of an allowance is shown and counted once for a packing. -/
theorem Dev.showTrunc_first {d : Dev} (h : (0xF002, 0) ∉ d.tick.onced) : d.showTrunc = d.truncShown.incReg Reg.TK_TRUNC 1 := by
  simp only [Dev.showTrunc, Dev.once_of_notMem h, if_true]
  rfl

theorem allowanceSpentShowsTrunc : Claims.AllowanceSpentShowsTrunc := by
  intro s hl hpend hfirst
  have hexec : exec .allowanceSpent s = .next (s.onDev fun d => d.truncShown.incReg Reg.TK_TRUNC 1) :=
    State.runDev_next hl ((if_pos hpend).trans (Dev.showTrunc_first hfirst))
  have hreg : ∀ o, (s.dev.truncShown.incReg Reg.TK_TRUNC 1).reg o = if o = Reg.TK_TRUNC then satAdd (s.dev.reg Reg.TK_TRUNC) 1 else s.dev.reg o :=
    fun o => Dev.reg_incReg _ _ _ _
  exact ⟨_, hexec, rfl, (hreg _).trans (if_pos rfl), fun o ho => (hreg o).trans (if_neg ho), rfl, rfl, rfl, rfl, rfl, rfl⟩

/-! ## Valid bits and residency (R55 to R57, R96) -/

/-- The core with another record of the tick unit. -/
def Dev.withTick (d : Dev) (tick : TickSt) : Dev := { d with tick := tick }

@[simp] theorem Dev.withTick_tick (d : Dev) (tick : TickSt) : (d.withTick tick).tick = tick := rfl

@[simp] theorem Dev.withTick_regs (d : Dev) (tick : TickSt) : (d.withTick tick).regs = d.regs := rfl
@[simp] theorem Dev.withTick_dram (d : Dev) (tick : TickSt) : (d.withTick tick).dram = d.dram := rfl

theorem Dev.withTick_withTick (d : Dev) (tick tick' : TickSt) : (d.withTick tick).withTick tick' = d.withTick tick' := rfl

/-- The tick unit with other valid bits for the next edge. -/
def TickSt.pend (tick : TickSt) (v : Tab (Option Bool)) : TickSt := { tick with validPend := v }

/-- The tick unit once the fragment store has ended a command for a fragment (R55). -/
def TickSt.fsEnded (tick : TickSt) (id : Nat) : TickSt := { tick with fsOp := 0, lastId := id }

theorem Dev.setValid_eq (d : Dev) (id : Nat) (b : Bool) :
    d.setValid id b = d.withTick (d.tick.pend (tabSet noValid d.tick.validPend id (some b))) := rfl

/-- Giving several valid bits one value of the next edge changes those bits alone. -/
theorem Dev.foldl_setValid (ids : List Nat) (b : Bool) (d : Dev) :
    ∃ v, ids.foldl (fun d i => d.setValid i b) d = d.withTick (d.tick.pend v) ∧
      ∀ j, tabGet noValid v j = if j ∈ ids then some b else tabGet noValid d.tick.validPend j := by
  induction ids generalizing d with
  | nil => exact ⟨d.tick.validPend, rfl, fun j => (if_neg List.not_mem_nil).symm⟩
  | cons i ids ih =>
    obtain ⟨v, hfold, hv⟩ := ih (d.setValid i b)
    refine ⟨v, hfold, fun j => (hv j).trans ?_⟩
    have hbit := tabGet_tabSet noValid d.tick.validPend i j (some b)
    by_cases hj : j ∈ ids <;> simp [hj, Dev.setValid_eq, TickSt.pend, hbit]

/-- Ending the residency of images changes records of tiles alone. -/
theorem Dev.unload_tilesOnly (d : Dev) (p : Nat → Bool) : ∃ tiles, d.unload p = { d with tiles := tiles } := by
  unfold Dev.unload
  refine List.foldlRecOn _ _ (motive := fun d' : Dev => ∃ tiles, d' = { d with tiles := tiles }) ⟨d.tiles, rfl⟩ ?_
  rintro _ ⟨tiles, rfl⟩ t -
  exact ⟨_, rfl⟩

theorem Dev.foldl_updTile_withTick (f : TileSt → TileSt) (ts : List Nat) (d : Dev) (tick : TickSt) :
    ts.foldl (fun d t => d.updTile t f) (d.withTick tick) = (ts.foldl (fun d t => d.updTile t f) d).withTick tick := by
  induction ts generalizing d with
  | nil => rfl
  | cons t ts ih => exact ih (d.updTile t f)

/-- Ending the residency does not hang on the tick unit. -/
theorem Dev.unload_withTick (d : Dev) (p : Nat → Bool) (tick : TickSt) : (d.withTick tick).unload p = (d.unload p).withTick tick :=
  Dev.foldl_updTile_withTick _ _ d tick

@[simp] theorem Dev.unload_regs (d : Dev) (p : Nat → Bool) : (d.unload p).regs = d.regs := by
  obtain ⟨tiles, h⟩ := d.unload_tilesOnly p
  rw [h]

@[simp] theorem Dev.unload_dram (d : Dev) (p : Nat → Bool) : (d.unload p).dram = d.dram := by
  obtain ⟨tiles, h⟩ := d.unload_tilesOnly p
  rw [h]

/-! ## The commands of the fragment store (R55, R57) -/

/-- With no other command under way, one runs at once. -/
theorem Dev.fsRun_idle {d : Dev} (h : d.tick.fsOp = 0) (op id : Nat) : d.fsRun op id = d.fsDo op id := by
  simp [Dev.fsRun, h]

theorem validateDecides : Claims.ValidateDecides := by
  intro frag s hl hidle
  refine ⟨_, State.runDev_live _ hl, ?_⟩
  simp only [State.onDev, Dev.fsRun_idle hidle, Dev.fsDo, if_true, Dev.validate]

/-- INVALIDATE clears one bit of the next edge and ends the residency of the fragment's images. -/
theorem Dev.fsDo_invalidate (d : Dev) (id : Nat) : d.fsDo 2 id = (d.unload (fun i => decide (i = id))).withTick
    ((d.tick.fsEnded id).pend (tabSet noValid d.tick.validPend id (some false))) := by
  have hdo : d.fsDo 2 id = ((d.withTick (d.tick.fsEnded id)).unload (fun i => decide (i = id))).setValid id false := by
    rw [Dev.fsDo, if_neg (by decide), if_pos rfl]
    rfl
  rw [hdo, Dev.unload_withTick, Dev.setValid_eq, Dev.withTick_withTick, Dev.withTick_tick, TickSt.fsEnded]

theorem invalidateClearsOne : Claims.InvalidateClearsOne := by
  intro frag s hl hidle
  have hrun := (Dev.fsRun_idle hidle 2 frag.toNat).trans (s.dev.fsDo_invalidate frag.toNat)
  generalize s.dev.unload (fun i => decide (i = frag.toNat)) = d at hrun ⊢
  have hbit := tabGet_tabSet noValid s.dev.tick.validPend frag.toNat (v := some false)
  refine ⟨_, State.runDev_next hl (g := fun _ => d.withTick _) hrun, (hbit _).trans (if_pos rfl), fun i hi => (hbit i).trans (if_neg hi), ?_⟩
  exact congrArg (fun op => d.withTick ({ s.dev.tick with fsOp := op, lastId := frag.toNat }.pend
    (tabSet noValid s.dev.tick.validPend frag.toNat (some false)))) hidle.symm

/-- The fragments whose valid bit is set or pending. -/
def Dev.validIds (d : Dev) : List Nat := d.tick.valid.map (·.1) ++ d.tick.validPend.map (·.1)

/-- INVALIDATE_ALL clears every bit that is set or pending, and no image stays resident. -/
theorem Dev.fsDo_invalidateAll (d : Dev) :
    ∃ v, d.fsDo 3 0 = (d.unload (fun _ => true)).withTick ((d.tick.fsEnded 0).pend v) ∧ ∀ i ∈ d.validIds, tabGet noValid v i = some false := by
  have hdo : d.fsDo 3 0 = d.validIds.foldl (fun d i => d.setValid i false) ((d.withTick (d.tick.fsEnded 0)).unload (fun _ => true)) := by
    rw [Dev.fsDo, if_neg (by decide), if_neg (by decide)]
    rfl
  obtain ⟨v, hfold, hv⟩ := Dev.foldl_setValid d.validIds false ((d.unload (fun _ => true)).withTick (d.tick.fsEnded 0))
  refine ⟨v, ?_, fun i hi => (hv i).trans (if_pos hi)⟩
  rw [hdo, Dev.unload_withTick, hfold, Dev.withTick_withTick, Dev.withTick_tick]

theorem invalidateAllClearsAll : Claims.InvalidateAllClearsAll := by
  intro s hl hidle
  obtain ⟨v, hdo, hclear⟩ := s.dev.fsDo_invalidateAll
  have hrun := (Dev.fsRun_idle hidle 3 0).trans hdo
  have hregs := s.dev.unload_regs (fun _ => true)
  have hdram := s.dev.unload_dram (fun _ => true)
  generalize s.dev.unload (fun _ => true) = d at hrun hregs hdram
  exact ⟨_, State.runDev_next hl (g := fun _ => d.withTick _) hrun, fun e he => hclear _ (List.mem_append_left _ (List.mem_map_of_mem he)),
    fun e he => hclear _ (List.mem_append_right _ (List.mem_map_of_mem he)), (d.withTick_regs _).trans hregs,
    (d.withTick_dram _).trans hdram, rfl, rfl⟩

theorem fragmentStoreBaseWrite : Claims.FragmentStoreBaseWrite := fun _ _ _ hl => State.runDev_next hl rfl

/-! ## Rules and counters (R53, R63) -/

theorem ruleCommitWaitsForTheEdge : Claims.RuleCommitWaitsForTheEdge := by
  intro v s hl
  have hexec : exec (.tkRuleCommit v) s = .next (s.onDev fun d => d.ruleCommit v) := State.runDev_live _ hl
  rw [hexec]
  cases hv : v.getLsbD 0 <;> simp only [State.onDev, Dev.ruleCommit, bit, hv, Bool.false_eq_true, if_false, if_true]

theorem edgeCopiesTheShadowRules : Claims.EdgeCopiesTheShadowRules := fun _ => ⟨rfl, rfl⟩

/-- Registers that go back to their reset values, the others as they were. -/
theorem Dev.reg_resetRegs (d : Dev) (offs : List Nat) (o : Nat) : (d.resetRegs offs).reg o = if o ∈ offs then regReset o else d.reg o := by
  induction offs generalizing d with
  | nil => exact (if_neg List.not_mem_nil).symm
  | cons p offs ih =>
    have hrest : (d.resetRegs (p :: offs)).reg o = if o ∈ offs then regReset o else (d.setReg p (regReset p)).reg o := ih _
    rw [hrest, Dev.reg_setReg]
    by_cases ho : o ∈ offs <;> by_cases hp : o = p <;> simp [ho, hp]

theorem Dev.resetRegs_frame (d : Dev) (offs : List Nat) : d.resetRegs offs = { d with regs := (d.resetRegs offs).regs } :=
  List.foldlRecOn _ _ (motive := fun d' : Dev => d' = { d with regs := d'.regs }) rfl fun d' hd o _ =>
    congrArg (fun e : Dev => { e with regs := (d'.setReg o (regReset o)).regs }) hd

/-- The counters of Table 3-15. -/
def tickCounters : List Nat := [Reg.TK_SLIP_TICKS, Reg.TK_SLIP_US, Reg.TK_SLIP_MAX_US, Reg.TK_ABORTS, Reg.TK_DROPPED, Reg.TK_TRUNC]

theorem regReset_tickCounters : ∀ o ∈ tickCounters, regReset o = 0 := by decide

theorem counterClearClears : Claims.CounterClearClears := by
  intro v s hl hv
  have hexec : exec (.tkCntClr v) s = .next (s.onDev fun d => { d.resetRegs tickCounters with tick := { d.tick with slipNs := 0 } }) :=
    State.runDev_next hl (if_pos hv)
  refine ⟨_, hexec, fun o => ?_, ?_⟩
  · change (s.dev.resetRegs tickCounters).reg o = _
    rw [Dev.reg_resetRegs]
    by_cases ho : o ∈ tickCounters
    · rw [if_pos ho, regReset_tickCounters o ho]
      exact (if_pos ho).symm
    · rw [if_neg ho]
      exact (if_neg ho).symm
  · exact congrArg (fun e : Dev => { e with tick := { s.dev.tick with slipNs := 0 } }) (s.dev.resetRegs_frame tickCounters)

/-! ## The statement -/

/-- Settles O13: each command's effect on the packing, the valid bits, the rules or the counters, and what it leaves of the rest. -/
theorem composerCommandsComplete : Obligations.ComposerCommandsComplete :=
  ⟨tableBecomesFinal, allowanceSpentShowsTrunc, validateDecides, invalidateClearsOne, invalidateAllClearsAll, fragmentStoreBaseWrite,
    ruleCommitWaitsForTheEdge, edgeCopiesTheShadowRules, counterClearClears⟩

end Sys2Proof.Machine
end

section
/-! PROOF. Instances on a tile (R74, R83, R95, R96, R100, R210): reading a code directory leaves every tile, a tile that takes one of the table's instances
gets one whole record, and what a code load, the watchdog and the last END of a mask do. From that the statement InstancesRunAndCommit. -/

namespace Sys2Proof.Machine

/-! ## Reading DRAM leaves the tiles (R242, R249 to R251, R257, R258) -/

theorem Dev.ite_tiles {d a b : Dev} {c : Prop} [Decidable c] (ha : a.tiles = d.tiles) (hb : b.tiles = d.tiles) :
    (if c then a else b).tiles = d.tiles := by
  split
  · exact ha
  · exact hb

theorem Dev.countWay_tiles (d : Dev) (t : Tag) (dst : Node) (ws : List Node) (arrives : Bool) (n : Nat) :
    (d.countWay t dst ws arrives n).tiles = d.tiles := by
  unfold Dev.countWay
  dsimp only
  split
  · exact Dev.ite_tiles rfl rfl
  · rfl

theorem Dev.traffic_tiles (d : Dev) (src dst : Node) (ty n : Nat) : (d.traffic src dst ty n).tiles = d.tiles := d.countWay_tiles _ _ _ _ _

theorem Dev.dramTraffic_tiles (d : Dev) (ch port n : Nat) (write : Bool) : (d.dramTraffic ch port n write).tiles = d.tiles := by
  unfold Dev.dramTraffic
  split
  · rfl
  · refine Dev.ite_tiles ?_ ?_ <;> rw [Dev.traffic_tiles, Dev.traffic_tiles]

theorem Dev.qosRequest_tiles (d : Dev) (ch port : Nat) (late : Bool) : (d.qosRequest ch port late).tiles = d.tiles :=
  Dev.ite_tiles ((congrArg Dev.tiles (Dev.logOnce_unnoted _ _ _ _) :)) rfl

/-- A run of updates, each of which keeps the tiles, keeps them. -/
theorem Dev.foldl_tiles {α : Type} {f : Dev → α → Dev} (h : ∀ d x, (f d x).tiles = d.tiles) (xs : List α) (d : Dev) :
    (xs.foldl f d).tiles = d.tiles :=
  List.foldlRecOn xs f (motive := fun d' => d'.tiles = d.tiles) rfl (fun d' hd x _ => (h d' x).trans hd)

theorem Dev.wqWait_tiles (d : Dev) (k : Nat) : (d.wqWait k).tiles = d.tiles := rfl

theorem Dev.wqPush_tiles (d : Dev) (k : Nat) (us : List Nat) : (d.wqPush k us).tiles = d.tiles := rfl

theorem Dev.dramRequests_tiles (d : Dev) (port a n : Nat) (ev : DramEv) (write : Bool) : (d.dramRequests port a n ev write).tiles = d.tiles := by
  unfold Dev.dramRequests
  refine Dev.foldl_tiles (fun d c => ?_) _ d
  refine Dev.ite_tiles ?_ ?_
  · rw [Dev.wqPush_tiles, Dev.dramTraffic_tiles, Dev.qosRequest_tiles]
  · rw [Dev.wqWait_tiles, Dev.dramTraffic_tiles, Dev.qosRequest_tiles]

theorem Dev.logS_tiles (d : Dev) (code : Nat) (e : ErrAt) : (d.logS code e).tiles = d.tiles := (congrArg Dev.tiles (d.logS_unnoted code e) :)

theorem Dev.logSev_tiles (d : Dev) (code sev : Nat) (e : ErrAt) : (d.logSev code sev e).tiles = d.tiles :=
  (congrArg Dev.tiles (d.logSev_unnoted code sev e) :)

theorem Dev.touchPage_tiles (d : Dev) (a port : Nat) (last : Bool) : (d.touchPage a port last).tiles = d.tiles := by
  unfold Dev.touchPage
  generalize d.dramPlace a = place
  rfl

theorem Dev.readUnit_tiles (d : Dev) (a port : Nat) (who : Option Nat) (ev : DramEv) : (d.readUnit a port who ev).2.tiles = d.tiles := by
  unfold Dev.readUnit
  generalize d.dramPlace a = place
  obtain ⟨ch, o⟩ := place
  dsimp only
  rw [← d.touchPage_tiles a port true]
  generalize d.touchPage a port true = d
  split_ifs <;> simp only [Dev.logS_tiles, Dev.logSev_tiles] <;> rfl

theorem Dev.readUnits_tiles (d : Dev) (port : Nat) (who : Option Nat) (ev : DramEv) (us : List Nat) (i : Nat) :
    (d.readUnits port who ev us i).2.tiles = d.tiles := by
  induction us generalizing d i with
  | nil => rfl
  | cons u us ih =>
    have hunit := d.readUnit_tiles (u * 64) port who (ev.at_ i)
    unfold Dev.readUnits
    generalize d.readUnit (u * 64) port who (ev.at_ i) = r at hunit ⊢
    obtain ⟨_ | c, d'⟩ := r
    · exact (ih d' (i + 1)).trans hunit
    · exact hunit

theorem Dev.readDram_tiles (d : Dev) (a n port : Nat) (who : Option Nat) (ev : DramEv) : (d.readDram a n port who ev).2.tiles = d.tiles := by
  unfold Dev.readDram Dev.readLines
  rw [Dev.readUnits_tiles]
  split
  · rfl
  · exact d.dramRequests_tiles _ _ _ _ _

/-- The directory entry of a tile is read without a change of any tile. -/
theorem Dev.readEntry_tile (d : Dev) (x : Inst) (t : Nat) (who : Option Nat) (u : Nat) : (d.readEntry x t who).2.tile u = d.tile u := by
  have htiles : (d.readEntry x t who).2.tiles = d.tiles := by
    unfold Dev.readEntry
    split
    · rfl
    · exact d.readDram_tiles _ _ _ _ _
  rw [Dev.tile, htiles, Dev.tile]

/-! ## A tile begins its part of the table (R83, R95, R96, R210) -/

/-- The image that a tile runs of `x`, where its code directory entry is `c`. -/
def Inst.image (x : Inst) (c : Nat × Nat × Nat) : Resident := { frag := x.frag, base := c.2.2, len := c.2.1 }

/-- The resident images of a tile when it begins a fragment: a preloaded one is among them, and those that it overlaps no longer are (R96). -/
def TileSt.images (ts : TileSt) : List Resident :=
  match ts.pre with
  | some r => ts.resident.filter (fun q => !(q.overlaps r.base r.len)) ++ [r]
  | none => ts.resident

theorem TileSt.images_contains {ts : TileSt} {img : Resident}
    (h : ts.pre = some img ∨ (ts.pre = none ∧ ts.resident.contains img = true)) : ts.images.contains img = true := by
  rcases h with hpre | ⟨hpre, hres⟩
  · simp [TileSt.images, hpre]
  · rwa [TileSt.images, hpre]

theorem TileSt.images_lacks {ts : TileSt} {img : Resident} (hres : ts.resident.contains img = false) (hpre : ts.pre ≠ some img) :
    ts.images.contains img = false := by
  unfold TileSt.images
  split
  next r hr =>
    have hne : img ≠ r := fun h => hpre (h ▸ hr)
    have hmem : img ∉ ts.resident := by simpa using hres
    simp [hmem, hne]
  next => exact hres

/-- The record of a tile that takes `x`, number `i` of the running table, at time `now`, with the end of its ramp: `c` is its code directory entry, `sq`
and `tl` the tile's SQ_CTRL and TL_CTRL. -/
def TileSt.take (ts : TileSt) (i : Nat) (x : Inst) (c : Nat × Nat × Nat) (now : Nat) (sq tl : Word) (rampEnd : Nat) : TileSt :=
  { ts with cur := some i, loading := true, ready := false, drain := false, align := false, halted := false,
            frag := x.frag, pc := c.2.2, imgBase := c.2.2, imgLen := c.2.1, ix := List.replicate 16 0,
            lc := List.replicate 8 0, p := (x.params ++ List.replicate 16 0).take 16, loops := [],
            queues := [[], [], [], []], disp := [0, 0, 0, 0], comp := [0, 0, 0, 0], pendIx := [],
            mxw := [false, false], vxr := [false, false], aligns := 0, cyc := 0, cycNs := now,
            divLog := fld (w32 x.flags) 3 2, wdogMult := fld sq 0 4,
            confHalt := bit tl 0, confSeen := false, preload := bit sq 8, block := none, arrived := [],
            resident := ts.images, pre := none, firstDone := true, rampUntil := rampEnd }

/-- A ramp release changes one tile's record, and in it the end of the ramp. -/
theorem Dev.TileOnly.ramp {d d' : Dev} {t : Nat} {ts : TileSt} (h : d.TileOnly t ts d') :
    ∃ n, d.TileOnly t { ts with rampUntil := n } (d'.ramp t) := by
  unfold Dev.ramp
  dsimp only
  split
  · exact ⟨ts.rampUntil, h⟩
  · exact ⟨_, h.updTile _⟩

/-- INSTANCE_START of a tile whose directory entry can be read: its record is that of a tile that takes the fragment, and the code begins where its
image is resident. Evaluating the capacity of DRAM, a product with 2^20, is beyond the kernel: so `readEntry`, which looks at it,
becomes a variable. -/
theorem instanceStart_takes {t : Fin 64} {s : State} {i : Nat} {x : Inst} {d : Dev} (hl : s.live = true)
    (hnext : nextInst s.dev.tick.cur t 0 = some (i, x)) (hrun : s.dev.inRun = true) (hidle : (s.dev.tile t).cur = none)
    (hreset : (s.dev.tile t).inReset = false) (hread : s.dev.readEntry x t (some i) = (none, d)) :
    ∃ n sq tl d',
      (d.setInst i { x with status := .running }).TileOnly t ((s.dev.tile t).take i x (s.dev.codeEntry x t) d.nowNs sq tl n) d' ∧
      exec (.instanceStart t) s = .next (s.onDev fun _ =>
        if (d'.tile t).resident.contains (x.image (s.dev.codeEntry x t)) then d'.beginCode t (s.dev.codeEntry x t).2.2 else d') := by
  have hgo : (s.dev.inRun && (s.dev.tile t).cur.isNone && !(s.dev.tile t).inReset) = true := by simp [hrun, hidle, hreset]
  have htile := s.dev.readEntry_tile x t (some i) t
  have hexec : exec (.instanceStart t) s = execInstanceStart t s := rfl
  rw [hexec, execInstanceStart, State.runDev_live _ hl]
  obtain ⟨readEntry, hre⟩ : ∃ f, @Dev.readEntry = f := ⟨_, rfl⟩
  rw [hre] at hread htile ⊢
  rw [hread] at htile
  simp only [State.onDev, hnext, hgo, if_true, hread]
  let d₁ := d.setInst i { x with status := .running }
  let sq := s.dev.reg (Reg.SQ_CTRL t)
  let tl := d₁.reg (Reg.TL_CTRL t)
  have hsame : d₁.TileOnly t (s.dev.tile t) d₁ := ⟨htile, fun _ _ => rfl, rfl⟩
  have htakes := hsame.updTile (fun ts => ts.take i x (s.dev.codeEntry x t) d.nowNs sq tl ts.rampUntil)
  cases hdone : (s.dev.tile t).firstDone
  · obtain ⟨n, hramp⟩ := htakes.ramp
    exact ⟨n, sq, tl, _, hramp, rfl⟩
  · exact ⟨_, sq, tl, _, htakes, rfl⟩

theorem instanceStarts : Claims.InstanceStarts := by
  intro t s i x hl hnext hrun hidle hreset
  obtain ⟨⟨err, d⟩, hentry⟩ : ∃ r, s.dev.readEntry x t (some i) = r := ⟨_, rfl⟩
  rw [hentry]
  intro c r img hread hres hpre
  obtain rfl : err = none := hread
  obtain ⟨n, sq, tl, d', ⟨htile, hother, hframe⟩, hexec⟩ := instanceStart_takes hl hnext hrun hidle hreset hentry
  have hload : (d'.tile t).resident.contains (x.image (s.dev.codeEntry x t)) = false := by
    rw [htile]
    exact TileSt.images_lacks hres hpre
  have hstarts : exec (.instanceStart t) s = .next (s.onDev fun _ => d') := by
    rw [hexec, if_neg (Bool.eq_false_iff.mp hload)]
  have hfield : ∀ {α : Type} (f : TileSt → α), f (d'.tile t) = f ((s.dev.tile t).take i x c d.nowNs sq tl n) :=
    fun f => congrArg f htile
  exact ⟨_, hstarts, hfield (·.cur), hfield (·.loading), hfield (·.ready), hfield (·.pc), hfield (·.imgBase), hfield (·.imgLen), hfield (·.ix),
    hfield (·.lc), hfield (·.loops), hfield (·.p), hfield (·.block), hfield (·.cyc), hother, (congrArg Dev.mem hframe :),
    (congrArg Dev.dram hframe :), (congrArg Dev.regs hframe :), rfl, rfl⟩

/-- The code of a tile that runs a fragment begins at an address of its image: dispatch starts there. -/
theorem Dev.beginCode_begins {d : Dev} {t base : Nat} (hcur : (d.tile t).cur.isSome = true)
    (himg : (d.tile t).imgBase ≤ base ∧ base < (d.tile t).imgBase + (d.tile t).imgLen) :
    ((d.beginCode t base).tile t).cur = (d.tile t).cur ∧ ((d.beginCode t base).tile t).loading = false ∧
      ((d.beginCode t base).tile t).ready = true ∧ ((d.beginCode t base).tile t).pc = base := by
  have hrun : (d.tile t).cur.isNone = false := by rw [← Option.not_isSome, hcur]; rfl
  simp [Dev.beginCode, Dev.advance, hrun, himg]

theorem residentInstanceStarts : Claims.ResidentInstanceStarts := by
  intro t s i x hl hnext hrun hidle hreset
  obtain ⟨⟨err, d⟩, hentry⟩ : ∃ r, s.dev.readEntry x t (some i) = r := ⟨_, rfl⟩
  rw [hentry]
  intro c img hread hlen hheld
  obtain rfl : err = none := hread
  obtain ⟨n, sq, tl, d', ⟨htile, -, -⟩, hexec⟩ := instanceStart_takes hl hnext hrun hidle hreset hentry
  have hload : (d'.tile t).resident.contains (x.image (s.dev.codeEntry x t)) = true := by
    rw [htile]
    exact TileSt.images_contains hheld
  have hstarts : exec (.instanceStart t) s = .next (s.onDev fun _ => d'.beginCode t c.2.2) := by
    rw [hexec, if_pos hload]
  have hcur : (d'.tile t).cur = some i := congrArg TileSt.cur htile
  have hbase : (d'.tile t).imgBase = c.2.2 := congrArg TileSt.imgBase htile
  have himg : (d'.tile t).imgLen = c.2.1 := congrArg TileSt.imgLen htile
  obtain ⟨hsame, hloading, hready, hpc⟩ := Dev.beginCode_begins (d := d') (t := t) (base := c.2.2) (by rw [hcur]; rfl) (by omega)
  exact ⟨_, hstarts, hsame.trans hcur, hloading, hready, hpc⟩

/-! ## Code loads, the watchdog and the commit (R74, R95, R96, R100) -/

theorem Dev.instOf_of_cur {d : Dev} {t i : Nat} {x : Inst} (hcur : (d.tile t).cur = some i) (hinst : d.tick.cur[i]? = some x) :
    d.instOf t = some x := by
  rw [Dev.instOf, hcur]
  exact hinst

/-- CODE_LOAD_COMPLETE of a tile that waits for its code. `loadRead` looks at the capacity of DRAM too, and becomes a variable as `readEntry` did. -/
theorem codeLoadComplete_loads {t : Fin 64} {dr : DramEv} {s : State} {i : Nat} {x : Inst} {d : Dev} (hl : s.live = true)
    (hcur : (s.dev.tile t).cur = some i) (hinst : s.dev.tick.cur[i]? = some x) (hload : (s.dev.tile t).loading = true) (hrun : s.dev.inRun = true)
    (hread : s.dev.loadRead x t (some i) dr = (none, d)) :
    exec (.codeLoadComplete t dr false) s = .next (s.onDev fun _ => (d.putImage x t).beginCode t (d.codeEntry x t).2.2) := by
  have hexec : exec (.codeLoadComplete t dr false) s = execCodeLoadComplete t dr false s := rfl
  have hof := Dev.instOf_of_cur hcur hinst
  rw [hexec, execCodeLoadComplete, State.runDev_live _ hl]
  obtain ⟨loadRead, hre⟩ : ∃ f, @Dev.loadRead = f := ⟨_, rfl⟩
  rw [hre] at hread ⊢
  simp only [State.onDev, hcur, hof, hrun, hload, hread, Bool.not_true, Bool.false_eq_true, if_false]

theorem codeLoadCompletes : Claims.CodeLoadCompletes := by
  intro t dr s i x hl hcur hinst hload hrun
  obtain ⟨⟨err, d⟩, hentry⟩ : ∃ r, s.dev.loadRead x t (some i) dr = r := ⟨_, rfl⟩
  rw [hentry]
  intro r c hread
  obtain rfl : err = none := hread
  exact codeLoadComplete_loads hl hcur hinst hload hrun hentry

/-- CODE_LOAD_COMPLETE of a tile that dispatches: the image that it runs next is loaded where the loader may. -/
theorem codeLoadComplete_preloads {t : Fin 64} {dr : DramEv} {s : State} {i : Nat} {x : Inst} (hl : s.live = true)
    (hcur : (s.dev.tile t).cur = some i) (hinst : s.dev.tick.cur[i]? = some x) (hload : (s.dev.tile t).loading = false) (hrun : s.dev.inRun = true) :
    exec (.codeLoadComplete t dr false) s = .next (s.onDev fun d => d.preloadDone t i dr false) := by
  have hexec : exec (.codeLoadComplete t dr false) s = execCodeLoadComplete t dr false s := rfl
  have hof := Dev.instOf_of_cur hcur hinst
  rw [hexec, execCodeLoadComplete, State.runDev_live _ hl]
  obtain ⟨loadRead, hre⟩ : ∃ f, @Dev.loadRead = f := ⟨_, rfl⟩
  obtain ⟨preload, hpreload⟩ : ∃ f, @Dev.preloadDone = f := ⟨_, rfl⟩
  rw [hre, hpreload]
  simp only [State.onDev, hcur, hof, hrun, hload, Bool.not_true, Bool.not_false, Bool.false_eq_true, if_false, if_true]

/-- The image that a tile runs next is preloaded where the tile lets it and neither holds it nor runs code in its place. -/
theorem Dev.preloadDone_loads {d d' : Dev} {t i j : Nat} {y : Inst} {dr : DramEv} (hready : (d.tile t).ready = true)
    (hpreload : (d.tile t).preload = true) (hpre : (d.tile t).pre = none) (hnext : d.nextAfter t i = some (j, y))
    (hres : (d.tile t).resident.contains (y.image (d.codeEntry y t)) = false)
    (hfree : (y.image (d.codeEntry y t)).overlaps (d.tile t).imgBase (d.tile t).imgLen = false)
    (hread : d.loadRead y t none dr = (none, d')) :
    d.preloadDone t i dr false = (d'.putImage y t).updTile t (fun ts => { ts with pre := some (y.image (d.codeEntry y t)) }) := by
  rw [Inst.image] at hres hfree
  rw [Dev.preloadDone]
  obtain ⟨loadRead, hre⟩ : ∃ f, @Dev.loadRead = f := ⟨_, rfl⟩
  rw [hre] at hread ⊢
  simp only [hnext, hready, hpreload, hpre, hres, hfree, hread, Option.isSome_none, Bool.not_true, Bool.or_self, Bool.false_eq_true, if_false]
  rfl

theorem codeLoadPreloads : Claims.CodeLoadPreloads := by
  intro t dr s i j x y hl hcur hinst hrun hload hready hpreload hpre hnext
  obtain ⟨⟨err, d⟩, hentry⟩ : ∃ r, s.dev.loadRead y t none dr = r := ⟨_, rfl⟩
  rw [hentry]
  intro c img r hres hfree hread
  obtain rfl : err = none := hread
  rw [codeLoadComplete_preloads hl hcur hinst hload hrun, State.onDev, Dev.preloadDone_loads hready hpreload hpre hnext hres hfree hentry]
  rfl

theorem watchdogHalts : Claims.WatchdogHalts := by
  intro t s x hl hof
  have hexec : exec (.watchdog t) s = .next (s.onDev fun d =>
      if ((d.tile t).wdogMult + 1) * x.wc < d.divCycles t then d.haltTile t 0x1003 else d) := by
    change execWatchdog t s = _
    refine State.runDev_next hl ?_
    simp only [hof]
  rw [hexec]
  by_cases hlate : ((s.dev.tile t).wdogMult + 1) * x.wc < s.dev.divCycles t
  · rw [if_pos hlate]
    exact congrArg (fun d => Host.Outcome.next { s with dev := d }) (if_pos hlate)
  · rw [if_neg hlate]
    exact congrArg (fun d => Host.Outcome.next { s with dev := d }) (if_neg hlate)

theorem instanceCommits : Claims.InstanceCommits := by
  intro i s x hl hinst
  have hexec : ∀ d, (if x.mask &&& ~~~ x.done = 0 then s.dev.commitInst i else s.dev) = d →
      exec (.instanceCommit i) s = .next (s.onDev fun _ => d) := by
    intro d hd
    change execInstanceCommit i s = _
    refine State.runDev_next hl ?_
    simp only [hinst]
    exact hd
  exact ⟨fun hall => hexec _ (if_pos hall), fun hsome => hexec _ (if_neg hsome)⟩

/-! ## The statement -/

/-- Settles O15: a start gives the tile one whole record, a load its code, and the watchdog and the last END of a mask their ends. -/
theorem instancesRunAndCommit : Obligations.InstancesRunAndCommit :=
  ⟨instanceStarts, residentInstanceStarts, codeLoadCompletes, codeLoadPreloads, watchdogHalts, instanceCommits⟩

end Sys2Proof.Machine
end
